-- ==== Sys2Proof/Word.lean ====
section
/-! DEFINITION. The word types of the C29x CPU and the identifiers the SSU hands out. -/

namespace Sys2Proof

/-- One byte of memory (R120). -/
abbrev Byte := BitVec 8

/-- A 16-bit instruction word or halfword (R170, R128). -/
abbrev Half := BitVec 16

/-- A 32-bit register, address or immediate (R30 to R32, R120). -/
abbrev Word := BitVec 32

/-- A 64-bit register pair or memory value (R33). -/
abbrev DWord := BitVec 64

/-- A LINK identifier, four bits (R560). -/
abbrev LinkId := Fin 16

/-- A STACK identifier, four bits (R561). -/
abbrev StackId := Fin 16

/-- A ZONE number (R21, R562). How many there are is not given; sixteen is the model's choice (log entry 7). -/
abbrev ZoneId := Fin 16

end Sys2Proof
end

