-- ==== Sys2Proof/Syntax.lean ====
section
/-! DEFINITION. The abstract syntax of the C29x instructions: one constructor of `Instr` per row of
spec/opcode_table.json, and the operand forms they are built from. -/

namespace Sys2Proof

/-- A 32-bit working register (R30 to R32). -/
inductive Reg where
  | a (i : Fin 16)
  | d (i : Fin 16)
  | m (i : Fin 32)
  deriving DecidableEq, Repr

/-- A 64-bit register pair, numbered by half its even member (R33): `xa 7` is XA14. -/
inductive XReg where
  | xa (i : Fin 8)
  | xd (i : Fin 8)
  | xm (i : Fin 16)
  deriving DecidableEq, Repr

/-- The bank of an integer ADD or SUB (R453). -/
inductive IBank where
  | a | d
  deriving DecidableEq, Repr

/-- The ADDR1 modes (R186). `N8` and `N13` fields hold the encoded negative offset (R210, R211). -/
inductive Addr1 where
  /-- `*(Ax+#u10imm)`, R324. -/
  | off (x : Fin 16) (imm : BitVec 10)
  /-- `*(Ax+#u10imm<<2)`, R325. -/
  | offScaled (x : Fin 16) (imm : BitVec 10)
  /-- `*(Ax+#u7imm)++Ak`, R338. -/
  | offPost (x : Fin 16) (imm : BitVec 7) (k : Fin 4)
  /-- `*(A15-#n13imm)`, R340. -/
  | spNeg (field : BitVec 13)
  /-- `*(Ax++#u8imm)`, R332 and R341. -/
  | postInc (x : Fin 16) (imm : BitVec 8)
  /-- `*(Ax--#n8imm)`, R333. -/
  | postDec (x : Fin 16) (field : BitVec 8)
  /-- `*(Ax-=#n8imm)`, R334 and R342. -/
  | preDec (x : Fin 16) (field : BitVec 8)
  /-- `*(Ax+Ak<<#u2imm)`, R328. -/
  | index (x : Fin 16) (k : Fin 4) (sh : BitVec 2)
  /-- `*(Aj=(Ax+Ak<<#u2imm))`, R329. -/
  | indexSet (j : Fin 16) (x : Fin 16) (k : Fin 4) (sh : BitVec 2)
  deriving DecidableEq, Repr

/-- The ADDR2 modes (R200). The base is A(4+z). -/
inductive Addr2 where
  | postA0 (z : Fin 4)
  | postA1 (z : Fin 4)
  | idxA0 (z : Fin 4)
  | idxA1 (z : Fin 4)
  | plain (z : Fin 4)
  | postInc (z : Fin 4)
  | postDec (z : Fin 4)
  | preDec (z : Fin 4)
  deriving DecidableEq, Repr

/-- The one ADDR3 mode, `*(Ax+#u8imm<<2)` (R205). -/
structure Addr3 where
  x : Fin 16
  imm : BitVec 8
  deriving DecidableEq, Repr

/-- The twelve relations the A and the D conditions share (R62, R72). -/
inductive RelCond where
  | eq | neq | gt | geq | lt | leq | hi | his | lo | los | eqandnz | neqorz
  deriving DecidableEq, Repr

/-- A D condition (R72). It has no test of a TDM flag (log entry 72). -/
inductive DCond where
  | rel (c : RelCond)
  | ov
  | ovneg
  deriving DecidableEq, Repr

/-- A branch condition (R460): none, an A relation, a TA flag test, TA.MAP, or a D condition. Whether a TDM flag can be tested by a branch is
left open: R460 speaks of "the test flags", R75 calls TDM0 to TDM3 the counterpart of TA0 to TA3, and the lists of R62, R65 and R72 have
no TDM condition. That there is none here is the model's choice (log entry 72, DESIGN CHOICE). -/
inductive Cond where
  | always
  | a (c : RelCond)
  | taZ (i : Fin 4)
  | taNZ (i : Fin 4)
  | taMap (lut : BitVec 16)
  | d (c : DCond)
  deriving DecidableEq, Repr

/-- The target of a generic branch (R238). The operand forms are not in the source; a label or a register, one condition and a delay are
the model's, and so is that TA.MAP goes with a register only (log entry 72; `branchWf`). -/
inductive BrTarget where
  | label (w : Word)
  | reg (x : Fin 16)
  deriving DecidableEq, Repr

/-- A status register that software may load, store, move and mask (R305). -/
inductive StatusReg where
  | dsts | ests
  deriving DecidableEq, Repr

/-- The load, store, move and mask operations on DSTS and ESTS (R305). -/
inductive StatusOp where
  | load (r : StatusReg) (m : Addr1)
  | store (r : StatusReg) (m : Addr1)
  | toReg (r : StatusReg) (dst : Reg)
  | ofReg (r : StatusReg) (src : Reg)
  | andImm (r : StatusReg) (imm : Word)
  | orImm (r : StatusReg) (imm : Word)
  deriving DecidableEq, Repr

/-- A register move, of 32 or of 64 bits (R456). -/
inductive MvRegs where
  | word (dst src : Reg)
  | pair (dst src : XReg)
  deriving DecidableEq, Repr

/-- The operands of a compare, two registers of one bank (R457). -/
inductive CmpRegs where
  | a (y x : Fin 16)
  | d (y x : Fin 16)
  | m (y x : Fin 32)
  deriving DecidableEq, Repr

/-- A test flag, TA0 to TA3 or TDM0 to TDM3 (R65, R75). -/
inductive TestFlag where
  | ta (i : Fin 4)
  | tdm (i : Fin 4)
  deriving DecidableEq, Repr

/-- The flag a TBIT writes: a test flag, or the Z flag of a bank (R458). -/
inductive TestDst where
  | flag (f : TestFlag)
  | az
  | dz
  | mzf
  deriving DecidableEq, Repr

/-- The instructions. The docstring of each constructor names its row of the opcode table and its rule; the rows of
RETI.INT and RETI.RTINT have a plain and a delayed constructor.
A `delay` of 0 is the plain form of a discontinuity, any other the delayed form (R260, decision D31). Every load and store of a register
or a pair takes any bank, which the spec leaves open (R374, log entry 73). -/
inductive Instr where
  /-- `ADD.32_ADDR1`, R424. -/
  | add32Addr1 (m : Addr1)
  /-- `ADD.S16_ADDR1`, R425. -/
  | addS16Addr1 (m : Addr1)
  /-- `ADD.S8_ADDR1`, R426. -/
  | addS8Addr1 (m : Addr1)
  /-- `AND.16_ADDR1__x16`, R413. -/
  | and16Addr1 (m : Addr1) (imm : Half)
  /-- `AND.8_ADDR1`, R414. -/
  | and8Addr1 (m : Addr1) (imm : Byte)
  /-- `AND.U16_ADDR1`, R416. -/
  | andU16Addr1 (m : Addr1)
  /-- `AND.U8_ADDR1`, R417. -/
  | andU8Addr1 (m : Addr1)
  /-- `ANDOR.B0_ADDR1`, R421. -/
  | andorB0Addr1 (m : Addr1)
  /-- `ANDOR.W0_ADDR1`, R422. -/
  | andorW0Addr1 (m : Addr1)
  /-- `LD.32_ADDR1`, R375. -/
  | ld32Addr1 (r : Reg) (m : Addr1)
  /-- `LD.64_ADDR1`, R376. -/
  | ld64Addr1 (x : XReg) (m : Addr1)
  /-- `LD.B0_ADDR1`, R377. -/
  | ldB0Addr1 (r : Reg) (m : Addr1)
  /-- `LD.B1_ADDR1`, R378. -/
  | ldB1Addr1 (r : Reg) (m : Addr1)
  /-- `LD.B2_ADDR1`, R379. -/
  | ldB2Addr1 (r : Reg) (m : Addr1)
  /-- `LD.B3_ADDR1`, R380. -/
  | ldB3Addr1 (r : Reg) (m : Addr1)
  /-- `LD.S16_ADDR1`, R383. -/
  | ldS16Addr1 (r : Reg) (m : Addr1)
  /-- `LD.S8_ADDR1`, R384. -/
  | ldS8Addr1 (r : Reg) (m : Addr1)
  /-- `LD.U16_ADDR1`, R385. -/
  | ldU16Addr1 (r : Reg) (m : Addr1)
  /-- `LD.U8_ADDR1`, R386. -/
  | ldU8Addr1 (r : Reg) (m : Addr1)
  /-- `LD.W0_ADDR1`, R381. -/
  | ldW0Addr1 (r : Reg) (m : Addr1)
  /-- `LD.W1_ADDR1`, R382. -/
  | ldW1Addr1 (r : Reg) (m : Addr1)
  /-- `MV.16_ADDR1_ADDR1`, R403. -/
  | mv16Addr1 (dst : Addr1) (src : Addr1)
  /-- `MV.32_ADDR1_ADDR1`, R401. -/
  | mv32Addr1 (dst : Addr1) (src : Addr1)
  /-- `MV.64_ADDR1_ADDR1`, R402. -/
  | mv64Addr1 (dst : Addr1) (src : Addr1)
  /-- `MV.8_ADDR1_ADDR1`, R404. -/
  | mv8Addr1 (dst : Addr1) (src : Addr1)
  /-- `MV.U16_ADDR1`, R405. -/
  | mvU16Addr1 (m : Addr1)
  /-- `MV.U8_ADDR1`, R406. -/
  | mvU8Addr1 (m : Addr1)
  /-- `OR.16_ADDR1__x16`, R410. -/
  | or16Addr1 (m : Addr1) (imm : Half)
  /-- `OR.8_ADDR1`, R411. -/
  | or8Addr1 (m : Addr1) (imm : Byte)
  /-- `RET_D__ADDR1`, R235. -/
  | retAddr1 (m : Addr1) (delay : Fin 8)
  /-- `S16TOF_ADDR1`, R433. -/
  | s16tofAddr1 (m : Addr1)
  /-- `ST.16_ADDR1`, R392. -/
  | st16Addr1 (m : Addr1) (imm : Half)
  /-- `ST.32_ADDR1`, R390. -/
  | st32Addr1 (m : Addr1) (r : Reg)
  /-- `ST.64_ADDR1`, R391. -/
  | st64Addr1 (m : Addr1) (x : XReg)
  /-- `ST.8_ADDR1`, R393. -/
  | st8Addr1 (m : Addr1) (imm : Byte)
  /-- `ST.B0_ADDR1`, R394. -/
  | stB0Addr1 (m : Addr1) (r : Reg)
  /-- `ST.B1_ADDR1`, R395. -/
  | stB1Addr1 (m : Addr1) (r : Reg)
  /-- `ST.B2_ADDR1`, R396. -/
  | stB2Addr1 (m : Addr1) (r : Reg)
  /-- `ST.B3_ADDR1`, R397. -/
  | stB3Addr1 (m : Addr1) (r : Reg)
  /-- `ST.W0_ADDR1`, R398. -/
  | stW0Addr1 (m : Addr1) (r : Reg)
  /-- `ST.W1_ADDR1`, R399. -/
  | stW1Addr1 (m : Addr1) (r : Reg)
  /-- `SUB.32_ADDR1`, R427. -/
  | sub32Addr1 (m : Addr1)
  /-- `SUB.S16_ADDR1`, R428. -/
  | subS16Addr1 (m : Addr1)
  /-- `SUB.S8_ADDR1`, R429. -/
  | subS8Addr1 (m : Addr1)
  /-- `SUBR.32_ADDR1`, R430. -/
  | subr32Addr1 (m : Addr1)
  /-- `SUBR.S16_ADDR1`, R431. -/
  | subrS16Addr1 (m : Addr1)
  /-- `SUBR.S8_ADDR1`, R432. -/
  | subrS8Addr1 (m : Addr1)
  /-- `U16TOF_ADDR1`, R434. -/
  | u16tofAddr1 (m : Addr1)
  /-- `XOR.16_ADDR1__x16`, R418. -/
  | xor16Addr1 (m : Addr1) (imm : Half)
  /-- `XOR.8_ADDR1`, R419. -/
  | xor8Addr1 (m : Addr1) (imm : Byte)
  /-- `AND.32_ADDR2`, R415. -/
  | and32Addr2 (m : Addr2)
  /-- `ANDOR_ADDR2`, R423. -/
  | andorAddr2 (m : Addr2)
  /-- `LD.32_ADDR2`, R375. -/
  | ld32Addr2 (r : Reg) (m : Addr2)
  /-- `LD.64_ADDR2`, R376. -/
  | ld64Addr2 (x : XReg) (m : Addr2)
  /-- `MV.16_ADDR2`, R403. -/
  | mv16Addr2 (m : Addr2)
  /-- `MV.32_ADDR2`, R401. -/
  | mv32Addr2 (m : Addr2)
  /-- `MV.64_ADDR2`, R402. -/
  | mv64Addr2 (m : Addr2)
  /-- `MV.8_ADDR2`, R404. -/
  | mv8Addr2 (m : Addr2)
  /-- `OR.32_ADDR2`, R412. -/
  | or32Addr2 (m : Addr2)
  /-- `ST.16_ADDR2`, R392. -/
  | st16Addr2 (m : Addr2) (imm : Half)
  /-- `ST.32_ADDR2`, R390. -/
  | st32Addr2 (m : Addr2) (r : Reg)
  /-- `ST.64_ADDR2`, R391. -/
  | st64Addr2 (m : Addr2) (x : XReg)
  /-- `ST.8_ADDR2`, R393. -/
  | st8Addr2 (m : Addr2) (imm : Byte)
  /-- `XOR.32_ADDR2`, R420. -/
  | xor32Addr2 (m : Addr2)
  /-- `MV.32_ADDR3_ADDR3`, R400. -/
  | mv32Addr3 (dst : Addr3) (src : Addr3)
  /-- `LD.32_DIRM___u32imm`, R375. -/
  | ld32Dirm (r : Reg) (addr : Word)
  /-- `LD.32_DIRM____Ax+_u28imm`, R375. -/
  | ld32DirmIx (r : Reg) (base : Fin 16) (off : BitVec 28)
  /-- `LD.64_DIRM___u32imm`, R376. -/
  | ld64Dirm (x : XReg) (addr : Word)
  /-- `LD.64_DIRM____Ax+_u28imm`, R376. -/
  | ld64DirmIx (x : XReg) (base : Fin 16) (off : BitVec 28)
  /-- `LD.B0_DIRM___u32imm`, R377. -/
  | ldB0Dirm (r : Reg) (addr : Word)
  /-- `LD.B0_DIRM____Ax+_u28imm`, R377. -/
  | ldB0DirmIx (r : Reg) (base : Fin 16) (off : BitVec 28)
  /-- `LD.B1_DIRM___u32imm`, R378. -/
  | ldB1Dirm (r : Reg) (addr : Word)
  /-- `LD.B1_DIRM____Ax+_u28imm`, R378. -/
  | ldB1DirmIx (r : Reg) (base : Fin 16) (off : BitVec 28)
  /-- `LD.B2_DIRM___u32imm`, R379. -/
  | ldB2Dirm (r : Reg) (addr : Word)
  /-- `LD.B2_DIRM____Ax+_u28imm`, R379. -/
  | ldB2DirmIx (r : Reg) (base : Fin 16) (off : BitVec 28)
  /-- `LD.B3_DIRM___u32imm`, R380. -/
  | ldB3Dirm (r : Reg) (addr : Word)
  /-- `LD.B3_DIRM____Ax+_u28imm`, R380. -/
  | ldB3DirmIx (r : Reg) (base : Fin 16) (off : BitVec 28)
  /-- `LD.S16_DIRM___u32imm`, R383. -/
  | ldS16Dirm (r : Reg) (addr : Word)
  /-- `LD.S16_DIRM____Ax+_u28imm`, R383. -/
  | ldS16DirmIx (r : Reg) (base : Fin 16) (off : BitVec 28)
  /-- `LD.S8_DIRM___u32imm`, R384. -/
  | ldS8Dirm (r : Reg) (addr : Word)
  /-- `LD.S8_DIRM____Ax+_u28imm`, R384. -/
  | ldS8DirmIx (r : Reg) (base : Fin 16) (off : BitVec 28)
  /-- `LD.U16_DIRM___u32imm`, R385. -/
  | ldU16Dirm (r : Reg) (addr : Word)
  /-- `LD.U16_DIRM____Ax+_u28imm`, R385. -/
  | ldU16DirmIx (r : Reg) (base : Fin 16) (off : BitVec 28)
  /-- `LD.U8_DIRM___u32imm`, R386. -/
  | ldU8Dirm (r : Reg) (addr : Word)
  /-- `LD.U8_DIRM____Ax+_u28imm`, R386. -/
  | ldU8DirmIx (r : Reg) (base : Fin 16) (off : BitVec 28)
  /-- `LD.W0_DIRM___u32imm`, R381. -/
  | ldW0Dirm (r : Reg) (addr : Word)
  /-- `LD.W0_DIRM____Ax+_u28imm`, R381. -/
  | ldW0DirmIx (r : Reg) (base : Fin 16) (off : BitVec 28)
  /-- `LD.W1_DIRM___u32imm`, R382. -/
  | ldW1Dirm (r : Reg) (addr : Word)
  /-- `LD.W1_DIRM____Ax+_u28imm`, R382. -/
  | ldW1DirmIx (r : Reg) (base : Fin 16) (off : BitVec 28)
  /-- `S16TOF_DIRM___u32imm`, R433. -/
  | s16tofDirm (addr : Word)
  /-- `S16TOF_DIRM____Ax+_u28imm`, R433. -/
  | s16tofDirmIx (base : Fin 16) (off : BitVec 28)
  /-- `ST.32_DIRM___u32imm`, R390. -/
  | st32Dirm (addr : Word) (r : Reg)
  /-- `ST.32_DIRM____Ax+_u28imm`, R390. -/
  | st32DirmIx (base : Fin 16) (off : BitVec 28) (r : Reg)
  /-- `ST.64_DIRM___u32imm`, R391. -/
  | st64Dirm (addr : Word) (x : XReg)
  /-- `ST.64_DIRM____Ax+_u28imm`, R391. -/
  | st64DirmIx (base : Fin 16) (off : BitVec 28) (x : XReg)
  /-- `ST.B0_DIRM___u32imm`, R394. -/
  | stB0Dirm (addr : Word) (r : Reg)
  /-- `ST.B0_DIRM____Ax+_u28imm`, R394. -/
  | stB0DirmIx (base : Fin 16) (off : BitVec 28) (r : Reg)
  /-- `ST.B1_DIRM___u32imm`, R395. -/
  | stB1Dirm (addr : Word) (r : Reg)
  /-- `ST.B1_DIRM____Ax+_u28imm`, R395. -/
  | stB1DirmIx (base : Fin 16) (off : BitVec 28) (r : Reg)
  /-- `ST.B2_DIRM___u32imm`, R396. -/
  | stB2Dirm (addr : Word) (r : Reg)
  /-- `ST.B2_DIRM____Ax+_u28imm`, R396. -/
  | stB2DirmIx (base : Fin 16) (off : BitVec 28) (r : Reg)
  /-- `ST.B3_DIRM___u32imm`, R397. -/
  | stB3Dirm (addr : Word) (r : Reg)
  /-- `ST.B3_DIRM____Ax+_u28imm`, R397. -/
  | stB3DirmIx (base : Fin 16) (off : BitVec 28) (r : Reg)
  /-- `ST.W0_DIRM___u32imm`, R398. -/
  | stW0Dirm (addr : Word) (r : Reg)
  /-- `ST.W0_DIRM____Ax+_u28imm`, R398. -/
  | stW0DirmIx (base : Fin 16) (off : BitVec 28) (r : Reg)
  /-- `ST.W1_DIRM___u32imm`, R399. -/
  | stW1Dirm (addr : Word) (r : Reg)
  /-- `ST.W1_DIRM____Ax+_u28imm`, R399. -/
  | stW1DirmIx (base : Fin 16) (off : BitVec 28) (r : Reg)
  /-- `U16TOF_DIRM___u32imm`, R434. -/
  | u16tofDirm (addr : Word)
  /-- `U16TOF_DIRM____Ax+_u28imm`, R434. -/
  | u16tofDirmIx (base : Fin 16) (off : BitVec 28)
  /-- `CALL__label`, R232. -/
  | callLabel (label : Word) (delay : Fin 8)
  /-- `CALL_Ax`, R232. -/
  | callReg (x : Fin 16) (delay : Fin 8)
  /-- `RET`, R234. -/
  | ret (delay : Fin 8)
  /-- `B__generic_branch`, R238. -/
  | branch (target : BrTarget) (cond : Cond) (delay : Fin 8)
  /-- `BCMPZ__label_cond_Dx`, R239. -/
  | bcmpz (label : Word) (cond : DCond) (x : Fin 16) (delay : Fin 8)
  /-- `CALL.PROT__label`, R246. -/
  | callProtLabel (label : Word)
  /-- `CALL.PROT_Ax`, R246. -/
  | callProtReg (x : Fin 16)
  /-- `ENTRY1.PROT`, R248. -/
  | entry1Prot
  /-- `ENTRY2.PROT`, R248. -/
  | entry2Prot
  /-- `LB.PROT`, R249; a label is its only target (log entry 72). -/
  | lbProt (label : Word)
  /-- `RET.PROT`, R250. -/
  | retProt
  /-- `EXIT.PROT`, R252. -/
  | exitProt
  /-- `PRESERVE`, R254. -/
  | preserve
  /-- `XC`, R270. -/
  | xc
  /-- `XCP`, R270. -/
  | xcp
  /-- `ATOMIC__u8`, R280. -/
  | atomic (n : BitVec 8)
  /-- `ENINT`, R285. -/
  | enint
  /-- `DISINT`, R286. -/
  | disint
  /-- `RETI.INT`, R287, the plain form. -/
  | retiInt
  /-- `RETI.INT`, the delayed form that R260 gives every discontinuity but the .PROT transfers (log entry 71). -/
  | retiIntD (delay : Fin 8)
  /-- `RETI.RTINT`, R288, the plain form. -/
  | retiRtint
  /-- `RETI.RTINT`, the delayed form of R260 (log entry 71). -/
  | retiRtintD (delay : Fin 8)
  /-- `ISR1.PROT`, R290. -/
  | isr1Prot
  /-- `ISR2.PROT`, R291. -/
  | isr2Prot
  /-- `IDLE`, R295. -/
  | idle
  /-- `EMUSTOP0`, R296. -/
  | emustop0
  /-- `ECCSELFTEST`, R297. -/
  | eccselftest
  /-- `MOV_Ax_RPC`, R300. -/
  | movRpc (x : Fin 16)
  /-- `LD.32_RPC__MEM`, R301. -/
  | ldRpc (addr : Word)
  /-- `LD_ST_of_DSTS_and_ESTS`, R305. -/
  | statusOp (op : StatusOp)
  /-- `NOP`, R308. -/
  | nop
  /-- `ADD.U16_Az_Ay__u16`, R451. -/
  | addU16 (z : Fin 16) (y : Fin 16) (imm : Half)
  /-- `SUB.U16_Az_Ay__u16`, R452. -/
  | subU16 (z : Fin 16) (y : Fin 16) (imm : Half)
  /-- `ADD_Rz_Ry__imm__short`, R453. -/
  | addImm (bank : IBank) (z : Fin 16) (y : Fin 16) (imm : Half)
  /-- `ADD_Rz_Ry_Rx`, R453. -/
  | addReg (bank : IBank) (z : Fin 16) (y : Fin 16) (x : Fin 16)
  /-- `SUB_Rz_Ry__imm__short`, R454. -/
  | subImm (bank : IBank) (z : Fin 16) (y : Fin 16) (imm : Half)
  /-- `SUB_Rz_Ry_Rx`, R454. -/
  | subReg (bank : IBank) (z : Fin 16) (y : Fin 16) (x : Fin 16)
  /-- `MV_R__imm32___MV.32_Ax__label`, R455. -/
  | mvImm (r : Reg) (imm : Word)
  /-- `MV_Rz_Rx__register_move`, R456. -/
  | mvReg (op : MvRegs)
  /-- `CMP_Ry_Rx`, R457. -/
  | cmp (op : CmpRegs)
  /-- `TBIT`, R458. -/
  | tbit (dst : TestDst)
  /-- `TFLG`, R459. -/
  | tflg (dst : TestFlag)
  /-- `INC.CIRC_Ay_Ax`, R462. -/
  | incCirc (y : Fin 4) (x : Fin 16)
  /-- `DEC.CIRC_Ay_Ax`, R463. -/
  | decCirc (y : Fin 4) (x : Fin 16)
  /-- `ADD.BITREV_Az_Ay_Ax`, R465; the register ranges are not stated, any Ax is taken (log entry 74). -/
  | addBitrev (z : Fin 16) (y : Fin 16) (x : Fin 16)
  /-- `FTOS16_Dz_Mx`, R466. -/
  | ftos16 (z : Fin 16) (x : Fin 32)
  /-- `CRC_Dz_Dy_Dx_Dw`, R467. -/
  | crc (z : Fin 16) (y : Fin 16) (x : Fin 16) (w : Fin 16)
  /-- `SMPYF_Mz_My_Mx`, R468. -/
  | smpyf (z : Fin 32) (y : Fin 32) (x : Fin 32)
  /-- `SADDF_Mz_My_Mx`, R469. -/
  | saddf (z : Fin 32) (y : Fin 32) (x : Fin 32)
  /-- `ADDF_Mz_My_Mx`, R470. -/
  | addf (z : Fin 32) (y : Fin 32) (x : Fin 32)
  deriving DecidableEq, Repr

end Sys2Proof
end

