-- ==== Sys2Proof/WellFormed.lean ====
section
/-! DEFINITION. Which instructions an encoding can hold: register fields in the ranges the addressing modes
give (R188, R347), and the operand combinations the encoding of this model has room for. -/

namespace Sys2Proof

/-- An Ax field that may not name the stack pointer (R188, decision D22). -/
def notSp (x : Fin 16) : Bool := x != 15

/-- Ax = 15 only in the rows `1100` and `1110` (R188); Aj is A0 to A14 (R189). -/
def Addr1.wf : Addr1 → Bool
  | .off x _ => notSp x
  | .offScaled x _ => notSp x
  | .offPost x _ _ => notSp x
  | .spNeg _ => true
  | .postInc _ _ => true
  | .postDec x _ => notSp x
  | .preDec _ _ => true
  | .index x _ _ => notSp x
  | .indexSet j x _ _ => notSp j && notSp x

/-- The ADDR3 base is A0 to A14 (R205). -/
def Addr3.wf (h : Addr3) : Bool := notSp h.x

/-- The operands of a status operation are well formed. -/
def StatusOp.wf : StatusOp → Bool
  | .load _ m => m.wf
  | .store _ m => m.wf
  | .toReg _ _ => true
  | .ofReg _ _ => true
  | .andImm _ _ => true
  | .orImm _ _ => true

/-- The targets a condition goes with. R238 gives the branch no operand forms, so it leaves open whether TA.MAP goes with a label; that it
goes with a register target only is the model's choice (log entry 72, DESIGN CHOICE). The model's map (log entry 1) holds an absolute
label in Words 1 and 2, where the 16-bit table of TA.MAP then has no place. -/
def branchWf : BrTarget → Cond → Bool
  | .label _, .taMap _ => false
  | _, _ => true

/-- What the encoding of each instruction can hold. -/
def Instr.wf : Instr → Bool
  | .add32Addr1 m => m.wf
  | .addS16Addr1 m => m.wf
  | .addS8Addr1 m => m.wf
  | .and16Addr1 m _ => m.wf
  | .and8Addr1 m _ => m.wf
  | .andU16Addr1 m => m.wf
  | .andU8Addr1 m => m.wf
  | .andorB0Addr1 m => m.wf
  | .andorW0Addr1 m => m.wf
  | .ld32Addr1 _ m => m.wf
  | .ld64Addr1 _ m => m.wf
  | .ldB0Addr1 _ m => m.wf
  | .ldB1Addr1 _ m => m.wf
  | .ldB2Addr1 _ m => m.wf
  | .ldB3Addr1 _ m => m.wf
  | .ldS16Addr1 _ m => m.wf
  | .ldS8Addr1 _ m => m.wf
  | .ldU16Addr1 _ m => m.wf
  | .ldU8Addr1 _ m => m.wf
  | .ldW0Addr1 _ m => m.wf
  | .ldW1Addr1 _ m => m.wf
  | .mv16Addr1 dst src => dst.wf && src.wf
  | .mv32Addr1 dst src => dst.wf && src.wf
  | .mv64Addr1 dst src => dst.wf && src.wf
  | .mv8Addr1 dst src => dst.wf && src.wf
  | .mvU16Addr1 m => m.wf
  | .mvU8Addr1 m => m.wf
  | .or16Addr1 m _ => m.wf
  | .or8Addr1 m _ => m.wf
  | .retAddr1 m _ => m.wf
  | .s16tofAddr1 m => m.wf
  | .st16Addr1 m _ => m.wf
  | .st32Addr1 m _ => m.wf
  | .st64Addr1 m _ => m.wf
  | .st8Addr1 m _ => m.wf
  | .stB0Addr1 m _ => m.wf
  | .stB1Addr1 m _ => m.wf
  | .stB2Addr1 m _ => m.wf
  | .stB3Addr1 m _ => m.wf
  | .stW0Addr1 m _ => m.wf
  | .stW1Addr1 m _ => m.wf
  | .sub32Addr1 m => m.wf
  | .subS16Addr1 m => m.wf
  | .subS8Addr1 m => m.wf
  | .subr32Addr1 m => m.wf
  | .subrS16Addr1 m => m.wf
  | .subrS8Addr1 m => m.wf
  | .u16tofAddr1 m => m.wf
  | .xor16Addr1 m _ => m.wf
  | .xor8Addr1 m _ => m.wf
  | .and32Addr2 _ => true
  | .andorAddr2 _ => true
  | .ld32Addr2 _ _ => true
  | .ld64Addr2 _ _ => true
  | .mv16Addr2 _ => true
  | .mv32Addr2 _ => true
  | .mv64Addr2 _ => true
  | .mv8Addr2 _ => true
  | .or32Addr2 _ => true
  | .st16Addr2 _ _ => true
  | .st32Addr2 _ _ => true
  | .st64Addr2 _ _ => true
  | .st8Addr2 _ _ => true
  | .xor32Addr2 _ => true
  | .mv32Addr3 dst src => dst.wf && src.wf
  | .ld32Dirm _ _ => true
  | .ld32DirmIx _ base _ => notSp base
  | .ld64Dirm _ _ => true
  | .ld64DirmIx _ base _ => notSp base
  | .ldB0Dirm _ _ => true
  | .ldB0DirmIx _ base _ => notSp base
  | .ldB1Dirm _ _ => true
  | .ldB1DirmIx _ base _ => notSp base
  | .ldB2Dirm _ _ => true
  | .ldB2DirmIx _ base _ => notSp base
  | .ldB3Dirm _ _ => true
  | .ldB3DirmIx _ base _ => notSp base
  | .ldS16Dirm _ _ => true
  | .ldS16DirmIx _ base _ => notSp base
  | .ldS8Dirm _ _ => true
  | .ldS8DirmIx _ base _ => notSp base
  | .ldU16Dirm _ _ => true
  | .ldU16DirmIx _ base _ => notSp base
  | .ldU8Dirm _ _ => true
  | .ldU8DirmIx _ base _ => notSp base
  | .ldW0Dirm _ _ => true
  | .ldW0DirmIx _ base _ => notSp base
  | .ldW1Dirm _ _ => true
  | .ldW1DirmIx _ base _ => notSp base
  | .s16tofDirm _ => true
  | .s16tofDirmIx base _ => notSp base
  | .st32Dirm _ _ => true
  | .st32DirmIx base _ _ => notSp base
  | .st64Dirm _ _ => true
  | .st64DirmIx base _ _ => notSp base
  | .stB0Dirm _ _ => true
  | .stB0DirmIx base _ _ => notSp base
  | .stB1Dirm _ _ => true
  | .stB1DirmIx base _ _ => notSp base
  | .stB2Dirm _ _ => true
  | .stB2DirmIx base _ _ => notSp base
  | .stB3Dirm _ _ => true
  | .stB3DirmIx base _ _ => notSp base
  | .stW0Dirm _ _ => true
  | .stW0DirmIx base _ _ => notSp base
  | .stW1Dirm _ _ => true
  | .stW1DirmIx base _ _ => notSp base
  | .u16tofDirm _ => true
  | .u16tofDirmIx base _ => notSp base
  | .callLabel _ _ => true
  | .callReg _ _ => true
  | .ret _ => true
  | .branch target cond _ => branchWf target cond
  | .bcmpz _ _ _ _ => true
  | .callProtLabel _ => true
  | .callProtReg _ => true
  | .entry1Prot => true
  | .entry2Prot => true
  | .lbProt _ => true
  | .retProt => true
  | .exitProt => true
  | .preserve => true
  | .xc => true
  | .xcp => true
  | .atomic _ => true
  | .enint => true
  | .disint => true
  | .retiInt => true
  | .retiIntD delay => delay != 0
  | .retiRtint => true
  | .retiRtintD delay => delay != 0
  | .isr1Prot => true
  | .isr2Prot => true
  | .idle => true
  | .emustop0 => true
  | .eccselftest => true
  | .movRpc _ => true
  | .ldRpc _ => true
  | .statusOp op => op.wf
  | .nop => true
  | .addU16 _ _ _ => true
  | .subU16 _ _ _ => true
  | .addImm _ _ _ _ => true
  | .addReg _ _ _ _ => true
  | .subImm _ _ _ _ => true
  | .subReg _ _ _ _ => true
  | .mvImm _ _ => true
  | .mvReg _ => true
  | .cmp _ => true
  | .tbit _ => true
  | .tflg _ => true
  | .incCirc _ x => notSp x
  | .decCirc _ x => notSp x
  | .addBitrev _ _ _ => true
  | .ftos16 _ _ => true
  | .crc _ _ _ _ => true
  | .smpyf _ _ _ => true
  | .saddf _ _ _ => true
  | .addf _ _ _ => true

end Sys2Proof
end

