-- ==== Sys2Proof/Decode.lean ====
section
/-! DEFINITION. The decoder, total on any bytes and rejecting by name, and the encoder, written from the same tables.
The spec fixes the size bits, I_Link and the ADDR1, ADDR2, ADDR3 and DIRM fields (R171, R186, R200, R205, R207); it gives
no opcode value (R180), so the opcode numbers and the places of register numbers are this model's DESIGN CHOICE
(notes/assumptions/1.md). -/

namespace Sys2Proof

/-- Why bytes decode to no instruction. -/
inductive DecodeError where
  /-- no row of the opcode map: no legal packet (R181) -/
  | undefinedOpcode
  /-- a bit the form does not use is 1 (the model's map) -/
  | reservedBits
  /-- Ax = 15 in a row that has no stack mode (R188) -/
  | stackPointer
  /-- the bytes end inside the instruction -/
  | truncated
  deriving DecidableEq, Repr

/-! ### Fields -/

/-- Bits `lo+n-1` to `lo` of `w`. -/
def fld (w lo n : Nat) : Nat := w / 2 ^ lo % 2 ^ n

/-- The number of 16-bit words of the instruction whose Word 0 is `w0` (R172). -/
def sizeWords (w0 : Nat) : Nat :=
  if fld w0 14 1 = 1 then 1 else if fld w0 13 1 = 1 then 2 else 3

/-- The register number of a six-bit register field (DESIGN CHOICE: A0 to A15, D0 to D15, M0 to M31 in order). -/
def regCode : Reg → Nat
  | .a i => i.val
  | .d i => 16 + i.val
  | .m i => 32 + i.val

/-- The register of a six-bit field. -/
def decodeReg (n : Nat) : Reg :=
  if n % 64 < 16 then .a (Fin.ofNat 16 n) else if n % 64 < 32 then .d (Fin.ofNat 16 (n - 16)) else .m (Fin.ofNat 32 (n - 32))

/-- The pair number of a five-bit pair field (DESIGN CHOICE: XA, XD, XM in order). -/
def xregCode : XReg → Nat
  | .xa i => i.val
  | .xd i => 8 + i.val
  | .xm i => 16 + i.val

/-- The pair of a five-bit field. -/
def decodeXReg (n : Nat) : XReg :=
  if n % 32 < 8 then .xa (Fin.ofNat 8 n) else if n % 32 < 16 then .xd (Fin.ofNat 8 (n - 8)) else .xm (Fin.ofNat 16 (n - 16))

/-- The 16-bit ADDR1 field (R186). -/
def addr1Code : Addr1 → Nat
  | .off x imm => imm.toNat * 16 + x.val
  | .offScaled x imm => 16384 + imm.toNat * 16 + x.val
  | .offPost x imm k => 32768 + imm.toNat * 64 + k.val * 16 + x.val
  | .spNeg f => 40960 + f.toNat
  | .postInc x imm => 49152 + imm.toNat * 16 + x.val
  | .postDec x f => 53248 + f.toNat * 16 + x.val
  | .preDec x f => 57344 + f.toNat * 16 + x.val
  | .index x k sh => 61440 + sh.toNat * 1024 + 960 + k.val * 16 + x.val
  | .indexSet j x k sh => 61440 + sh.toNat * 1024 + j.val * 64 + k.val * 16 + x.val

/-- The mode an ADDR1 field selects (R186, R187: no pattern is reserved). -/
def readAddr1 (f : Nat) : Addr1 :=
  let x := Fin.ofNat 16 (fld f 0 4)
  if fld f 14 2 = 0 then .off x (BitVec.ofNat 10 (fld f 4 10))
  else if fld f 14 2 = 1 then .offScaled x (BitVec.ofNat 10 (fld f 4 10))
  else if fld f 13 3 = 4 then .offPost x (BitVec.ofNat 7 (fld f 6 7)) (Fin.ofNat 4 (fld f 4 2))
  else if fld f 13 3 = 5 then .spNeg (BitVec.ofNat 13 (fld f 0 13))
  else if fld f 12 4 = 12 then .postInc x (BitVec.ofNat 8 (fld f 4 8))
  else if fld f 12 4 = 13 then .postDec x (BitVec.ofNat 8 (fld f 4 8))
  else if fld f 12 4 = 14 then .preDec x (BitVec.ofNat 8 (fld f 4 8))
  else if fld f 6 4 = 15 then .index x (Fin.ofNat 4 (fld f 4 2)) (BitVec.ofNat 2 (fld f 10 2))
  else .indexSet (Fin.ofNat 16 (fld f 6 4)) x (Fin.ofNat 4 (fld f 4 2)) (BitVec.ofNat 2 (fld f 10 2))

/-- The five-bit ADDR2 field (R200). -/
def addr2Code : Addr2 → Nat
  | .postA0 z => z.val
  | .postA1 z => 4 + z.val
  | .idxA0 z => 8 + z.val
  | .idxA1 z => 12 + z.val
  | .plain z => 16 + z.val
  | .postInc z => 20 + z.val
  | .postDec z => 24 + z.val
  | .preDec z => 28 + z.val

/-- The mode an ADDR2 field selects (R200). -/
def readAddr2 (g : Nat) : Addr2 :=
  let z := Fin.ofNat 4 (fld g 0 2)
  match fld g 2 3 with
  | 0 => .postA0 z
  | 1 => .postA1 z
  | 2 => .idxA0 z
  | 3 => .idxA1 z
  | 4 => .plain z
  | 5 => .postInc z
  | 6 => .postDec z
  | _ => .preDec z

/-- The twelve-bit ADDR3 field (R205). -/
def addr3Code (h : Addr3) : Nat := h.x.val * 256 + h.imm.toNat

/-- The ADDR3 operand of a field (R205). -/
def readAddr3 (h : Nat) : Addr3 := ⟨Fin.ofNat 16 (fld h 8 4), BitVec.ofNat 8 (fld h 0 8)⟩

/-- The number of a relation (DESIGN CHOICE: the order of R62). -/
def relCode : RelCond → Nat
  | .eq => 0 | .neq => 1 | .gt => 2 | .geq => 3 | .lt => 4 | .leq => 5
  | .hi => 6 | .his => 7 | .lo => 8 | .los => 9 | .eqandnz => 10 | .neqorz => 11

/-- The relation of a number. -/
def readRel (n : Nat) : RelCond :=
  match n with
  | 0 => .eq | 1 => .neq | 2 => .gt | 3 => .geq | 4 => .lt | 5 => .leq
  | 6 => .hi | 7 => .his | 8 => .lo | 9 => .los | 10 => .eqandnz | _ => .neqorz

/-- The number of a D condition (DESIGN CHOICE: the order of R72). -/
def dcondCode : DCond → Nat
  | .rel c => relCode c
  | .ov => 12
  | .ovneg => 13

/-- The D condition of a number, 14 and 15 naming none. -/
def readDCond (n : Nat) : Option DCond :=
  if n < 12 then some (.rel (readRel n)) else if n = 12 then some .ov else if n = 13 then some .ovneg else none

/-- The number of a branch condition (DESIGN CHOICE). -/
def condCode : Cond → Nat
  | .always => 0
  | .taMap _ => 1
  | .taZ i => 2 + i.val
  | .taNZ i => 6 + i.val
  | .a c => 10 + relCode c
  | .d c => 22 + dcondCode c

/-- The branch condition of a number; TA.MAP takes its table from `lut`. -/
def readCond (n lut : Nat) : Option Cond :=
  if n = 0 then some .always
  else if n = 1 then some (.taMap (BitVec.ofNat 16 lut))
  else if n < 6 then some (.taZ (Fin.ofNat 4 (n - 2)))
  else if n < 10 then some (.taNZ (Fin.ofNat 4 (n - 6)))
  else if n < 22 then some (.a (readRel (n - 10)))
  else (readDCond (n - 22)).map Cond.d

/-- The number of a test flag (DESIGN CHOICE). -/
def flagCode : TestFlag → Nat
  | .ta i => i.val
  | .tdm i => 4 + i.val

/-- The test flag of a number below 8. -/
def readFlag (n : Nat) : TestFlag :=
  if n < 4 then .ta (Fin.ofNat 4 n) else .tdm (Fin.ofNat 4 (n - 4))

/-- The number of a TBIT destination (DESIGN CHOICE). -/
def testCode : TestDst → Nat
  | .flag f => flagCode f
  | .az => 8
  | .dz => 9
  | .mzf => 10

/-- The TBIT destination of a number. -/
def readTest (n : Nat) : Option TestDst :=
  if n < 8 then some (.flag (readFlag n))
  else if n = 8 then some .az else if n = 9 then some .dz else if n = 10 then some .mzf else none

/-! ### Encoder -/

/-- A 16-bit instruction (R172). -/
def enc16 (sub p : Nat) : List Nat := [16384 + sub * 2048 + p]

/-- A 32-bit instruction of group `op`, with six operand bits in Word 0 and the parameters in Word 1 (R171). -/
def enc32 (op p w1 : Nat) : List Nat := [8192 + op * 64 + p, w1]

/-- A 48-bit instruction with seven operand bits in Word 0 and a 32-bit parameter (R171). -/
def enc48 (op p v : Nat) : List Nat := [op * 128 + p, v % 65536, v / 65536]

/-- A DIRM instruction, indexed form: `I[0]` is 1, Ax is `I[19:16]` (R207). -/
def encIx (op r : Nat) (base : Fin 16) (off : BitVec 28) : List Nat :=
  [op * 128 + r * 2 + 1, off.toNat % 4096 * 16 + base.val, off.toNat / 4096]

/-- A status operation (DESIGN CHOICE, rule R305 gives no encoding). -/
def encStatus : StatusOp → List Nat
  | .load .dsts m => enc32 52 17 (addr1Code m)
  | .load .ests m => enc32 52 18 (addr1Code m)
  | .store .dsts m => enc32 52 19 (addr1Code m)
  | .store .ests m => enc32 52 20 (addr1Code m)
  | .toReg .dsts r => enc32 54 (regCode r) 0
  | .toReg .ests r => enc32 55 (regCode r) 0
  | .ofReg .dsts r => enc32 56 (regCode r) 0
  | .ofReg .ests r => enc32 57 (regCode r) 0
  | .andImm .dsts v => enc48 24 15 v.toNat
  | .andImm .ests v => enc48 24 16 v.toNat
  | .orImm .dsts v => enc48 24 17 v.toNat
  | .orImm .ests v => enc48 24 18 v.toNat

/-- The bank bit of an integer ADD or SUB. -/
def ibankCode : IBank → Nat
  | .a => 0
  | .d => 1

/-- The bank of a bit. -/
def readIBank (n : Nat) : IBank := if n = 0 then .a else .d

/-- The 16-bit form of ADD or SUB with an immediate exists when the two registers are one and the immediate is below 64
(DESIGN CHOICE; `ADD A0,A0,#6` is 16 bits by R475); any other takes 32 bits. -/
def encImm (short long : Nat) (b : IBank) (z y : Fin 16) (imm : Half) : List Nat :=
  if z = y ∧ imm.toNat < 64 then enc16 short (ibankCode b * 1024 + z.val * 64 + imm.toNat)
  else [8192 + (long + ibankCode b) * 256 + z.val * 16 + y.val, imm.toNat]

/-- A generic branch (DESIGN CHOICE). -/
def encBranch (t : BrTarget) (c : Cond) (delay : Fin 8) : List Nat :=
  match t with
  | .label w => [10 * 512 + delay.val * 64 + condCode c, w.toNat % 65536, w.toNat / 65536]
  | .reg x => [11 * 512 + delay.val * 64 + condCode c, (match c with | .taMap lut => lut.toNat | _ => 0), x.val]

/-- The words of an instruction, I_Link 0 (R171; fields by R186, R200, R205, R207). -/
def encode : Instr → List Nat
  | .add32Addr1 m => enc32 52 0 (addr1Code m)
  | .addS16Addr1 m => enc32 52 1 (addr1Code m)
  | .addS8Addr1 m => enc32 52 2 (addr1Code m)
  | .and16Addr1 m imm => enc48 24 1 (addr1Code m + 65536 * imm.toNat)
  | .and8Addr1 m imm => enc48 24 4 (addr1Code m + 65536 * imm.toNat)
  | .andU16Addr1 m => enc32 52 3 (addr1Code m)
  | .andU8Addr1 m => enc32 52 4 (addr1Code m)
  | .andorB0Addr1 m => enc32 52 5 (addr1Code m)
  | .andorW0Addr1 m => enc32 52 6 (addr1Code m)
  | .ld32Addr1 r m => enc32 32 (regCode r) (addr1Code m)
  | .ld64Addr1 x m => enc32 43 (xregCode x) (addr1Code m)
  | .ldB0Addr1 r m => enc32 33 (regCode r) (addr1Code m)
  | .ldB1Addr1 r m => enc32 34 (regCode r) (addr1Code m)
  | .ldB2Addr1 r m => enc32 35 (regCode r) (addr1Code m)
  | .ldB3Addr1 r m => enc32 36 (regCode r) (addr1Code m)
  | .ldS16Addr1 r m => enc32 37 (regCode r) (addr1Code m)
  | .ldS8Addr1 r m => enc32 38 (regCode r) (addr1Code m)
  | .ldU16Addr1 r m => enc32 39 (regCode r) (addr1Code m)
  | .ldU8Addr1 r m => enc32 40 (regCode r) (addr1Code m)
  | .ldW0Addr1 r m => enc32 41 (regCode r) (addr1Code m)
  | .ldW1Addr1 r m => enc32 42 (regCode r) (addr1Code m)
  | .mv16Addr1 dst src => enc48 24 9 (addr1Code dst + 65536 * addr1Code src)
  | .mv32Addr1 dst src => enc48 24 10 (addr1Code dst + 65536 * addr1Code src)
  | .mv64Addr1 dst src => enc48 24 11 (addr1Code dst + 65536 * addr1Code src)
  | .mv8Addr1 dst src => enc48 24 8 (addr1Code dst + 65536 * addr1Code src)
  | .mvU16Addr1 m => enc32 52 7 (addr1Code m)
  | .mvU8Addr1 m => enc32 52 8 (addr1Code m)
  | .or16Addr1 m imm => enc48 24 0 (addr1Code m + 65536 * imm.toNat)
  | .or8Addr1 m imm => enc48 24 3 (addr1Code m + 65536 * imm.toNat)
  | .retAddr1 m delay => enc32 53 delay.val (addr1Code m)
  | .s16tofAddr1 m => enc32 52 9 (addr1Code m)
  | .st16Addr1 m imm => enc48 24 6 (addr1Code m + 65536 * imm.toNat)
  | .st32Addr1 m r => enc32 44 (regCode r) (addr1Code m)
  | .st64Addr1 m x => enc32 51 (xregCode x) (addr1Code m)
  | .st8Addr1 m imm => enc48 24 7 (addr1Code m + 65536 * imm.toNat)
  | .stB0Addr1 m r => enc32 45 (regCode r) (addr1Code m)
  | .stB1Addr1 m r => enc32 46 (regCode r) (addr1Code m)
  | .stB2Addr1 m r => enc32 47 (regCode r) (addr1Code m)
  | .stB3Addr1 m r => enc32 48 (regCode r) (addr1Code m)
  | .stW0Addr1 m r => enc32 49 (regCode r) (addr1Code m)
  | .stW1Addr1 m r => enc32 50 (regCode r) (addr1Code m)
  | .sub32Addr1 m => enc32 52 10 (addr1Code m)
  | .subS16Addr1 m => enc32 52 11 (addr1Code m)
  | .subS8Addr1 m => enc32 52 12 (addr1Code m)
  | .subr32Addr1 m => enc32 52 13 (addr1Code m)
  | .subrS16Addr1 m => enc32 52 14 (addr1Code m)
  | .subrS8Addr1 m => enc32 52 15 (addr1Code m)
  | .u16tofAddr1 m => enc32 52 16 (addr1Code m)
  | .xor16Addr1 m imm => enc48 24 2 (addr1Code m + 65536 * imm.toNat)
  | .xor8Addr1 m imm => enc48 24 5 (addr1Code m + 65536 * imm.toNat)
  | .and32Addr2 m => enc32 78 0 (addr2Code m)
  | .andorAddr2 m => enc32 78 1 (addr2Code m)
  | .ld32Addr2 r m => enc16 2 (regCode r * 32 + addr2Code m)
  | .ld64Addr2 x m => enc32 73 (xregCode x) (addr2Code m)
  | .mv16Addr2 m => enc32 78 2 (addr2Code m)
  | .mv32Addr2 m => enc32 78 3 (addr2Code m)
  | .mv64Addr2 m => enc32 78 4 (addr2Code m)
  | .mv8Addr2 m => enc32 78 5 (addr2Code m)
  | .or32Addr2 m => enc32 78 6 (addr2Code m)
  | .st16Addr2 m imm => enc32 77 (addr2Code m) imm.toNat
  | .st32Addr2 m r => enc32 74 (regCode r) (addr2Code m)
  | .st64Addr2 m x => enc32 75 (xregCode x) (addr2Code m)
  | .st8Addr2 m imm => enc32 76 (addr2Code m) imm.toNat
  | .xor32Addr2 m => enc32 78 7 (addr2Code m)
  | .mv32Addr3 dst src => [8192 + addr3Code dst / 16, addr3Code dst % 16 * 4096 + addr3Code src]
  | .ld32Dirm r addr => enc48 0 (regCode r * 2) addr.toNat
  | .ld32DirmIx r base off => encIx 0 (regCode r) base off
  | .ld64Dirm x addr => enc48 11 (xregCode x * 2) addr.toNat
  | .ld64DirmIx x base off => encIx 11 (xregCode x) base off
  | .ldB0Dirm r addr => enc48 1 (regCode r * 2) addr.toNat
  | .ldB0DirmIx r base off => encIx 1 (regCode r) base off
  | .ldB1Dirm r addr => enc48 2 (regCode r * 2) addr.toNat
  | .ldB1DirmIx r base off => encIx 2 (regCode r) base off
  | .ldB2Dirm r addr => enc48 3 (regCode r * 2) addr.toNat
  | .ldB2DirmIx r base off => encIx 3 (regCode r) base off
  | .ldB3Dirm r addr => enc48 4 (regCode r * 2) addr.toNat
  | .ldB3DirmIx r base off => encIx 4 (regCode r) base off
  | .ldS16Dirm r addr => enc48 5 (regCode r * 2) addr.toNat
  | .ldS16DirmIx r base off => encIx 5 (regCode r) base off
  | .ldS8Dirm r addr => enc48 6 (regCode r * 2) addr.toNat
  | .ldS8DirmIx r base off => encIx 6 (regCode r) base off
  | .ldU16Dirm r addr => enc48 7 (regCode r * 2) addr.toNat
  | .ldU16DirmIx r base off => encIx 7 (regCode r) base off
  | .ldU8Dirm r addr => enc48 8 (regCode r * 2) addr.toNat
  | .ldU8DirmIx r base off => encIx 8 (regCode r) base off
  | .ldW0Dirm r addr => enc48 9 (regCode r * 2) addr.toNat
  | .ldW0DirmIx r base off => encIx 9 (regCode r) base off
  | .ldW1Dirm r addr => enc48 10 (regCode r * 2) addr.toNat
  | .ldW1DirmIx r base off => encIx 10 (regCode r) base off
  | .s16tofDirm addr => enc48 20 0 addr.toNat
  | .s16tofDirmIx base off => encIx 20 0 base off
  | .st32Dirm addr r => enc48 12 (regCode r * 2) addr.toNat
  | .st32DirmIx base off r => encIx 12 (regCode r) base off
  | .st64Dirm addr x => enc48 19 (xregCode x * 2) addr.toNat
  | .st64DirmIx base off x => encIx 19 (xregCode x) base off
  | .stB0Dirm addr r => enc48 13 (regCode r * 2) addr.toNat
  | .stB0DirmIx base off r => encIx 13 (regCode r) base off
  | .stB1Dirm addr r => enc48 14 (regCode r * 2) addr.toNat
  | .stB1DirmIx base off r => encIx 14 (regCode r) base off
  | .stB2Dirm addr r => enc48 15 (regCode r * 2) addr.toNat
  | .stB2DirmIx base off r => encIx 15 (regCode r) base off
  | .stB3Dirm addr r => enc48 16 (regCode r * 2) addr.toNat
  | .stB3DirmIx base off r => encIx 16 (regCode r) base off
  | .stW0Dirm addr r => enc48 17 (regCode r * 2) addr.toNat
  | .stW0DirmIx base off r => encIx 17 (regCode r) base off
  | .stW1Dirm addr r => enc48 18 (regCode r * 2) addr.toNat
  | .stW1DirmIx base off r => encIx 18 (regCode r) base off
  | .u16tofDirm addr => enc48 21 0 addr.toNat
  | .u16tofDirmIx base off => encIx 21 0 base off
  | .callLabel label delay => enc48 23 delay.val label.toNat
  | .callReg x delay => enc32 79 0 (delay.val * 16 + x.val)
  | .ret delay => enc16 4 (128 + delay.val)
  | .branch target cond delay => encBranch target cond delay
  | .bcmpz label cond x delay => [3 * 2048 + delay.val * 256 + dcondCode cond * 16 + x.val, label.toNat % 65536, label.toNat / 65536]
  | .callProtLabel label => enc48 24 12 label.toNat
  | .callProtReg x => enc32 80 x.val 0
  | .entry1Prot => enc16 4 258
  | .entry2Prot => enc16 4 259
  | .lbProt label => enc48 24 13 label.toNat
  | .retProt => enc16 4 257
  | .exitProt => enc16 4 260
  | .preserve => enc16 4 270
  | .xc => enc16 4 271
  | .xcp => enc16 4 272
  | .atomic n => enc16 3 n.toNat
  | .enint => enc16 4 261
  | .disint => enc16 4 262
  | .retiInt => enc16 4 263
  | .retiIntD delay => enc16 4 (320 + delay.val)
  | .retiRtint => enc16 4 264
  | .retiRtintD delay => enc16 4 (328 + delay.val)
  | .isr1Prot => enc16 4 265
  | .isr2Prot => enc16 4 266
  | .idle => enc16 4 267
  | .emustop0 => enc16 4 268
  | .eccselftest => enc16 4 269
  | .movRpc x => enc16 4 (192 + x.val)
  | .ldRpc addr => enc48 24 14 addr.toNat
  | .statusOp op => encStatus op
  | .nop => enc16 4 256
  | .addU16 z y imm => [8192 + 1 * 256 + z.val * 16 + y.val, imm.toNat]
  | .subU16 z y imm => [8192 + 2 * 256 + z.val * 16 + y.val, imm.toNat]
  | .addImm bank z y imm => encImm 0 4 bank z y imm
  | .addReg bank z y x => enc32 58 (ibankCode bank * 16 + z.val) (y.val * 16 + x.val)
  | .subImm bank z y imm => encImm 1 6 bank z y imm
  | .subReg bank z y x => enc32 59 (ibankCode bank * 16 + z.val) (y.val * 16 + x.val)
  | .mvImm r imm => enc48 22 (regCode r) imm.toNat
  | .mvReg (.word d s) => enc32 60 (regCode d) (regCode s)
  | .mvReg (.pair d s) => enc32 61 (xregCode d) (xregCode s)
  | .cmp (.a y x) => enc32 62 y.val x.val
  | .cmp (.d y x) => enc32 63 y.val x.val
  | .cmp (.m y x) => enc32 64 y.val x.val
  | .tbit dst => enc32 65 (testCode dst) 0
  | .tflg dst => enc32 66 (flagCode dst) 0
  | .incCirc y x => enc16 4 (y.val * 16 + x.val)
  | .decCirc y x => enc16 4 (64 + y.val * 16 + x.val)
  | .addBitrev z y x => enc32 67 z.val (y.val * 16 + x.val)
  | .ftos16 z x => enc32 68 z.val x.val
  | .crc z y x w => enc32 69 z.val (y.val * 256 + x.val * 16 + w.val)
  | .smpyf z y x => enc32 70 z.val (y.val * 32 + x.val)
  | .saddf z y x => enc32 71 z.val (y.val * 32 + x.val)
  | .addf z y x => enc32 72 z.val (y.val * 32 + x.val)

/-! ### Decoder -/

/-- An instruction whose parameter word must be zero. -/
def zeroParam (w1 : Nat) (i : Instr) : Except DecodeError Instr := if w1 = 0 then .ok i else .error .reservedBits

/-- An instruction with an ADDR1 field. -/
def addr1Only (f : Addr1 → Instr) (w1 : Nat) : Except DecodeError Instr :=
  if (readAddr1 w1).wf then .ok (f (readAddr1 w1)) else .error .stackPointer

/-- An instruction with a register and an ADDR1 field. -/
def regAddr1 (f : Reg → Addr1 → Instr) (p w1 : Nat) : Except DecodeError Instr := addr1Only (f (decodeReg p)) w1

/-- An instruction with a register pair and an ADDR1 field. -/
def xregAddr1 (f : XReg → Addr1 → Instr) (p w1 : Nat) : Except DecodeError Instr :=
  if p < 32 then addr1Only (f (decodeXReg p)) w1 else .error .reservedBits

/-- A DIRM instruction: the mode bit is `I[0]` (R207); `legal` bounds the register field. -/
def dirm (direct : Word → Instr) (indexed : Fin 16 → BitVec 28 → Instr) (legal : Prop) [Decidable legal] (p v : Nat) :
    Except DecodeError Instr :=
  if ¬ legal then .error .reservedBits
  else if fld p 0 1 = 0 then .ok (direct (BitVec.ofNat 32 v))
  else if notSp (Fin.ofNat 16 (fld v 0 4)) then
    .ok (indexed (Fin.ofNat 16 (fld v 0 4)) (BitVec.ofNat 28 (fld v 4 28)))
  else .error .stackPointer

/-- An ADDR1 field in Word 1 and a byte immediate in Word 2. -/
def byteParam (v : Nat) (f : Addr1 → Byte → Instr) : Except DecodeError Instr :=
  if fld v 16 16 < 256 then addr1Only (fun m => f m (BitVec.ofNat 8 (fld v 16 16))) (fld v 0 16) else .error .reservedBits

/-- Two ADDR1 fields: the destination in Word 1, the source in Word 2 (R185; which is which is a DESIGN CHOICE). -/
def twoAddr1 (v : Nat) (f : Addr1 → Addr1 → Instr) : Except DecodeError Instr :=
  if (readAddr1 (fld v 0 16)).wf && (readAddr1 (fld v 16 16)).wf then
    .ok (f (readAddr1 (fld v 0 16)) (readAddr1 (fld v 16 16)))
  else .error .stackPointer

/-- The 16-bit instructions without operands. -/
def decodePlain (n : Nat) : Except DecodeError Instr :=
  match n with
  | 0 => .ok .nop
  | 1 => .ok .retProt
  | 2 => .ok .entry1Prot
  | 3 => .ok .entry2Prot
  | 4 => .ok .exitProt
  | 5 => .ok .enint
  | 6 => .ok .disint
  | 7 => .ok .retiInt
  | 8 => .ok .retiRtint
  | 9 => .ok .isr1Prot
  | 10 => .ok .isr2Prot
  | 11 => .ok .idle
  | 12 => .ok .emustop0
  | 13 => .ok .eccselftest
  | 14 => .ok .preserve
  | 15 => .ok .xc
  | 16 => .ok .xcp
  | _ => .error .undefinedOpcode

/-- A circular update: Ax is A0 to A14 (R462). -/
def circ (f : Fin 4 → Fin 16 → Instr) (p : Nat) : Except DecodeError Instr :=
  if notSp (Fin.ofNat 16 (fld p 0 4)) then .ok (f (Fin.ofNat 4 (fld p 4 2)) (Fin.ofNat 16 (fld p 0 4))) else .error .stackPointer

/-- The delayed returns from interrupt, with a delay of 1 to 7 (R260). -/
def decodeReti (p : Nat) : Except DecodeError Instr :=
  if fld p 0 3 = 0 then .error .reservedBits
  else match fld p 3 3 with
    | 0 => .ok (.retiIntD (Fin.ofNat 8 (fld p 0 3)))
    | 1 => .ok (.retiRtintD (Fin.ofNat 8 (fld p 0 3)))
    | _ => .error .reservedBits

/-- The 16-bit group 4: `p` is its eleven low bits. -/
def decodeMisc16 (p : Nat) : Except DecodeError Instr :=
  match fld p 6 5 with
  | 0 => circ .incCirc (fld p 0 6)
  | 1 => circ .decCirc (fld p 0 6)
  | 2 => if fld p 0 6 < 8 then .ok (.ret (Fin.ofNat 8 (fld p 0 6))) else .error .reservedBits
  | 3 => if fld p 0 6 < 16 then .ok (.movRpc (Fin.ofNat 16 (fld p 0 6))) else .error .reservedBits
  | 4 => decodePlain (fld p 0 6)
  | 5 => decodeReti (fld p 0 6)
  | _ => .error .undefinedOpcode

/-- The short ADD and SUB with an immediate. -/
def shortImm (f : IBank → Fin 16 → Fin 16 → Half → Instr) (p : Nat) : Except DecodeError Instr :=
  .ok (f (readIBank (fld p 10 1)) (Fin.ofNat 16 (fld p 6 4)) (Fin.ofNat 16 (fld p 6 4)) (BitVec.ofNat 16 (fld p 0 6)))

/-- A 16-bit instruction. -/
def decode16 (w0 : Nat) : Except DecodeError Instr :=
  match fld w0 11 3 with
  | 0 => shortImm .addImm (fld w0 0 11)
  | 1 => shortImm .subImm (fld w0 0 11)
  | 2 => .ok (.ld32Addr2 (decodeReg (fld w0 5 6)) (readAddr2 (fld w0 0 5)))
  | 3 => if fld w0 0 11 < 256 then .ok (.atomic (BitVec.ofNat 8 (fld w0 0 11))) else .error .reservedBits
  | 4 => decodeMisc16 (fld w0 0 11)
  | _ => .error .undefinedOpcode

/-- The 32-bit ADDR1 instructions without a register field. -/
def decodeMiscAddr1 (p w1 : Nat) : Except DecodeError Instr :=
  match p with
  | 0 => addr1Only .add32Addr1 w1
  | 1 => addr1Only .addS16Addr1 w1
  | 2 => addr1Only .addS8Addr1 w1
  | 3 => addr1Only .andU16Addr1 w1
  | 4 => addr1Only .andU8Addr1 w1
  | 5 => addr1Only .andorB0Addr1 w1
  | 6 => addr1Only .andorW0Addr1 w1
  | 7 => addr1Only .mvU16Addr1 w1
  | 8 => addr1Only .mvU8Addr1 w1
  | 9 => addr1Only .s16tofAddr1 w1
  | 10 => addr1Only .sub32Addr1 w1
  | 11 => addr1Only .subS16Addr1 w1
  | 12 => addr1Only .subS8Addr1 w1
  | 13 => addr1Only .subr32Addr1 w1
  | 14 => addr1Only .subrS16Addr1 w1
  | 15 => addr1Only .subrS8Addr1 w1
  | 16 => addr1Only .u16tofAddr1 w1
  | 17 => addr1Only (fun m => .statusOp (.load .dsts m)) w1
  | 18 => addr1Only (fun m => .statusOp (.load .ests m)) w1
  | 19 => addr1Only (fun m => .statusOp (.store .dsts m)) w1
  | 20 => addr1Only (fun m => .statusOp (.store .ests m)) w1
  | _ => .error .undefinedOpcode

/-- An instruction with an ADDR2 field as its only parameter. -/
def addr2Only (f : Addr2 → Instr) (w1 : Nat) : Except DecodeError Instr :=
  if w1 < 32 then .ok (f (readAddr2 w1)) else .error .reservedBits

/-- The ADDR2 instructions without a register field. -/
def decodeMiscAddr2 (p w1 : Nat) : Except DecodeError Instr :=
  match p with
  | 0 => addr2Only .and32Addr2 w1
  | 1 => addr2Only .andorAddr2 w1
  | 2 => addr2Only .mv16Addr2 w1
  | 3 => addr2Only .mv32Addr2 w1
  | 4 => addr2Only .mv64Addr2 w1
  | 5 => addr2Only .mv8Addr2 w1
  | 6 => addr2Only .or32Addr2 w1
  | 7 => addr2Only .xor32Addr2 w1
  | _ => .error .undefinedOpcode

/-- The 32-bit groups numbered 32 and up: six operand bits `p` and the parameter word. -/
def decodeGroup32 (op p w1 : Nat) : Except DecodeError Instr :=
  match op with
  | 32 => regAddr1 .ld32Addr1 p w1
  | 33 => regAddr1 .ldB0Addr1 p w1
  | 34 => regAddr1 .ldB1Addr1 p w1
  | 35 => regAddr1 .ldB2Addr1 p w1
  | 36 => regAddr1 .ldB3Addr1 p w1
  | 37 => regAddr1 .ldS16Addr1 p w1
  | 38 => regAddr1 .ldS8Addr1 p w1
  | 39 => regAddr1 .ldU16Addr1 p w1
  | 40 => regAddr1 .ldU8Addr1 p w1
  | 41 => regAddr1 .ldW0Addr1 p w1
  | 42 => regAddr1 .ldW1Addr1 p w1
  | 43 => xregAddr1 .ld64Addr1 p w1
  | 44 => regAddr1 (fun r m => .st32Addr1 m r) p w1
  | 45 => regAddr1 (fun r m => .stB0Addr1 m r) p w1
  | 46 => regAddr1 (fun r m => .stB1Addr1 m r) p w1
  | 47 => regAddr1 (fun r m => .stB2Addr1 m r) p w1
  | 48 => regAddr1 (fun r m => .stB3Addr1 m r) p w1
  | 49 => regAddr1 (fun r m => .stW0Addr1 m r) p w1
  | 50 => regAddr1 (fun r m => .stW1Addr1 m r) p w1
  | 51 => xregAddr1 (fun x m => .st64Addr1 m x) p w1
  | 52 => decodeMiscAddr1 p w1
  | 53 => if p < 8 then addr1Only (fun m => .retAddr1 m (Fin.ofNat 8 p)) w1 else .error .reservedBits
  | 54 => zeroParam w1 (.statusOp (.toReg .dsts (decodeReg p)))
  | 55 => zeroParam w1 (.statusOp (.toReg .ests (decodeReg p)))
  | 56 => zeroParam w1 (.statusOp (.ofReg .dsts (decodeReg p)))
  | 57 => zeroParam w1 (.statusOp (.ofReg .ests (decodeReg p)))
  | 58 => if p < 32 ∧ w1 < 256 then .ok (.addReg (readIBank (fld p 4 1)) (Fin.ofNat 16 (fld p 0 4)) (Fin.ofNat 16 (fld w1 4 4)) (Fin.ofNat 16 (fld w1 0 4))) else .error .reservedBits
  | 59 => if p < 32 ∧ w1 < 256 then .ok (.subReg (readIBank (fld p 4 1)) (Fin.ofNat 16 (fld p 0 4)) (Fin.ofNat 16 (fld w1 4 4)) (Fin.ofNat 16 (fld w1 0 4))) else .error .reservedBits
  | 60 => if w1 < 64 then .ok (.mvReg (.word (decodeReg p) (decodeReg w1))) else .error .reservedBits
  | 61 => if p < 32 ∧ w1 < 32 then .ok (.mvReg (.pair (decodeXReg p) (decodeXReg w1))) else .error .reservedBits
  | 62 => if p < 16 ∧ w1 < 16 then .ok (.cmp (.a (Fin.ofNat 16 p) (Fin.ofNat 16 w1))) else .error .reservedBits
  | 63 => if p < 16 ∧ w1 < 16 then .ok (.cmp (.d (Fin.ofNat 16 p) (Fin.ofNat 16 w1))) else .error .reservedBits
  | 64 => if p < 32 ∧ w1 < 32 then .ok (.cmp (.m (Fin.ofNat 32 p) (Fin.ofNat 32 w1))) else .error .reservedBits
  | 65 => match readTest p with | some t => zeroParam w1 (.tbit t) | none => .error .reservedBits
  | 66 => if p < 8 then zeroParam w1 (.tflg (readFlag p)) else .error .reservedBits
  | 67 => if p < 16 ∧ w1 < 256 then .ok (.addBitrev (Fin.ofNat 16 p) (Fin.ofNat 16 (fld w1 4 4)) (Fin.ofNat 16 (fld w1 0 4))) else .error .reservedBits
  | 68 => if p < 16 ∧ w1 < 32 then .ok (.ftos16 (Fin.ofNat 16 p) (Fin.ofNat 32 w1)) else .error .reservedBits
  | 69 => if p < 16 ∧ w1 < 4096 then .ok (.crc (Fin.ofNat 16 p) (Fin.ofNat 16 (fld w1 8 4)) (Fin.ofNat 16 (fld w1 4 4)) (Fin.ofNat 16 (fld w1 0 4))) else .error .reservedBits
  | 70 => if p < 32 ∧ w1 < 1024 then .ok (.smpyf (Fin.ofNat 32 p) (Fin.ofNat 32 (fld w1 5 5)) (Fin.ofNat 32 (fld w1 0 5))) else .error .reservedBits
  | 71 => if p < 32 ∧ w1 < 1024 then .ok (.saddf (Fin.ofNat 32 p) (Fin.ofNat 32 (fld w1 5 5)) (Fin.ofNat 32 (fld w1 0 5))) else .error .reservedBits
  | 72 => if p < 32 ∧ w1 < 1024 then .ok (.addf (Fin.ofNat 32 p) (Fin.ofNat 32 (fld w1 5 5)) (Fin.ofNat 32 (fld w1 0 5))) else .error .reservedBits
  | 73 => if p < 32 ∧ w1 < 32 then .ok (.ld64Addr2 (decodeXReg p) (readAddr2 w1)) else .error .reservedBits
  | 74 => if w1 < 32 then .ok (.st32Addr2 (readAddr2 w1) (decodeReg p)) else .error .reservedBits
  | 75 => if p < 32 ∧ w1 < 32 then .ok (.st64Addr2 (readAddr2 w1) (decodeXReg p)) else .error .reservedBits
  | 76 => if p < 32 ∧ w1 < 256 then .ok (.st8Addr2 (readAddr2 p) (BitVec.ofNat 8 w1)) else .error .reservedBits
  | 77 => if p < 32 then .ok (.st16Addr2 (readAddr2 p) (BitVec.ofNat 16 w1)) else .error .reservedBits
  | 78 => decodeMiscAddr2 p w1
  | 79 => if p = 0 ∧ w1 < 128 then .ok (.callReg (Fin.ofNat 16 (fld w1 0 4)) (Fin.ofNat 8 (fld w1 4 3))) else .error .reservedBits
  | 80 => if p < 16 then zeroParam w1 (.callProtReg (Fin.ofNat 16 p)) else .error .reservedBits
  | _ => .error .undefinedOpcode

/-- The long ADD and SUB with an immediate. -/
def longImm (f : Fin 16 → Fin 16 → Half → Instr) (w0 w1 : Nat) : Except DecodeError Instr :=
  .ok (f (Fin.ofNat 16 (fld w0 4 4)) (Fin.ofNat 16 (fld w0 0 4)) (BitVec.ofNat 16 w1))

/-- `MV.32 ADDR3_y,ADDR3_x`: twenty-four operand bits, the destination high (DESIGN CHOICE; R206 gives no places). -/
def decodeAddr3 (w0 w1 : Nat) : Except DecodeError Instr :=
  if (readAddr3 (fld w0 0 8 * 16 + fld w1 12 4)).wf && (readAddr3 (fld w1 0 12)).wf then
    .ok (.mv32Addr3 (readAddr3 (fld w0 0 8 * 16 + fld w1 12 4)) (readAddr3 (fld w1 0 12)))
  else .error .stackPointer

/-- A 32-bit instruction. -/
def decode32 (w0 w1 : Nat) : Except DecodeError Instr :=
  match fld w0 8 5 with
  | 0 => decodeAddr3 w0 w1
  | 1 => longImm .addU16 w0 w1
  | 2 => longImm .subU16 w0 w1
  | 3 => .error .undefinedOpcode
  | 4 => longImm (.addImm .a) w0 w1
  | 5 => longImm (.addImm .d) w0 w1
  | 6 => longImm (.subImm .a) w0 w1
  | 7 => longImm (.subImm .d) w0 w1
  | _ => decodeGroup32 (fld w0 6 7) (fld w0 0 6) w1

/-- The 48-bit group 24: seven sub-operation bits `p` and a 32-bit parameter `v`. -/
def decodeMisc48 (p v : Nat) : Except DecodeError Instr :=
  match p with
  | 0 => addr1Only (fun m => .or16Addr1 m (BitVec.ofNat 16 (fld v 16 16))) (fld v 0 16)
  | 1 => addr1Only (fun m => .and16Addr1 m (BitVec.ofNat 16 (fld v 16 16))) (fld v 0 16)
  | 2 => addr1Only (fun m => .xor16Addr1 m (BitVec.ofNat 16 (fld v 16 16))) (fld v 0 16)
  | 3 => byteParam v (fun m b => .or8Addr1 m b)
  | 4 => byteParam v (fun m b => .and8Addr1 m b)
  | 5 => byteParam v (fun m b => .xor8Addr1 m b)
  | 6 => addr1Only (fun m => .st16Addr1 m (BitVec.ofNat 16 (fld v 16 16))) (fld v 0 16)
  | 7 => byteParam v (fun m b => .st8Addr1 m b)
  | 8 => twoAddr1 v (fun d s => .mv8Addr1 d s)
  | 9 => twoAddr1 v (fun d s => .mv16Addr1 d s)
  | 10 => twoAddr1 v (fun d s => .mv32Addr1 d s)
  | 11 => twoAddr1 v (fun d s => .mv64Addr1 d s)
  | 12 => .ok (.callProtLabel (BitVec.ofNat 32 v))
  | 13 => .ok (.lbProt (BitVec.ofNat 32 v))
  | 14 => .ok (.ldRpc (BitVec.ofNat 32 v))
  | 15 => .ok (.statusOp (.andImm .dsts (BitVec.ofNat 32 v)))
  | 16 => .ok (.statusOp (.andImm .ests (BitVec.ofNat 32 v)))
  | 17 => .ok (.statusOp (.orImm .dsts (BitVec.ofNat 32 v)))
  | 18 => .ok (.statusOp (.orImm .ests (BitVec.ofNat 32 v)))
  | _ => .error .undefinedOpcode

/-- The 48-bit groups 0 to 39: seven operand bits `p` and the 32-bit parameter `v` (R171). A label is its absolute address; whether the
code holds that or a distance from the program counter is not given (R230, log entry 1). -/
def decodeGroup48 (op p v : Nat) : Except DecodeError Instr :=
  match op with
  | 0 => dirm (.ld32Dirm (decodeReg (fld p 1 6))) (.ld32DirmIx (decodeReg (fld p 1 6))) True p v
  | 1 => dirm (.ldB0Dirm (decodeReg (fld p 1 6))) (.ldB0DirmIx (decodeReg (fld p 1 6))) True p v
  | 2 => dirm (.ldB1Dirm (decodeReg (fld p 1 6))) (.ldB1DirmIx (decodeReg (fld p 1 6))) True p v
  | 3 => dirm (.ldB2Dirm (decodeReg (fld p 1 6))) (.ldB2DirmIx (decodeReg (fld p 1 6))) True p v
  | 4 => dirm (.ldB3Dirm (decodeReg (fld p 1 6))) (.ldB3DirmIx (decodeReg (fld p 1 6))) True p v
  | 5 => dirm (.ldS16Dirm (decodeReg (fld p 1 6))) (.ldS16DirmIx (decodeReg (fld p 1 6))) True p v
  | 6 => dirm (.ldS8Dirm (decodeReg (fld p 1 6))) (.ldS8DirmIx (decodeReg (fld p 1 6))) True p v
  | 7 => dirm (.ldU16Dirm (decodeReg (fld p 1 6))) (.ldU16DirmIx (decodeReg (fld p 1 6))) True p v
  | 8 => dirm (.ldU8Dirm (decodeReg (fld p 1 6))) (.ldU8DirmIx (decodeReg (fld p 1 6))) True p v
  | 9 => dirm (.ldW0Dirm (decodeReg (fld p 1 6))) (.ldW0DirmIx (decodeReg (fld p 1 6))) True p v
  | 10 => dirm (.ldW1Dirm (decodeReg (fld p 1 6))) (.ldW1DirmIx (decodeReg (fld p 1 6))) True p v
  | 11 => dirm (.ld64Dirm (decodeXReg (fld p 1 6))) (.ld64DirmIx (decodeXReg (fld p 1 6))) (p < 64) p v
  | 12 => dirm (fun a => .st32Dirm a (decodeReg (fld p 1 6))) (fun b o => .st32DirmIx b o (decodeReg (fld p 1 6))) True p v
  | 13 => dirm (fun a => .stB0Dirm a (decodeReg (fld p 1 6))) (fun b o => .stB0DirmIx b o (decodeReg (fld p 1 6))) True p v
  | 14 => dirm (fun a => .stB1Dirm a (decodeReg (fld p 1 6))) (fun b o => .stB1DirmIx b o (decodeReg (fld p 1 6))) True p v
  | 15 => dirm (fun a => .stB2Dirm a (decodeReg (fld p 1 6))) (fun b o => .stB2DirmIx b o (decodeReg (fld p 1 6))) True p v
  | 16 => dirm (fun a => .stB3Dirm a (decodeReg (fld p 1 6))) (fun b o => .stB3DirmIx b o (decodeReg (fld p 1 6))) True p v
  | 17 => dirm (fun a => .stW0Dirm a (decodeReg (fld p 1 6))) (fun b o => .stW0DirmIx b o (decodeReg (fld p 1 6))) True p v
  | 18 => dirm (fun a => .stW1Dirm a (decodeReg (fld p 1 6))) (fun b o => .stW1DirmIx b o (decodeReg (fld p 1 6))) True p v
  | 19 => dirm (fun a => .st64Dirm a (decodeXReg (fld p 1 6))) (fun b o => .st64DirmIx b o (decodeXReg (fld p 1 6))) (p < 64) p v
  | 20 => dirm (fun a => .s16tofDirm a) (fun b o => .s16tofDirmIx b o) (p < 2) p v
  | 21 => dirm (fun a => .u16tofDirm a) (fun b o => .u16tofDirmIx b o) (p < 2) p v
  | 22 => if p < 64 then .ok (.mvImm (decodeReg p) (BitVec.ofNat 32 v)) else .error .reservedBits
  | 23 => if p < 8 then .ok (.callLabel (BitVec.ofNat 32 v) (Fin.ofNat 8 p)) else .error .reservedBits
  | 24 => decodeMisc48 p v
  | _ => .error .undefinedOpcode

/-- A generic branch to a label. That TA.MAP is no condition of this form is the model's choice (R238, log entry 72). -/
def decodeBranchLabel (w0 v : Nat) : Except DecodeError Instr :=
  if fld w0 0 6 = 1 then .error .reservedBits
  else match readCond (fld w0 0 6) 0 with
    | some c => .ok (.branch (.label (BitVec.ofNat 32 v)) c (Fin.ofNat 8 (fld w0 6 3)))
    | none => .error .undefinedOpcode

/-- A generic branch to a register; Word 1 is the TA.MAP table. -/
def decodeBranchReg (w0 v : Nat) : Except DecodeError Instr :=
  if 16 ≤ fld v 16 16 ∨ (fld w0 0 6 ≠ 1 ∧ fld v 0 16 ≠ 0) then .error .reservedBits
  else match readCond (fld w0 0 6) (fld v 0 16) with
    | some c => .ok (.branch (.reg (Fin.ofNat 16 (fld v 16 16))) c (Fin.ofNat 8 (fld w0 6 3)))
    | none => .error .undefinedOpcode

/-- `BCMPZ @label,cond,Dx`. -/
def decodeBcmpz (w0 v : Nat) : Except DecodeError Instr :=
  match readDCond (fld w0 4 4) with
  | some c => .ok (.bcmpz (BitVec.ofNat 32 v) c (Fin.ofNat 16 (fld w0 0 4)) (Fin.ofNat 8 (fld w0 8 3)))
  | none => .error .undefinedOpcode

/-- A 48-bit instruction with parameter `v`. -/
def decode48 (w0 v : Nat) : Except DecodeError Instr :=
  if fld w0 11 2 = 3 then decodeBcmpz w0 v
  else if fld w0 9 4 = 10 then decodeBranchLabel w0 v
  else if fld w0 9 4 = 11 then decodeBranchReg w0 v
  else decodeGroup48 (fld w0 7 6) (fld w0 0 7) v

/-- The instruction of three consecutive words, of which it uses the first `sizeWords w0`. -/
def decodeWords (w0 w1 w2 : Nat) : Except DecodeError Instr :=
  if sizeWords w0 = 1 then decode16 w0
  else if sizeWords w0 = 2 then decode32 w0 w1
  else decode48 w0 (w1 + 65536 * w2)

/-- The two bytes of a word, low byte first (R127, decision D8). -/
def wordBytes (w : Nat) : List Byte := [BitVec.ofNat 8 w, BitVec.ofNat 8 (w / 256)]

/-- The word of two bytes (R127). -/
def bytesWord (lo hi : Byte) : Nat := lo.toNat + 256 * hi.toNat

/-- The bytes of an instruction in memory order, I_Link 0. -/
def encodeBytes (i : Instr) : List Byte := (encode i).flatMap wordBytes

/-- The instruction at the head of the bytes, and the bytes after it. -/
def decode : List Byte → Except DecodeError (Instr × List Byte)
  | b0 :: b1 :: r0 =>
    if sizeWords (bytesWord b0 b1) = 1 then (decodeWords (bytesWord b0 b1) 0 0).map fun i => (i, r0)
    else match r0 with
      | c0 :: c1 :: r1 =>
        if sizeWords (bytesWord b0 b1) = 2 then
          (decodeWords (bytesWord b0 b1) (bytesWord c0 c1) 0).map fun i => (i, r1)
        else match r1 with
          | d0 :: d1 :: r2 =>
            (decodeWords (bytesWord b0 b1) (bytesWord c0 c1) (bytesWord d0 d1)).map fun i => (i, r2)
          | _ => .error .truncated
      | _ => .error .truncated
  | _ => .error .truncated

/-- The first six bytes of an instruction whose bits, `nbits` of them, are `w` (bits above are 0). -/
def tableBytes (nbits w : Nat) : List Byte :=
  wordBytes (w % 2 ^ nbits) ++ wordBytes (w % 2 ^ nbits / 65536) ++ wordBytes (w % 2 ^ nbits / 4294967296)

/-- The instruction the decoder reads from an instruction of `nbits` bits `w`, numbered as the opcode table numbers them. -/
def decodeTableWord (nbits w : Nat) : Option Instr :=
  match decode (tableBytes nbits w) with
  | .ok (i, _) => some i
  | .error _ => none

end Sys2Proof
end

