-- ==== Sys2Proof/Machine/Bits.lean ====
section
/-! DEFINITION. The bit-field, extension and lane helpers the meanings use. -/

namespace Sys2Proof.Machine

/-- `zext_32` of R11. -/
def zext32 {w : Nat} (v : BitVec w) : Word := v.setWidth 32

/-- `sext_32` of R11. -/
def sext32 {w : Nat} (v : BitVec w) : Word := v.signExtend 32

/-- `ones_32(field, k)` of R11, R210 and R211: a k-bit field below ones. -/
def ones32 {k : Nat} (field : BitVec k) : Word := zext32 field - BitVec.ofNat 32 (2 ^ k)

/-- The steps of `rev32`. -/
def revSteps : Nat → Word → Word → Word
  | 0, _, acc => acc
  | k + 1, v, acc => revSteps k (v >>> 1) ((acc <<< 1) ||| (v &&& 1#32))

/-- `rev32` of R11: bit i of the result is bit 31-i. -/
def rev32 (v : Word) : Word := revSteps 32 v 0

/-- The pair `{hi, lo}` of R33. -/
def joinPair (hi lo : Word) : DWord := hi ++ lo

/-- Bits 31:0, the even register of a pair (R33, R127). -/
def lowWord (v : DWord) : Word := v.setWidth 32

/-- Bits 63:32, the odd register of a pair (R33, R127). -/
def highWord (v : DWord) : Word := (v >>> 32).setWidth 32

/-- `old` with the `n` bits from bit `lo` up replaced by those of `v` (R377 to R382). -/
def insertLane (lo n : Nat) (old : Word) (v : DWord) : Word :=
  (old &&& ~~~(BitVec.ofNat 32 (2 ^ n - 1) <<< lo)) ||| ((v.setWidth 32 &&& BitVec.ofNat 32 (2 ^ n - 1)) <<< lo)

/-- Whether a 32-bit value is negative as a signed number (R10). -/
def isNegative (v : Word) : Bool := v.msb

/-- Whether `y + x` overflows as a signed 32-bit sum (R73). -/
def addOverflows (y x : Word) : Bool := decide ((y + x).toInt ≠ y.toInt + x.toInt)

/-- Whether `y - x` overflows as a signed 32-bit difference (R73). -/
def subOverflows (y x : Word) : Bool := decide ((y - x).toInt ≠ y.toInt - x.toInt)

/-- `2 ^ k` where the bit is set. -/
def bitAt (b : Bool) (k : Nat) : Nat := if b then 2 ^ k else 0

/-- An address is a multiple of `n` (R130). -/
def isAligned (a : Word) (n : Nat) : Bool := a.toNat % n == 0

end Sys2Proof.Machine
end

