-- ==== Sys2Proof/Config.lean ====
section
/-! DEFINITION. What an implementation of the C29x fixes (the open parameters of 92_eei_decisions.md section 2)
and the values the spec leaves free, as constants without a body. -/

namespace Sys2Proof

/-- The kinds of region `MEMORY_MAP` may give an address (R122). -/
inductive RegionKind where
  | rom | flash | ram | peripheral | emif0 | emif1
  deriving DecidableEq, Repr

/-- An access-protection range configured for EXE: its 4 KB pages belong to one LINK (R161, R162). -/
structure ExeRange where
  firstPage : Nat
  lastPage : Nat
  link : LinkId
  deriving DecidableEq, Repr

/-- An access-protection range for data: one read and one write permission per LINK, and the
optional CCLINK filter on the LINK of the caller (R160, R163). -/
structure ApRange where
  firstPage : Nat
  lastPage : Nat
  readLinks : BitVec 16
  writeLinks : BitVec 16
  cclinkEnabled : Bool
  cclinks : BitVec 16
  deriving DecidableEq, Repr

/-- One region of `MEMORY_MAP` (R122), in 4 KB pages. -/
structure MapRange where
  firstPage : Nat
  lastPage : Nat
  kind : RegionKind
  deriving DecidableEq, Repr

/-- `RTISP_MAX_OUTCOME` (R508, decision D19). -/
inductive RtMaxOutcome where
  | fault | raiseNmi
  deriving DecidableEq, Repr

/-- `SUB_RRR_ORDER` (R454, decision D45). -/
inductive SubOrder where
  | yMinusX | xMinusY
  deriving DecidableEq, Repr

/-- Which arithmetic `fmul32` and `fadd32` are: the default of R468, or another configuration. -/
inductive FpKind where
  | ieee | other
  deriving DecidableEq, Repr

/-- The open parameters of the machine (R8, R21 and 92_eei_decisions.md section 2), as plain data. No step changes them. NDELAY is an
operand of each delayed instruction; `timeoutValue` and `eradUnits` are not used, as the table of section 2 says. -/
structure Params where
  resetPc : Word
  nmiVector : Word
  maxPsp : Nat
  maxRtisp : Nat
  rtispMaxOutcome : RtMaxOutcome
  atomicMax : Nat
  ilinkLast : Bool
  intFrameBytes : Nat
  retiIntRestoresInte : Option Bool
  subOrder : SubOrder
  intspAtReset : StackId
  secspAtReset : Vector Word 16
  warnPspAtReset : Nat
  warnRtispAtReset : Nat
  timeoutValue : Nat
  eradUnits : Nat
  exe : List ExeRange
  stackOf : Vector StackId 16
  zoneOf : Vector ZoneId 16
  ap : List ApRange
  map : List MapRange
  fp : FpKind
  deriving DecidableEq, Repr

namespace Config

/-! The values the spec leaves open. None has a body: a claim holds whatever they are. The `Nat` argument is
the machine's draw counter, so that every draw may differ (`draw(T)` of R11). -/

/-- A free value of up to 64 bits. -/
opaque freeData : Nat → DWord

/-- A free truth value. -/
opaque freeBit : Nat → Bool

/-- What a byte of memory reads as before anything has written it (R110: contents unspecified). -/
opaque initialByte : Nat → Byte

/-- `cmp_flags` for the A and D banks (R457): the flags Z, N, C, ZV as bits 0 to 3. The first argument is
false for the A bank and true for the D bank. -/
opaque cmpFlags : Bool → Word → Word → BitVec 4

/-- `cmp_flags` for the M bank (R457): ZF and NF as bits 0 and 1. -/
opaque cmpFlagsM : Word → Word → BitVec 2

/-- `cond_A` for the six conditions that are not defined as the complement of another (R62):
EQ, GT, GEQ, HI, HIS, EQANDNZ as 0 to 5, of the flags Z, N, C, ZV. -/
opaque condA : Fin 6 → BitVec 4 → Bool

/-- `cond_D` likewise (R72), of the flags Z, N, C, ZV, OV, OVNEG. -/
opaque condD : Fin 6 → BitVec 6 → Bool

/-- `ta_map`: which entry of the look-up table the four TA flags select (R65). -/
opaque taIndex : BitVec 4 → Fin 16

/-- `ftos16` (R466). -/
opaque ftos16 : Word → Word

/-- `crc` (R467), of the operands Dy, Dx, Dw. -/
opaque crc : Word → Word → Word → Word

/-- `fmul32` where the configuration is not IEEE (R468). -/
opaque fmul32 : Word → Word → Word

/-- `fadd32` where the configuration is not IEEE (R469). -/
opaque fadd32 : Word → Word → Word

/-- The NaN an IEEE operation answers, which R468 leaves open, of its two operands. -/
opaque nanResult : Word → Word → Word

/-- Whether the SSU lets a debug access through (R165): the argument is the draw counter, for the security settings then in force, the
ZONE of the code at which the CPU is halted, and the address where memory is accessed. -/
opaque ssuAllowsDebug : Nat → ZoneId → Option Word → Bool

/-- Whether the DBGM bit lets a debug request through (R63: the polarity is not given). -/
opaque dbgmAllows : Bool → Bool

end Config

/-- Whether page `p` lies in the pages `lo` to `hi`. -/
def inPages (lo hi p : Nat) : Bool := decide (lo ≤ p) && decide (p ≤ hi)

/-- The 4 KB page of an address (R162). -/
def pageOf (a : Word) : Nat := a.toNat / 4096

/-- Two page ranges share no page. -/
def disjointPages (lo hi lo' hi' : Nat) : Bool := decide (hi < lo') || decide (hi' < lo)

/-- What the spec asks of a configuration: ranges of one kind do not overlap (R162), the reset address is even and
its STACK is 0 (R602), the NMI vector is even (R523), the INT frame is a positive multiple of 8 (R533), and the types of the
parameter table hold (92_eei_decisions.md section 2). A step of a machine configured otherwise is refused. A RESET_PC that no EXE range
covers is admitted, since no STACK of it contradicts the reset value (log entry 5). -/
def Params.wf (c : Params) : Bool :=
  c.resetPc.toNat % 2 == 0 && c.nmiVector.toNat % 2 == 0
  && c.intFrameBytes % 8 == 0 && decide (8 ≤ c.intFrameBytes)
  && (c.atomicMax == 64 || c.atomicMax == 255 || c.atomicMax == 256)
  && c.secspAtReset.toList.all (fun v => v.toNat % 8 == 0) && decide (c.warnPspAtReset ≤ c.maxPsp)
  && decide (c.exe.Pairwise fun x y => disjointPages x.firstPage x.lastPage y.firstPage y.lastPage = true)
  && decide (c.ap.Pairwise fun x y => disjointPages x.firstPage x.lastPage y.firstPage y.lastPage = true)
  && decide (c.map.Pairwise fun x y => disjointPages x.firstPage x.lastPage y.firstPage y.lastPage = true)
  && (match c.exe.find? fun r => inPages r.firstPage r.lastPage (pageOf c.resetPc) with
      | some r => decide (c.stackOf[r.link] = 0)
      | none => true)

/-- The defaults of 92_eei_decisions.md section 2; a default the table does not name is a design choice of the log (entries 3 to 7, 58, 70). -/
def Params.default : Params where
  resetPc := 0
  nmiVector := 0
  maxPsp := 16
  maxRtisp := 7
  rtispMaxOutcome := .fault
  atomicMax := 255
  ilinkLast := false
  intFrameBytes := 8
  retiIntRestoresInte := none
  subOrder := .yMinusX
  intspAtReset := 0
  secspAtReset := Vector.replicate 16 0
  warnPspAtReset := 16
  warnRtispAtReset := 7
  timeoutValue := 0
  eradUnits := 0
  exe := [⟨0, 0xFFFFF, 0⟩]
  stackOf := Vector.replicate 16 0
  zoneOf := Vector.replicate 16 0
  ap := [⟨0, 0xFFFFF, 0xFFFF#16, 0xFFFF#16, false, 0xFFFF#16⟩]
  map := [⟨0, 0xFFFFF, .ram⟩]
  fp := .ieee

end Sys2Proof
end

