-- ==== Sys2Proof/Machine/State.lean ====
section
/-! DEFINITION. The state of the machine, as plain data, and the state right after reset. -/

namespace Sys2Proof.Machine

/-! ### Reasons to stop -/

/-- Host faults: the machine stops outside the contract of the spec. (The CPU's own FAULT state is not one of
these: it is architectural state, `Arch.fault`.) -/
inductive Fault where
  /-- An access or a fetch at an address that `MEMORY_MAP` leaves unmapped (R166, decision D11). Raised by
  `memRead`, `memWrite` and the fetch. Safe: the model stops. -/
  | unmapped (addr : Nat)
  deriving DecidableEq, Repr

/-- Refusals: the program is outside the contract of the spec. All are safe: the model proves nothing about such a run. -/
inductive Refusal where
  /-- an instruction whose meaning is still to be written; raised by `exec` only -/
  | notModelled (mnemonic : String)
  /-- an instruction the spec names without semantics and has the model refuse (decisions D14, D42); raised by its meaning -/
  | noSemantics (mnemonic : String)
  /-- a discontinuity to an odd target (R42); raised by `jumpTo` and by the interrupt entries -/
  | oddTarget (addr : Nat)
  /-- a packet at an odd address (R42); raised by `step` -/
  | oddPc (addr : Nat)
  /-- a packet or its successor beyond the top of memory (R42); raised by `step` -/
  | pastTop
  /-- execution of a byte the program has stored to since reset (R152); raised by `step` -/
  | storedCode (addr : Nat)
  /-- two writes of one register in a packet (R18); raised by `step` -/
  | doubleWrite
  /-- more than two loads or more than one store in a packet (R19); raised by `step` -/
  | tooManyAccesses
  /-- a packing or delay-slot restriction broken (R220, R221); raised by `step`, `rule` is the item of R220, or 21 for R221 -/
  | placement (rule : Nat)
  /-- Ax = 15 in an addressing field that has no stack mode (R188); raised by `step` -/
  | spOperand
  /-- `RET.PROT` with an empty protected call stack (R250) -/
  | retProtEmpty
  /-- `RET.PROT` whose target is not the return address of its frame (R250) -/
  | retProtMismatch
  /-- `RETI.INT` outside an INT handler (R287) -/
  | retiIntOutside
  /-- `RETI.RTINT` with an empty real-time interrupt stack (R288) -/
  | retiRtintEmpty
  /-- an ATOMIC count above `ATOMIC_MAX` (R281) -/
  | atomicCount (n : Nat)
  /-- a configuration the spec rules out (R602, R162, R523, R533); raised by `step` -/
  | configuration
  deriving DecidableEq, Repr

/-- The causes of the FAULT state (R501). -/
inductive Cause where
  | eccDoubleBit | instructionTimeout | stackMisaligned | addressingFault | protectedCallStackFull
  | rtintStackFull | missingIsrPair | missingEntry | missingExit | crossStackTransfer | intWrongStack
  | linearLinkCrossing | protectionViolation
  deriving DecidableEq, Repr

/-! ### Status registers -/

/-- The compare flags of the A or the D bank (R61, R72), one field. -/
structure Flags where
  z : Bool
  n : Bool
  c : Bool
  zv : Bool
  deriving DecidableEq, Repr

/-- The values of DSTS.INTS (R67). -/
inductive IntLevel where
  | main | int | rtint | nmi
  deriving DecidableEq, Repr

/-- ISTS (R51). Reserved bits read as 0 and are not stored (R50). -/
structure Ists where
  intf : Bool
  rtintf : Bool
  nmif : Bool
  atomic : BitVec 8
  currsp : StackId
  intsp : StackId
  currlink : LinkId
  deriving DecidableEq, Repr

/-- DSTS (R60). -/
structure Dsts where
  flags : Flags
  dbgm : Bool
  clink : LinkId
  ta : BitVec 4
  inte : Bool
  ints : IntLevel
  prio : BitVec 8
  rlink : LinkId
  deriving DecidableEq, Repr

/-- ESTS (R71). -/
structure Ests where
  flags : Flags
  ov : Bool
  ovneg : Bool
  zf : Bool
  nf : Bool
  luf : Bool
  lvf : Bool
  tdm : BitVec 4
  rndf32 : Bool
  rndf64 : Bool
  idivZ : Bool
  idivN : Bool
  idivTf : Bool
  fdivTf : Bool
  fdivN : Bool
  tmuTf : Bool
  deriving DecidableEq, Repr

/-! ### Memory and hardware stacks -/

/-- Memory: the bytes that have been written, in rising order of address. An address that is not listed holds an
unspecified value (R110), so no byte equals "what an unlisted address reads as" and every written byte is listed. -/
abbrev Memory := List Host.Cell

/-- A frame of the protected call stack (R83, decision D40). -/
structure ProtFrame where
  link : LinkId
  stack : StackId
  ret : Word
  deriving DecidableEq, Repr

/-- A frame of the real-time interrupt stack: 68 words (R85). -/
structure RtFrame where
  a : Vector Word 16
  d : Vector Word 16
  m : Vector Word 32
  rpc : Word
  dsts : Dsts
  ests : Ests
  ret : Word
  deriving DecidableEq, Repr

/-- What an INT entry remembers for its RETI.INT (R532). `inte` is kept for `RETI_INT_RESTORES_INTE` (decision D17). -/
structure IntSave where
  ints : IntLevel
  prio : BitVec 8
  inte : Bool
  deriving DecidableEq, Repr

/-- A latched RTINT (R520). -/
structure RtRequest where
  vector : Word
  prio : BitVec 8
  deriving DecidableEq, Repr

/-- A latched INT (R520). -/
structure IntRequest where
  vector : Word
  prio : BitVec 8
  supervisor : Bool
  deriving DecidableEq, Repr

/-- What the next packet must be (R100 (d)); `firstOfInt` marks the first packet of an INT handler, which row 6 of R525
protects but which no rule constrains. -/
inductive Expect where
  | none | entryPair | exitMark | isrPair | firstOfInt
  deriving DecidableEq, Repr

/-- What a delayed discontinuity leaves to the end of its slots: nothing; RPC, which a CALLD writes there (R233); or CURRSP, which takes
its value with the jump of a delayed RETI.RTINT (R55, log entry 71). -/
inductive Late where
  | nothing
  | rpc
  | currsp (k : StackId)
  deriving DecidableEq, Repr

/-- A delayed discontinuity under way (R262), with what it still has to write. -/
structure Pending where
  target : Word
  remaining : Nat
  late : Late
  deriving DecidableEq, Repr

/-- The architectural state proper: everything an instruction reads or writes. `xcCover` is how many of the next packets an XC or XCP
covers (R100 (h)); nothing sets it, since both are refused (R270), and a covered packet is refused. -/
structure Arch where
  a : Vector Word 16
  d : Vector Word 16
  m : Vector Word 32
  pc : Word
  rpc : Word
  ists : Ists
  dsts : Dsts
  ests : Ests
  secsp : Vector Word 16
  protStack : List ProtFrame
  rtStack : List RtFrame
  intSaves : List IntSave
  warnPsp : Nat
  warnRtisp : Nat
  mem : Memory
  stored : List Nat
  nmiPending : Bool
  rtintPending : Option RtRequest
  intPending : Option IntRequest
  expect : Expect
  pending : Option Pending
  xcCover : Nat
  idle : Bool
  fault : Option Cause
  deriving DecidableEq, Repr

/-! ### The rest of the machine -/

/-- What the packet under execution has done so far (the model's own, empty between packets). `seqPc` is the address after
the packet; `wraps` that it lies past the top; `jumped` that the program counter is a taken target; `atomicLoaded` that the packet holds
the ATOMIC that loaded the counter (R282); `halted` that EMUSTOP0 halted before the packet (R296). -/
structure PacketCtx where
  seqPc : Word
  wraps : Bool
  jumped : Bool
  atomicLoaded : Bool
  halted : Bool
  deriving DecidableEq, Repr

/-- The debug execution state (R104). -/
inductive DebugMode where
  | run | freeRun
  | singleStep (dint : Bool)
  | halt
  | waitSync
  deriving DecidableEq, Repr

/-- The debugger's side of the CPU (R104, R580): whether one is connected, the execution state, a halt not yet honoured. -/
structure Debug where
  connected : Bool
  mode : DebugMode
  haltPending : Bool
  deriving DecidableEq, Repr

/-- A register the debugger writes while the CPU is halted (R12, R582). -/
inductive DebugReg where
  | reg (r : Reg)
  | pc
  | rpc
  | status (q : StatusReg)
  deriving DecidableEq, Repr

/-- What the environment may do between two packets (R12, R520, R577, R582). -/
inductive Event where
  | reset
  | nmi
  | rtint (vector : Word) (prio : BitVec 8)
  | int (vector : Word) (prio : BitVec 8) (supervisor : Bool)
  | eccDoubleBit
  | busWrite (addr : Word) (v : Byte)
  | setIntsp (v : StackId)
  | setWarnPsp (n : Nat)
  | setWarnRtisp (n : Nat)
  | setSecsp (i : StackId) (v : Word)
  | dbgConnect (on : Bool)
  | dbgHalt
  | dbgRun
  | dbgFreeRun
  | dbgStep (dint : Bool)
  | dbgSyncRun
  | dbgSync
  | dbgWrite (r : DebugReg) (v : Word)
  | dbgWriteMem (addr : Word) (v : Byte)
  deriving DecidableEq, Repr

/-- What the CPU reports to the outside (R517, R160): error and warning signals, and accesses to peripherals. -/
inductive Output where
  | faultEntered (c : Cause)
  | pspWarning
  | rtispWarning
  | accessError (addr : Nat)
  | deviceRead (addr : Nat) (n : Nat)
  | deviceWrite (addr : Nat) (n : Nat) (v : DWord)
  deriving DecidableEq, Repr

/-- The whole machine. `cur` is the state the packet under execution is building; `pre` is the state before that packet,
which every instruction of it reads (R16). Between packets the two are equal. `free` counts the free values drawn. -/
structure State where
  cur : Arch
  pre : Arch
  pkt : PacketCtx
  free : Nat
  cfg : Params
  dbg : Debug
  inputs : List (List Event)
  outputs : List Output
  deriving DecidableEq, Repr

/-! ### Reset -/

/-- All flags clear. -/
def Flags.clear : Flags := ⟨false, false, false, false⟩

/-- ISTS after reset (R51), with INTSP as the PIPE drives it (R56). -/
def Ists.reset (intsp : StackId) : Ists := ⟨false, false, false, 0, 0, intsp, 0⟩

/-- DSTS after reset, `0x07F8_0000` (R60): ISR PRIORITY is `0xFF`, every other field 0. -/
def Dsts.reset : Dsts := ⟨Flags.clear, false, 0, 0, false, .main, 0xFF#8, 0⟩

/-- ESTS after reset, 0 (R71). -/
def Ests.reset : Ests :=
  ⟨Flags.clear, false, false, false, false, false, false, 0, false, false, false, false, false, false, false, false⟩

/-- The architectural state after reset (R110). SECSP0 to SECSP15 and the warning levels have the values of their parameters. -/
def Arch.reset (c : Params) : Arch where
  a := Vector.replicate 16 0
  d := Vector.replicate 16 0
  m := Vector.replicate 32 0
  pc := c.resetPc
  rpc := 0
  ists := Ists.reset c.intspAtReset
  dsts := Dsts.reset
  ests := Ests.reset
  secsp := c.secspAtReset
  protStack := []
  rtStack := []
  intSaves := []
  warnPsp := c.warnPspAtReset
  warnRtisp := c.warnRtispAtReset
  mem := []
  stored := []
  nmiPending := false
  rtintPending := none
  intPending := none
  expect := .none
  pending := none
  xcCover := 0
  idle := false
  fault := none

/-- No packet is being executed. -/
def PacketCtx.empty : PacketCtx := ⟨0, false, false, false, false⟩

/-- No debugger is connected and the CPU is in the run state (decision D27). -/
def Debug.off : Debug := ⟨false, .run, false⟩

/-- The machine right after reset (R110, R600), with the default parameters. -/
def State.reset : State where
  cur := Arch.reset Params.default
  pre := Arch.reset Params.default
  pkt := PacketCtx.empty
  free := 0
  cfg := Params.default
  dbg := Debug.off
  inputs := []
  outputs := []

end Sys2Proof.Machine
end

