-- ==== Sys2Proof/Machine/Flags.lean ====
section
/-! DEFINITION. The status registers as words, the writes software may make to them, the compare flags, the sticky
overflow flags and the conditions. -/

namespace Sys2Proof.Machine

/-! ### Words -/

/-- Z, N, C, ZV as bits 0 to 3 (R60, R71). -/
def flagsNat (f : Flags) : Nat := bitAt f.z 0 + bitAt f.n 1 + bitAt f.c 2 + bitAt f.zv 3

/-- Z, N, C, ZV as a four-bit field. -/
def flagsBits (f : Flags) : BitVec 4 := BitVec.ofNat 4 (flagsNat f)

/-- The flags of a four-bit field. -/
def flagsOfBits (v : BitVec 4) : Flags := ⟨v.getLsbD 0, v.getLsbD 1, v.getLsbD 2, v.getLsbD 3⟩

/-- The values of INTS (R67). -/
def intLevelNat : IntLevel → Nat
  | .main => 0
  | .int => 1
  | .rtint => 2
  | .nmi => 3

/-- ISTS as a word (R51). -/
def istsWord (r : Ists) : Word :=
  BitVec.ofNat 32 (bitAt r.intf 0 + bitAt r.rtintf 1 + bitAt r.nmif 2 + r.atomic.toNat * 2 ^ 8 + r.currsp.val * 2 ^ 16
    + r.intsp.val * 2 ^ 20 + r.currlink.val * 2 ^ 27)

/-- DSTS as a word (R60). -/
def dstsWord (r : Dsts) : Word :=
  BitVec.ofNat 32 (flagsNat r.flags + bitAt r.dbgm 6 + r.clink.val * 2 ^ 7 + r.ta.toNat * 2 ^ 12 + bitAt r.inte 16
    + intLevelNat r.ints * 2 ^ 17 + r.prio.toNat * 2 ^ 19 + r.rlink.val * 2 ^ 27)

/-- ESTS as a word (R71). -/
def estsWord (r : Ests) : Word :=
  BitVec.ofNat 32 (flagsNat r.flags + bitAt r.ov 4 + bitAt r.ovneg 5 + bitAt r.zf 8 + bitAt r.nf 9 + bitAt r.luf 10
    + bitAt r.lvf 11 + r.tdm.toNat * 2 ^ 12 + bitAt r.rndf32 16 + bitAt r.rndf64 17 + bitAt r.idivZ 18 + bitAt r.idivN 19
    + bitAt r.idivTf 20 + bitAt r.fdivTf 21 + bitAt r.fdivN 22 + bitAt r.tmuTf 23)

/-- A software write of DSTS: A flags, DBGM, TA0 to TA3 and INTE only (R70, R305). -/
def writeDstsWord (r : Dsts) (v : Word) : Dsts :=
  { r with
    flags := flagsOfBits (v.setWidth 4)
    dbgm := v.getLsbD 6
    ta := (v >>> 12).setWidth 4
    inte := v.getLsbD 16 }

/-- A software write of ESTS: every defined field (R78, R305). -/
def writeEstsWord (v : Word) : Ests where
  flags := flagsOfBits (v.setWidth 4)
  ov := v.getLsbD 4
  ovneg := v.getLsbD 5
  zf := v.getLsbD 8
  nf := v.getLsbD 9
  luf := v.getLsbD 10
  lvf := v.getLsbD 11
  tdm := (v >>> 12).setWidth 4
  rndf32 := v.getLsbD 16
  rndf64 := v.getLsbD 17
  idivZ := v.getLsbD 18
  idivN := v.getLsbD 19
  idivTf := v.getLsbD 20
  fdivTf := v.getLsbD 21
  fdivN := v.getLsbD 22
  tmuTf := v.getLsbD 23

/-- `DSTS_SW_MASK` of R305. -/
def dstsSwMask : Word := 0x0001F04F#32

/-- The defined bits of ESTS (R305). -/
def estsMask : Word := 0x00FFFF3F#32

/-! ### Compare flags (R457) -/

/-- The flags a compare writes in the A bank (`false`) or the D bank (`true`). -/
def compareFlags (dBank : Bool) (y x : Word) : Flags := flagsOfBits (Config.cmpFlags dBank y x)

/-- ZF and NF of a compare in the M bank. -/
def compareFlagsM (y x : Word) : Bool × Bool :=
  ((Config.cmpFlagsM y x).getLsbD 0, (Config.cmpFlagsM y x).getLsbD 1)

/-! ### Conditions (R62, R72, R65) -/

/-- The defining condition of each relation, and whether the relation is its complement (R62). -/
def relBase : RelCond → Fin 6 × Bool
  | .eq => (0, false) | .neq => (0, true)
  | .gt => (1, false) | .leq => (1, true)
  | .geq => (2, false) | .lt => (2, true)
  | .hi => (3, false) | .los => (3, true)
  | .his => (4, false) | .lo => (4, true)
  | .eqandnz => (5, false) | .neqorz => (5, true)

/-- `cond_A` (R62). -/
def condA (c : RelCond) (f : Flags) : Bool := Config.condA (relBase c).1 (flagsBits f) ^^ (relBase c).2

/-- The six flags `cond_D` reads (R72). -/
def dFlagBits (f : Flags) (ov ovneg : Bool) : BitVec 6 := BitVec.ofNat 6 (flagsNat f + bitAt ov 4 + bitAt ovneg 5)

/-- `cond_D` (R72): D.OV and D.OVNEG read their own flags. -/
def condD (c : DCond) (f : Flags) (ov ovneg : Bool) : Bool :=
  match c with
  | .rel r => Config.condD (relBase r).1 (dFlagBits f ov ovneg) ^^ (relBase r).2
  | .ov => ov
  | .ovneg => ovneg

/-- A branch condition of the status registers before the packet (R238, R65). -/
def condHolds (c : Cond) (ds : Dsts) (es : Ests) : Bool :=
  match c with
  | .always => true
  | .a r => condA r ds.flags
  | .taZ i => !ds.ta.getLsbD i.val
  | .taNZ i => ds.ta.getLsbD i.val
  | .taMap lut => lut.getLsbD (Config.taIndex ds.ta).val
  | .d c => condD c es.flags es.ov es.ovneg

/-- The condition of BCMPZ on the comparison of `v` with zero (R239): D.EQ is stated to be `v = 0`, D.NEQ is its
complement, the others are the configuration function of the compare flags. -/
def bcmpzHolds (c : DCond) (v : Word) (es : Ests) : Bool :=
  match c with
  | .rel .eq => v == 0
  | .rel .neq => v != 0
  | c => condD c (compareFlags true v 0) es.ov es.ovneg

/-! ### Sticky flags (R73) -/

/-- D.OV and D.OVNEG after an overflow in direction `neg`, where `sets` says whether this instruction records it. -/
def recordOverflow (sets neg : Bool) (es : Ests) : Ests :=
  { es with ov := es.ov || sets, ovneg := if sets && !es.ov then neg else es.ovneg }

/-- M.LUF and M.LVF after a floating-point operation: each may have become 1 and none becomes 0 (R73, decision D46). -/
def recordFp (luf lvf : Bool) (es : Ests) : Ests := { es with luf := es.luf || luf, lvf := es.lvf || lvf }

/-- A test flag written in a four-bit field. -/
def setBit4 (v : BitVec 4) (i : Fin 4) (b : Bool) : BitVec 4 :=
  if b then v ||| (1#4 <<< i.val) else v &&& ~~~(1#4 <<< i.val)

end Sys2Proof.Machine
end

