-- ==== Sys2Proof/Machine/Ops.lean ====
section
/-! DEFINITION. The shared operations: free values, registers, memory, the FAULT state, control transfer, interrupt entry and return. -/

namespace Sys2Proof.Machine

/-- The outcome of an operation on the machine. -/
abbrev Res (α : Type) := Host.Outcome α Fault Refusal

/-- Run `f` on the result, unless the machine has stopped. -/
def andThen {α β : Type} (o : Res α) (f : α → Res β) : Res β :=
  match o with
  | .next v => f v
  | .fault r => .fault r
  | .refused r => .refused r

/-! ### Free values (R11 `draw`) -/

/-- `n` draws have been used. -/
def spend (n : Nat) (s : State) : State := { s with free := s.free + n }

/-- A free 32-bit value, the `k`th from here. -/
def drawWord (k : Nat) (s : State) : Word := (Config.freeData (s.free + k)).setWidth 32

/-- A free 64-bit value. -/
def drawData (s : State) : DWord := Config.freeData s.free

/-- A free bit, the `k`th from here. -/
def drawBit (k : Nat) (s : State) : Bool := Config.freeBit (s.free + k)

/-! ### Signals and the FAULT state -/

/-- Report to the outside (R517). -/
def emit (o : Output) (s : State) : State := { s with outputs := o :: s.outputs }

/-- `raise Fault(c)` of R11: the first cause is kept and reported once (R500, R502, decision D5). -/
def raise (c : Cause) (s : State) : State :=
  match s.cur.fault with
  | some _ => s
  | none => { s with cur := { s.cur with fault := some c }, outputs := .faultEntered c :: s.outputs }

/-- `raise Fault(c)` where the check fails. -/
def raiseIf (b : Bool) (c : Cause) (s : State) : State := if b then raise c s else s

/-- Outside the contract; but where the packet has already put the CPU in the FAULT state, that state wins (R500). -/
def stopUnlessFaulted (r : Refusal) (s : State) : Res State :=
  match s.cur.fault with
  | some _ => .next s
  | none => .refused r

/-! ### Registers (R11: reads see the state before the packet, writes land in the state after it) -/

/-- `A[i]`. -/
def readA (i : Fin 16) (s : State) : Word := s.pre.a[i]

/-- `D[i]`. -/
def readD (i : Fin 16) (s : State) : Word := s.pre.d[i]

/-- `M[i]`. -/
def readM (i : Fin 32) (s : State) : Word := s.pre.m[i]

/-- `A[i] <- v`. -/
def writeA (i : Fin 16) (v : Word) (s : State) : State := { s with cur := { s.cur with a := s.cur.a.set i v } }

/-- `D[i] <- v`. -/
def writeD (i : Fin 16) (v : Word) (s : State) : State := { s with cur := { s.cur with d := s.cur.d.set i v } }

/-- `M[i] <- v`. -/
def writeM (i : Fin 32) (v : Word) (s : State) : State := { s with cur := { s.cur with m := s.cur.m.set i v } }

/-- A 32-bit register. -/
def readReg (r : Reg) (s : State) : Word :=
  match r with
  | .a i => readA i s
  | .d i => readD i s
  | .m i => readM i s

/-- Write a 32-bit register. -/
def writeReg (r : Reg) (v : Word) (s : State) : State :=
  match r with
  | .a i => writeA i v s
  | .d i => writeD i v s
  | .m i => writeM i v s

/-- The even member of a pair (R33). -/
def lowReg (x : XReg) : Reg :=
  match x with
  | .xa i => .a (Fin.ofNat 16 (2 * i.val))
  | .xd i => .d (Fin.ofNat 16 (2 * i.val))
  | .xm i => .m (Fin.ofNat 32 (2 * i.val))

/-- The odd member of a pair (R33). -/
def highReg (x : XReg) : Reg :=
  match x with
  | .xa i => .a (Fin.ofNat 16 (2 * i.val + 1))
  | .xd i => .d (Fin.ofNat 16 (2 * i.val + 1))
  | .xm i => .m (Fin.ofNat 32 (2 * i.val + 1))

/-- A 64-bit pair: the even register is bits 31:0 (R33, decision D3). -/
def readX (x : XReg) (s : State) : DWord := joinPair (readReg (highReg x) s) (readReg (lowReg x) s)

/-- Write a 64-bit pair. -/
def writeX (x : XReg) (v : DWord) (s : State) : State := writeReg (highReg x) (highWord v) (writeReg (lowReg x) (lowWord v) s)

/-- The stack pointer, A15 (R34). -/
def readSp (s : State) : Word := readA 15 s

/-- `SP <- v`. -/
def writeSp (v : Word) (s : State) : State := writeA 15 v s

/-- `RPC <- v`. -/
def writeRpc (v : Word) (s : State) : State := { s with cur := { s.cur with rpc := v } }

/-! ### SSU configuration (R21) -/

/-- `link_of` (R161): none where no EXE range covers the address. -/
def linkOf (c : Params) (a : Word) : Option LinkId :=
  (c.exe.find? fun r => inPages r.firstPage r.lastPage (pageOf a)).map ExeRange.link

/-- `stack_of`. -/
def stackOf (c : Params) (l : LinkId) : StackId := c.stackOf[l]

/-- The STACK of the code at an address; where no EXE range covers it, `old` (log entry 41). -/
def stackAt (c : Params) (a : Word) (old : StackId) : StackId :=
  match linkOf c a with
  | some l => stackOf c l
  | none => old

/-- `zone_of` (R21): the ZONE of a STACK. It bears on debug accesses only (R165, R562). -/
def zoneOf (c : Params) (k : StackId) : ZoneId := c.zoneOf[k]

/-- `MEMORY_MAP` (R122): none where the address is unmapped. -/
def regionOf (c : Params) (a : Word) : Option RegionKind :=
  (c.map.find? fun r => inPages r.firstPage r.lastPage (pageOf a)).map MapRange.kind

/-- `ap_read` and `ap_write` with the CCLINK filter (R160, R163): an address in no range is not permitted (R563). -/
def apAllows (c : Params) (write : Bool) (link clink : LinkId) (a : Word) : Bool :=
  match c.ap.find? fun r => inPages r.firstPage r.lastPage (pageOf a) with
  | some r => (if write then r.writeLinks else r.readLinks).getLsbD link.val && (!r.cclinkEnabled || r.cclinks.getLsbD clink.val)
  | none => false

/-! ### Memory -/

/-- The byte listed at an address. -/
def Memory.find (m : Memory) (a : Nat) : Option Byte :=
  match m with
  | [] => none
  | c :: m => if c.1 = a then some c.2 else Memory.find m a

/-- Set the byte at an address, keeping the addresses in rising order. -/
def Memory.put (m : Memory) (a : Nat) (v : Byte) : Memory :=
  match m with
  | [] => [(a, v)]
  | c :: m => if a < c.1 then (a, v) :: c :: m else if a = c.1 then (a, v) :: m else c :: Memory.put m a v

/-- The addresses rise from `lo` on and lie below 2^32. -/
def Memory.wfFrom (lo : Nat) (m : Memory) : Bool :=
  match m with
  | [] => true
  | c :: m => decide (lo ≤ c.1) && decide (c.1 < 4294967296) && Memory.wfFrom (c.1 + 1) m

/-- The canonical form of memory. -/
def Memory.wf (m : Memory) : Bool := Memory.wfFrom 0 m

/-- The byte at an address; one that nothing has written holds an unspecified value (R110). -/
def memByte (m : Memory) (a : Nat) : Byte := (m.find (a % 4294967296)).getD (Config.initialByte (a % 4294967296))

/-- `MemRead` without its checks: `n` bytes, little-endian (R126). -/
def readLE (m : Memory) (a n : Nat) : Nat :=
  match n with
  | 0 => 0
  | n + 1 => (memByte m a).toNat + 256 * readLE m (a + 1) n

/-- `MemWrite` without its checks: the low `8n` bits of `v`, little-endian (R126). -/
def writeLE (m : Memory) (a n v : Nat) : Memory :=
  match n with
  | 0 => m
  | n + 1 => writeLE (m.put (a % 4294967296) (BitVec.ofNat 8 v)) (a + 1) n (v / 256)

/-- The addresses of `n` bytes, wrapped at 2^32 (R343). -/
def byteAddrs (a n : Nat) : List Nat := (List.range n).map fun i => (a + i) % 4294967296

/-- Add an address to a rising list without repeats. -/
def insertAddr (a : Nat) (l : List Nat) : List Nat :=
  match l with
  | [] => [a]
  | b :: l => if a < b then a :: b :: l else if a = b then b :: l else b :: insertAddr a l

/-- Remember that the program stored to `n` bytes, whether or not memory changed (R152). -/
def markStored (a : Word) (n : Nat) (s : State) : State :=
  { s with cur := { s.cur with stored := (byteAddrs a.toNat n).foldl (fun l x => insertAddr x l) s.cur.stored } }

/-- Put `n` bytes in memory and remember that the program stored them (R152). -/
def storeBytes (a : Word) (n : Nat) (v : DWord) (s : State) : State :=
  { s with cur := { s.cur with
      mem := writeLE s.cur.mem a.toNat n v.toNat
      stored := (byteAddrs a.toNat n).foldl (fun l x => insertAddr x l) s.cur.stored } }

/-- `MemRead(addr, n)` (R130, R160, R166): the alignment check, the protection check, then the access to the memory
of before the packet (R155). A faulting access is not performed and gives a free value, as does a peripheral. -/
def memRead (a : Word) (n : Nat) (s : State) : Res (DWord × State) :=
  if ¬ isAligned a n then .next (drawData s, spend 1 (raise .addressingFault s))
  else if ¬ apAllows s.cfg false s.pre.ists.currlink s.pre.dsts.clink a then
    .next (drawData s, spend 1 (raise .protectionViolation (emit (.accessError a.toNat) s)))
  else match regionOf s.cfg a with
    | none => match s.cur.fault with
      | some _ => .next (drawData s, spend 1 s)
      | none => .fault (.unmapped a.toNat)
    | some .peripheral => .next (drawData s, spend 1 (emit (.deviceRead a.toNat n) s))
    | some _ => .next (BitVec.ofNat 64 (readLE s.pre.mem a.toNat n), s)

/-- The low `n` bytes of a value. -/
def lowBytes (n : Nat) (v : DWord) : DWord := BitVec.ofNat 64 (v.toNat % 256 ^ n)

/-- A store to ROM or FLASH: whether it changes the memory is not given, a free choice (log entry 37); the bytes count as stored (R152). -/
def storeFree (a : Word) (n : Nat) (v : DWord) (s : State) : State :=
  spend 1 (if drawBit 0 s then storeBytes a n v s else markStored a n s)

/-- `MemWrite(addr, n, v)` (R130, R160, R166). A store to a peripheral is reported; EMIF0 and EMIF1 behave as RAM (log entry 38). Every
store performed counts for R152. -/
def memWrite (a : Word) (n : Nat) (v : DWord) (s : State) : Res State :=
  if ¬ isAligned a n then .next (raise .addressingFault s)
  else if ¬ apAllows s.cfg true s.pre.ists.currlink s.pre.dsts.clink a then
    .next (raise .protectionViolation (emit (.accessError a.toNat) s))
  else match regionOf s.cfg a with
    | none => match s.cur.fault with
      | some _ => .next s
      | none => .fault (.unmapped a.toNat)
    | some .peripheral => .next (markStored a n (emit (.deviceWrite a.toNat n (lowBytes n v)) s))
    | some .rom => .next (storeFree a n v s)
    | some .flash => .next (storeFree a n v s)
    | some .ram => .next (storeBytes a n v s)
    | some .emif0 => .next (storeBytes a n v s)
    | some .emif1 => .next (storeBytes a n v s)

/-- The bytes of a stack frame that the hardware leaves unspecified (R232, R533): `n` free bytes from `a`, each checked like a store
(R160, R166). A peripheral changes no memory. -/
def scribble (a : Word) (n : Nat) (s : State) : Res State :=
  match n with
  | 0 => .next s
  | n + 1 =>
    if ¬ apAllows s.cfg true s.pre.ists.currlink s.pre.dsts.clink a then
      .next (raise .protectionViolation (emit (.accessError a.toNat) s))
    else match regionOf s.cfg a with
      | none => match s.cur.fault with
        | some _ => .next s
        | none => .fault (.unmapped a.toNat)
      | some .peripheral => scribble (a + 1) n (spend 1 (markStored a 1 s))
      | some _ => scribble (a + 1) n (spend 1 (storeBytes a 1 (drawData s) s))

/-- Write a frame of `n` bytes at `sp`: the RPC slot `v` at its base, then the unspecified bytes above it (R232, R533). The frame of a
refused RPC write is not touched further (log entry 39). -/
def pushFrame (sp : Word) (n : Nat) (v : Word) (s : State) : Res State :=
  andThen (memWrite sp 4 (v.setWidth 64) s) fun s1 =>
    if isAligned sp 4 && apAllows s.cfg true s.pre.ists.currlink s.pre.dsts.clink sp then scribble (sp + 4) (n - 4) s1 else .next s1

/-! ### Control transfer -/

/-- The SP check of R505. -/
def checkSp (s : State) : State := raiseIf (!isAligned (readSp s) 8) .stackMisaligned s

/-- `check_transfer` of R237, from the LINK of the packet. -/
def checkTransfer (target : Word) (s : State) : State :=
  match linkOf s.cfg target with
  | none => s
  | some l => raiseIf (stackOf s.cfg l != stackOf s.cfg s.pre.ists.currlink) .crossStackTransfer s

/-- `pc <- target`, at once or after `delay` packets (R262), with what the delayed form leaves to the end of its slots. -/
def jumpTo (delay : Fin 8) (late : Late) (target : Word) (s : State) : Res State :=
  if target.toNat % 2 = 1 then stopUnlessFaulted (.oddTarget target.toNat) s
  else if delay = 0 then
    .next { s with cur := { s.cur with pc := target }, pkt := { s.pkt with jumped := true } }
  else .next { s with cur := { s.cur with pending := some ⟨target, delay.val, late⟩ } }

/-- CALL (R232). The delayed form leaves RPC to the end of its delay slots (R233). -/
def callTo (target : Word) (delay : Fin 8) (s : State) : Res State :=
  andThen (pushFrame (readSp s) 8 s.pre.rpc (checkTransfer target (checkSp s))) fun s1 =>
    let s2 := writeSp (readSp s + 8) s1
    jumpTo delay .rpc target (if delay = 0 then writeRpc s.pkt.seqPc s2 else s2)

/-- RET (R234). -/
def returnTo (delay : Fin 8) (s : State) : Res State :=
  andThen (memRead (readSp s - 8) 4 (checkTransfer s.pre.rpc (checkSp s))) fun r =>
    jumpTo delay .nothing s.pre.rpc (writeSp (readSp s - 8) (writeRpc (lowWord r.1) r.2))

/-! ### Protected transfer -/

/-- Every working register but A15 becomes a free value (R254, decision D42). -/
def scrambleWork (s : State) : State :=
  spend 64 { s with cur := { s.cur with
    a := Vector.ofFn fun i => if i = 15 then s.cur.a[i] else drawWord i.val s
    d := Vector.ofFn fun i => drawWord (16 + i.val) s
    m := Vector.ofFn fun i => drawWord (32 + i.val) s } }

/-- The STACK of a target; one no EXE range covers is taken to be the current one (log entry 41), and its first packet cannot be formed. -/
def targetStack (target : Word) (s : State) : StackId := stackAt s.cfg target (stackOf s.cfg s.pre.ists.currlink)

/-- The stack swap of R246: the pointer of the STACK being left, the one `pushed` or else SP, is saved, and the one of `dst` loaded. Within
one STACK only a push moves SP. -/
def swapStacks (src dst : StackId) (pushed : Option Word) (s : State) : State :=
  if dst = src then match pushed with
    | some sp => writeSp sp s
    | none => s
  else writeSp s.pre.secsp[dst] { s with cur := { s.cur with secsp := s.cur.secsp.set src (pushed.getD (readSp s)) } }

/-- What CALL.PROT and LB.PROT do alike: registers, CLINK, the ATOMIC counter, CURRSP, the entry expectation (R246, R249). -/
def enterProtected (target : Word) (pushed : Option Word) (s : State) : Res State :=
  let src := s.pre.ists.currlink
  let dst := targetStack target s
  let s1 := swapStacks (stackOf s.cfg src) dst pushed (scrambleWork s)
  jumpTo 0 .nothing target { s1 with cur := { s1.cur with
    dsts := { s1.cur.dsts with clink := src }
    ists := { s1.cur.ists with atomic := 0, currsp := dst }
    expect := .entryPair } }

/-- Push a frame of the protected call stack, unless it is full (R253); warn at WARNPSP (R517). -/
def pushProt (f : ProtFrame) (s : State) : State :=
  if s.pre.protStack.length < s.cfg.maxPsp then
    let s1 := { s with cur := { s.cur with protStack := f :: s.pre.protStack } }
    if s.pre.warnPsp ≤ s.pre.protStack.length + 1 then emit .pspWarning s1 else s1
  else s

/-- CALL.PROT (R246). -/
def callProt (target : Word) (s : State) : Res State :=
  let src := s.pre.ists.currlink
  let s0 := raiseIf (s.cfg.maxPsp ≤ s.pre.protStack.length) .protectedCallStackFull (checkSp s)
  andThen (pushFrame (readSp s) 8 s.pre.rpc s0) fun s1 =>
    enterProtected target (some (readSp s + 8)) (pushProt ⟨src, stackOf s.cfg src, s.pkt.seqPc⟩ (writeRpc s.pkt.seqPc s1))

/-- LB.PROT (R249): no push, no SP check; within one STACK A15 is not written. -/
def branchProt (target : Word) (s : State) : Res State := enterProtected target none s

/-- RET.PROT (R250). -/
def returnProt (s : State) : Res State :=
  match s.pre.protStack with
  | [] => stopUnlessFaulted .retProtEmpty (checkSp s)
  | f :: rest =>
    let target := s.pre.rpc
    let src := s.pre.ists.currlink
    let cs := stackOf s.cfg src
    let sp := if f.stack = cs then readSp s else s.pre.secsp[f.stack]
    if (target != f.ret || (linkOf s.cfg target).map (stackOf s.cfg) != some f.stack) then
      stopUnlessFaulted .retProtMismatch (checkSp s)
    else andThen (memRead (sp - 8) 4 (checkSp s)) fun r =>
      let s1 := writeRpc (lowWord r.1) (scrambleWork r.2)
      let s2 := if f.stack = cs then s1 else { s1 with cur := { s1.cur with secsp := s1.cur.secsp.set cs (readSp s) } }
      let s3 := writeSp (sp - 8) s2
      jumpTo 0 .nothing target (spend 1 { s3 with cur := { s3.cur with
        protStack := rest
        dsts := { s3.cur.dsts with rlink := src, clink := Fin.ofNat 16 (drawWord 0 s3).toNat }
        ists := { s3.cur.ists with atomic := 0, currsp := f.stack }
        expect := .exitMark } })

/-! ### Interrupt entry: the one way the CPU takes an exception -/

/-- The latch of the line just taken is cleared (R541); the flag of ISTS stays. -/
def clearLatch (nmi : Bool) (c : Arch) : Arch :=
  if nmi then { c with nmiPending := false } else { c with rtintPending := none }

/-- RTINT and NMI entry (R541, R543, R550, R551): the frame is pushed, the interrupted stack pointer goes to its SECSP, the working
registers become 0, RPC, ESTS and the software fields of DSTS free, and the first packet must be the ISR pair. -/
def enterRealtime (nmi : Bool) (vector : Word) (prio : BitVec 8) (s : State) : Res State :=
  if vector.toNat % 2 = 1 then .refused (.oddTarget vector.toNat)
  else
    let c := s.cur
    let d0 := writeDstsWord c.dsts (drawWord 0 s)
    let c1 := clearLatch nmi { c with
      rtStack := ⟨c.a, c.d, c.m, c.rpc, c.dsts, c.ests, c.pc⟩ :: c.rtStack
      secsp := c.secsp.set c.ists.currsp c.a[15]
      a := Vector.replicate 16 0
      d := Vector.replicate 16 0
      m := Vector.replicate 32 0
      rpc := drawWord 1 s
      ests := writeEstsWord (drawWord 2 s)
      dsts := { d0 with ints := if nmi then .nmi else .rtint, prio := if nmi then (drawWord 3 s).setWidth 8 else prio }
      ists := { c.ists with
        atomic := if nmi then 0 else c.ists.atomic
        currsp := stackAt s.cfg vector c.ists.currsp }
      idle := false
      expect := .isrPair
      pc := vector }
    .next (spend 4 { s with cur := c1 })

/-- The early warning of the real-time interrupt stack (R517, R546), after an RTINT or an NMI entry alike. It is given at an entry, not when
WARNRTISP is lowered to the present level (log entry 50). -/
def rtispWarn (s : State) : State := if s.cur.warnRtisp ≤ s.cur.rtStack.length then emit .rtispWarning s else s

/-- The limit of the real-time interrupt stack after an RTINT entry (R508, R546, decision D19). An entry that goes past MAXRTISP, into the
level reserved for NMI, faults whatever the parameter (log entry 50). -/
def rtintLimits (s : State) : State :=
  if s.cur.rtStack.length < s.cfg.maxRtisp then s
  else if s.cur.rtStack.length = s.cfg.maxRtisp ∧ s.cfg.rtispMaxOutcome = .raiseNmi then
    { s with cur := { s.cur with nmiPending := true, ists := { s.cur.ists with nmif := true } } }
  else raise .rtintStackFull s

/-- INT entry (R532, R533). -/
def enterInt (q : IntRequest) (s : State) : Res State :=
  if q.vector.toNat % 2 = 1 then .refused (.oddTarget q.vector.toNat)
  else
    let wrong := match linkOf s.cfg q.vector with
      | some l => stackOf s.cfg l != s.cur.ists.currsp
      | none => false
    let s0 := checkSp (raiseIf wrong .intWrongStack s)
    andThen (pushFrame (readSp s) s.cfg.intFrameBytes s.cur.rpc s0) fun s1 =>
      let s2 := writeSp (readSp s + BitVec.ofNat 32 s.cfg.intFrameBytes) s1
      .next { s2 with cur := { s2.cur with
        rpc := s.cur.pc
        intSaves := ⟨s.cur.dsts.ints, s.cur.dsts.prio, s.cur.dsts.inte⟩ :: s.cur.intSaves
        dsts := { s2.cur.dsts with ints := .int, prio := q.prio, inte := false }
        intPending := none
        idle := false
        expect := .firstOfInt
        pc := q.vector } }

/-! ### Return from interrupt -/

/-- INTE after RETI.INT: open, unless the parameter fixes it (R287, decision D17). -/
def inteAfterReti (v : IntSave) (s : State) : Bool :=
  match s.cfg.retiIntRestoresInte with
  | none => drawBit 0 s
  | some true => v.inte
  | some false => s.cur.dsts.inte

/-- RETI.INT (R287): INTF clears when no INT handler remains active, whatever is latched (R535). A return address on another STACK faults,
as that of a RET does: R55 lets no such transfer survive, and R287 names no check (log entry 75). The flags, CLINK and RLINK, which R287
leaves open too, stay (log entry 48). The delayed form defers the jump only (R260, R262, log entry 71). -/
def returnInt (delay : Fin 8) (s : State) : Res State :=
  match s.pre.dsts.ints, s.pre.intSaves with
  | .int, v :: rest =>
    let sp := readSp s - BitVec.ofNat 32 s.cfg.intFrameBytes
    andThen (memRead sp 4 (checkTransfer s.pre.rpc (checkSp s))) fun r =>
      let s1 := writeSp sp (writeRpc (lowWord r.1) r.2)
      jumpTo delay .nothing s.pre.rpc (spend 1 { s1 with cur := { s1.cur with
        dsts := { s1.cur.dsts with ints := v.ints, prio := v.prio, inte := inteAfterReti v s1 }
        intSaves := rest
        ists := { s1.cur.ists with intf := s1.cur.ists.intf && !rest.isEmpty } } })
  | _, _ => stopUnlessFaulted .retiIntOutside s

/-- Whether an RTINT handler is active once `f` is restored and `rest` remains (R545). -/
def rtintActive (f : RtFrame) (rest : List RtFrame) : Bool :=
  f.dsts.ints == .rtint || rest.any fun g => g.dsts.ints == .rtint

/-- RETI.RTINT (R288, R545, R552). A return address no EXE range covers keeps the handler's STACK (log entry 41). The delayed form defers
the jump, and CURRSP with it: its slots run in the handler's STACK, and R55 has CURRSP name the STACK of the packet that executes (R260,
R262, log entry 71). -/
def returnRealtime (delay : Fin 8) (s : State) : Res State :=
  match s.pre.rtStack with
  | [] => stopUnlessFaulted .retiRtintEmpty s
  | f :: rest =>
    let c := s.cur
    let ended := s.pre.dsts.ints
    jumpTo delay (.currsp (stackAt s.cfg f.ret c.ists.currsp)) f.ret { s with cur := { c with
      rtStack := rest
      secsp := c.secsp.set s.pre.ists.currsp (readSp s)
      a := f.a
      d := f.d
      m := f.m
      rpc := f.rpc
      dsts := f.dsts
      ests := f.ests
      ists := { c.ists with
        currsp := if delay = 0 then stackAt s.cfg f.ret c.ists.currsp else c.ists.currsp
        rtintf := c.ists.rtintf && (ended != .rtint || rtintActive f rest || c.rtintPending.isSome)
        nmif := c.ists.nmif && (ended != .nmi || c.nmiPending) } } }

end Sys2Proof.Machine
end

