-- ==== Sys2Proof/Machine/Fetch.lean ====
section
/-! DEFINITION. Placing an instruction where the next step fetches it. -/

namespace Sys2Proof.Machine

/-- Put bytes at an address and the ones after it. -/
def putBytes (m : Memory) (a : Nat) (bs : List Byte) : Memory :=
  match bs with
  | [] => m
  | b :: bs => putBytes (m.put (a % 4294967296) b) (a + 1) bs

/-- An architectural state with code placed at its program counter, from outside the program: the bytes count as not stored (R152). -/
def placeCode (bs : List Byte) (c : Arch) : Arch :=
  { c with
    mem := putBytes c.mem c.pc.toNat bs
    stored := c.stored.filter fun a => !((byteAddrs c.pc.toNat bs.length).contains a) }

/-- The I_Link bit of an instruction (R174). -/
def ilinkOf (w : Nat) : Bool := fld w 15 1 == 1

end Sys2Proof.Machine
end

