-- ==== Sys2Proof/Machine/Control.lean ====
section
/-! DEFINITION. Calls, returns and branches, and the control instructions the spec names without semantics
(40_call_return_protected.md). -/

namespace Sys2Proof.Machine

/-- `CALL{D} @label` (R230, R232). -/
def execCallLabel (label : Word) (delay : Fin 8) (s : State) : Res State := callTo label delay s

/-- `CALL{D} Ax` (R230, R232). -/
def execCallReg (x : Fin 16) (delay : Fin 8) (s : State) : Res State := callTo (readA x s) delay s

/-- `RET{D}` (R234). -/
def execRet (delay : Fin 8) (s : State) : Res State := returnTo delay s

/-- A taken branch (R238). -/
def branchTo (target : Word) (delay : Fin 8) (s : State) : Res State := jumpTo delay .nothing target (checkTransfer target s)

/-- The address a generic branch goes to (R238). -/
def brTarget (t : BrTarget) (s : State) : Word :=
  match t with
  | .label w => w
  | .reg x => readA x s

/-- The generic branch (R238): a branch not taken has no effect. -/
def execBranch (target : BrTarget) (cond : Cond) (delay : Fin 8) (s : State) : Res State :=
  if condHolds cond s.pre.dsts s.pre.ests then branchTo (brTarget target s) delay s else .next s

/-- The D flags after BCMPZ: whether it writes them is not stated (R239), so either the old ones or those of the comparison. -/
def bcmpzFlags (v : Word) (s : State) : State :=
  spend 1 { s with cur := { s.cur with ests := { s.cur.ests with
    flags := if drawBit 0 s then compareFlags true v 0 else s.cur.ests.flags } } }

/-- `BCMPZ @label,cond,Dx` (R239). -/
def execBcmpz (label : Word) (cond : DCond) (x : Fin 16) (delay : Fin 8) (s : State) : Res State :=
  if bcmpzHolds cond (readD x s) s.pre.ests then branchTo label delay (bcmpzFlags (readD x s) s)
  else .next (bcmpzFlags (readD x s) s)

/-- `RET{D} <addr1>`: no semantics in the spec (R235, decision D14). -/
def execRetAddr1 (_m : Addr1) (_delay : Fin 8) (_s : State) : Res State := .refused (.noSemantics "RET_D__ADDR1")

/-- `XC`: no semantics in the spec (R270, decision D14). -/
def execXc (_s : State) : Res State := .refused (.noSemantics "XC")

/-- `XCP`: no semantics in the spec (R270, decision D14). -/
def execXcp (_s : State) : Res State := .refused (.noSemantics "XCP")

end Sys2Proof.Machine
end

