-- ==== Sys2Proof/Machine/Operands.lean ====
section
/-! DEFINITION. The addressing modes: each gives a byte address and at most one register write (R321). -/

namespace Sys2Proof.Machine

/-- An address, and the register the mode writes with its new value (R321). -/
structure EffAddr where
  addr : Word
  side : Option (Fin 16 × Word)
  deriving DecidableEq, Repr

/-- A mode without a side effect. -/
def plainAddr (a : Word) : EffAddr := ⟨a, none⟩

/-- A0 to A3 as an index (R189). -/
def indexReg (k : Fin 4) : Fin 16 := Fin.ofNat 16 k.val

/-- A4 to A7 as an ADDR2 base (R200). -/
def baseReg (z : Fin 4) : Fin 16 := Fin.ofNat 16 (4 + z.val)

/-- The ADDR1 modes (R324 to R342). -/
def evalAddr1 (m : Addr1) (s : State) : EffAddr :=
  match m with
  | .off x imm => plainAddr (readA x s + zext32 imm)
  | .offScaled x imm => plainAddr (readA x s + (zext32 imm <<< 2))
  | .offPost x imm k => ⟨readA x s + zext32 imm, some (x, readA x s + readA (indexReg k) s)⟩
  | .spNeg f => plainAddr (readSp s + ones32 f)
  | .postInc x imm => ⟨readA x s, some (x, readA x s + zext32 imm)⟩
  | .postDec x f => ⟨readA x s, some (x, readA x s + ones32 f)⟩
  | .preDec x f => ⟨readA x s + ones32 f, some (x, readA x s + ones32 f)⟩
  | .index x k sh => plainAddr (readA x s + (readA (indexReg k) s <<< sh.toNat))
  | .indexSet j x k sh =>
    ⟨readA x s + (readA (indexReg k) s <<< sh.toNat), some (j, readA x s + (readA (indexReg k) s <<< sh.toNat))⟩

/-- The scale of an access of `n` bytes, log2 n (R201). -/
def accessScale (n : Nat) : Nat := if n = 1 then 0 else if n = 2 then 1 else if n = 4 then 2 else 3

/-- The ADDR2 modes for an access of `n` bytes (R327, R330, R331, R335 to R337, R339). -/
def evalAddr2 (m : Addr2) (n : Nat) (s : State) : EffAddr :=
  match m with
  | .postA0 z => ⟨readA (baseReg z) s, some (baseReg z, readA (baseReg z) s + readA 0 s)⟩
  | .postA1 z => ⟨readA (baseReg z) s, some (baseReg z, readA (baseReg z) s + readA 1 s)⟩
  | .idxA0 z => plainAddr (readA (baseReg z) s + (readA 0 s <<< accessScale n))
  | .idxA1 z => plainAddr (readA (baseReg z) s + (readA 1 s <<< accessScale n))
  | .plain z => plainAddr (readA (baseReg z) s)
  | .postInc z => ⟨readA (baseReg z) s, some (baseReg z, readA (baseReg z) s + BitVec.ofNat 32 n)⟩
  | .postDec z => ⟨readA (baseReg z) s, some (baseReg z, readA (baseReg z) s - BitVec.ofNat 32 n)⟩
  | .preDec z => ⟨readA (baseReg z) s - BitVec.ofNat 32 n, some (baseReg z, readA (baseReg z) s - BitVec.ofNat 32 n)⟩

/-- The ADDR3 mode (R326). -/
def evalAddr3 (h : Addr3) (s : State) : EffAddr := plainAddr (readA h.x s + (zext32 h.imm <<< 2))

/-- DIRM, direct form (R322). -/
def evalDirect (a : Word) : EffAddr := plainAddr a

/-- DIRM, indexed form (R323). -/
def evalIndexed (x : Fin 16) (off : BitVec 28) (s : State) : EffAddr := plainAddr (readA x s + zext32 off)

/-- The side effect of a mode lands with the packet's other writes (R321). -/
def applySide (e : EffAddr) (s : State) : State :=
  match e.side with
  | none => s
  | some w => writeA w.1 w.2 s

/-! ### Access through an operand (R370, R371, R400, R410) -/

/-- A load of `n` bytes into a register; `f` makes the new value of the old one and the bytes read (R370). -/
def loadReg (n : Nat) (f : Word → DWord → Word) (r : Reg) (e : EffAddr) (s : State) : Res State :=
  andThen (memRead e.addr n s) fun v => .next (applySide e (writeReg r (f (readReg r s) v.1) v.2))

/-- A load of 8 bytes into a pair (R376). -/
def loadPair (x : XReg) (e : EffAddr) (s : State) : Res State :=
  andThen (memRead e.addr 8 s) fun v => .next (applySide e (writeX x v.1 v.2))

/-- A store of the low `8n` bits of `v` (R371). -/
def storeVal (n : Nat) (v : DWord) (e : EffAddr) (s : State) : Res State :=
  andThen (memWrite e.addr n v s) fun s1 => .next (applySide e s1)

/-- A memory-to-memory copy of `n` bytes (R400, R401). Where the read faults the write is still attempted, with the free value the read gave
(R500, log entry 31). -/
def moveMem (n : Nat) (dst src : EffAddr) (s : State) : Res State :=
  andThen (memRead src.addr n s) fun v =>
    andThen (memWrite dst.addr n v.1 v.2) fun s1 => .next (applySide dst (applySide src s1))

/-- A read-modify-write of `n` bytes (R410, R145). Where the read faults the write is still attempted, as that of a copy (log entry 31). -/
def modifyMem (n : Nat) (f : DWord → DWord) (e : EffAddr) (s : State) : Res State :=
  andThen (memRead e.addr n s) fun v =>
    andThen (memWrite e.addr n (f v.1) v.2) fun s1 => .next (applySide e s1)

/-! ### What a load does with the bytes it reads -/

/-- The whole word (R375). -/
def loadWhole (_old : Word) (v : DWord) : Word := lowWord v

/-- Sign-extended halfword (R383). -/
def loadS16 (_old : Word) (v : DWord) : Word := sext32 (v.setWidth 16)

/-- Sign-extended byte (R384). -/
def loadS8 (_old : Word) (v : DWord) : Word := sext32 (v.setWidth 8)

/-- Zero-extended halfword (R385). -/
def loadU16 (_old : Word) (v : DWord) : Word := zext32 (v.setWidth 16 : Half)

/-- Zero-extended byte (R386). -/
def loadU8 (_old : Word) (v : DWord) : Word := zext32 (v.setWidth 8 : Byte)

/-- Byte lane `k` (R377 to R380). -/
def loadByteLane (k : Nat) (old : Word) (v : DWord) : Word := insertLane (8 * k) 8 old v

/-- Halfword lane `k` (R381, R382). -/
def loadHalfLane (k : Nat) (old : Word) (v : DWord) : Word := insertLane (16 * k) 16 old v

/-- The value a lane store writes: the register from bit `lo` up (R394 to R399). -/
def laneOf (lo : Nat) (v : Word) : DWord := (v >>> lo).setWidth 64

end Sys2Proof.Machine
end

