-- ==== Sys2Proof/Machine/LoadStore.lean ====
section
/-! DEFINITION. Loads and stores (43_load_store_move.md, R370 to R399). -/

namespace Sys2Proof.Machine

/-- `LD.32_ADDR1` (R375). -/
def execLd32Addr1 (r : Reg) (m : Addr1) (s : State) : Res State := loadReg 4 loadWhole r (evalAddr1 m s) s

/-- `LD.64_ADDR1` (R376). -/
def execLd64Addr1 (x : XReg) (m : Addr1) (s : State) : Res State := loadPair x (evalAddr1 m s) s

/-- `LD.B0_ADDR1` (R377). -/
def execLdB0Addr1 (r : Reg) (m : Addr1) (s : State) : Res State := loadReg 1 (loadByteLane 0) r (evalAddr1 m s) s

/-- `LD.B1_ADDR1` (R378). -/
def execLdB1Addr1 (r : Reg) (m : Addr1) (s : State) : Res State := loadReg 1 (loadByteLane 1) r (evalAddr1 m s) s

/-- `LD.B2_ADDR1` (R379). -/
def execLdB2Addr1 (r : Reg) (m : Addr1) (s : State) : Res State := loadReg 1 (loadByteLane 2) r (evalAddr1 m s) s

/-- `LD.B3_ADDR1` (R380). -/
def execLdB3Addr1 (r : Reg) (m : Addr1) (s : State) : Res State := loadReg 1 (loadByteLane 3) r (evalAddr1 m s) s

/-- `LD.S16_ADDR1` (R383). -/
def execLdS16Addr1 (r : Reg) (m : Addr1) (s : State) : Res State := loadReg 2 loadS16 r (evalAddr1 m s) s

/-- `LD.S8_ADDR1` (R384). -/
def execLdS8Addr1 (r : Reg) (m : Addr1) (s : State) : Res State := loadReg 1 loadS8 r (evalAddr1 m s) s

/-- `LD.U16_ADDR1` (R385). -/
def execLdU16Addr1 (r : Reg) (m : Addr1) (s : State) : Res State := loadReg 2 loadU16 r (evalAddr1 m s) s

/-- `LD.U8_ADDR1` (R386). -/
def execLdU8Addr1 (r : Reg) (m : Addr1) (s : State) : Res State := loadReg 1 loadU8 r (evalAddr1 m s) s

/-- `LD.W0_ADDR1` (R381). -/
def execLdW0Addr1 (r : Reg) (m : Addr1) (s : State) : Res State := loadReg 2 (loadHalfLane 0) r (evalAddr1 m s) s

/-- `LD.W1_ADDR1` (R382). -/
def execLdW1Addr1 (r : Reg) (m : Addr1) (s : State) : Res State := loadReg 2 (loadHalfLane 1) r (evalAddr1 m s) s

/-- `ST.16_ADDR1` (R392). -/
def execSt16Addr1 (m : Addr1) (imm : Half) (s : State) : Res State := storeVal 2 (imm.setWidth 64) (evalAddr1 m s) s

/-- `ST.32_ADDR1` (R390). -/
def execSt32Addr1 (m : Addr1) (r : Reg) (s : State) : Res State := storeVal 4 (laneOf 0 (readReg r s)) (evalAddr1 m s) s

/-- `ST.64_ADDR1` (R391). -/
def execSt64Addr1 (m : Addr1) (x : XReg) (s : State) : Res State := storeVal 8 (readX x s) (evalAddr1 m s) s

/-- `ST.8_ADDR1` (R393). -/
def execSt8Addr1 (m : Addr1) (imm : Byte) (s : State) : Res State := storeVal 1 (imm.setWidth 64) (evalAddr1 m s) s

/-- `ST.B0_ADDR1` (R394). -/
def execStB0Addr1 (m : Addr1) (r : Reg) (s : State) : Res State := storeVal 1 (laneOf 0 (readReg r s)) (evalAddr1 m s) s

/-- `ST.B1_ADDR1` (R395). -/
def execStB1Addr1 (m : Addr1) (r : Reg) (s : State) : Res State := storeVal 1 (laneOf 8 (readReg r s)) (evalAddr1 m s) s

/-- `ST.B2_ADDR1` (R396). -/
def execStB2Addr1 (m : Addr1) (r : Reg) (s : State) : Res State := storeVal 1 (laneOf 16 (readReg r s)) (evalAddr1 m s) s

/-- `ST.B3_ADDR1` (R397). -/
def execStB3Addr1 (m : Addr1) (r : Reg) (s : State) : Res State := storeVal 1 (laneOf 24 (readReg r s)) (evalAddr1 m s) s

/-- `ST.W0_ADDR1` (R398). -/
def execStW0Addr1 (m : Addr1) (r : Reg) (s : State) : Res State := storeVal 2 (laneOf 0 (readReg r s)) (evalAddr1 m s) s

/-- `ST.W1_ADDR1` (R399). -/
def execStW1Addr1 (m : Addr1) (r : Reg) (s : State) : Res State := storeVal 2 (laneOf 16 (readReg r s)) (evalAddr1 m s) s

/-- `LD.32_ADDR2` (R375). -/
def execLd32Addr2 (r : Reg) (m : Addr2) (s : State) : Res State := loadReg 4 loadWhole r (evalAddr2 m 4 s) s

/-- `LD.64_ADDR2` (R376). -/
def execLd64Addr2 (x : XReg) (m : Addr2) (s : State) : Res State := loadPair x (evalAddr2 m 8 s) s

/-- `ST.16_ADDR2` (R392). -/
def execSt16Addr2 (m : Addr2) (imm : Half) (s : State) : Res State := storeVal 2 (imm.setWidth 64) (evalAddr2 m 2 s) s

/-- `ST.32_ADDR2` (R390). -/
def execSt32Addr2 (m : Addr2) (r : Reg) (s : State) : Res State := storeVal 4 (laneOf 0 (readReg r s)) (evalAddr2 m 4 s) s

/-- `ST.64_ADDR2` (R391). -/
def execSt64Addr2 (m : Addr2) (x : XReg) (s : State) : Res State := storeVal 8 (readX x s) (evalAddr2 m 8 s) s

/-- `ST.8_ADDR2` (R393). -/
def execSt8Addr2 (m : Addr2) (imm : Byte) (s : State) : Res State := storeVal 1 (imm.setWidth 64) (evalAddr2 m 1 s) s

/-- `LD.32_DIRM___u32imm` (R375). -/
def execLd32Dirm (r : Reg) (addr : Word) (s : State) : Res State := loadReg 4 loadWhole r (evalDirect addr) s

/-- `LD.32_DIRM____Ax+_u28imm` (R375). -/
def execLd32DirmIx (r : Reg) (base : Fin 16) (off : BitVec 28) (s : State) : Res State := loadReg 4 loadWhole r (evalIndexed base off s) s

/-- `LD.64_DIRM___u32imm` (R376). -/
def execLd64Dirm (x : XReg) (addr : Word) (s : State) : Res State := loadPair x (evalDirect addr) s

/-- `LD.64_DIRM____Ax+_u28imm` (R376). -/
def execLd64DirmIx (x : XReg) (base : Fin 16) (off : BitVec 28) (s : State) : Res State := loadPair x (evalIndexed base off s) s

/-- `LD.B0_DIRM___u32imm` (R377). -/
def execLdB0Dirm (r : Reg) (addr : Word) (s : State) : Res State := loadReg 1 (loadByteLane 0) r (evalDirect addr) s

/-- `LD.B0_DIRM____Ax+_u28imm` (R377). -/
def execLdB0DirmIx (r : Reg) (base : Fin 16) (off : BitVec 28) (s : State) : Res State := loadReg 1 (loadByteLane 0) r (evalIndexed base off s) s

/-- `LD.B1_DIRM___u32imm` (R378). -/
def execLdB1Dirm (r : Reg) (addr : Word) (s : State) : Res State := loadReg 1 (loadByteLane 1) r (evalDirect addr) s

/-- `LD.B1_DIRM____Ax+_u28imm` (R378). -/
def execLdB1DirmIx (r : Reg) (base : Fin 16) (off : BitVec 28) (s : State) : Res State := loadReg 1 (loadByteLane 1) r (evalIndexed base off s) s

/-- `LD.B2_DIRM___u32imm` (R379). -/
def execLdB2Dirm (r : Reg) (addr : Word) (s : State) : Res State := loadReg 1 (loadByteLane 2) r (evalDirect addr) s

/-- `LD.B2_DIRM____Ax+_u28imm` (R379). -/
def execLdB2DirmIx (r : Reg) (base : Fin 16) (off : BitVec 28) (s : State) : Res State := loadReg 1 (loadByteLane 2) r (evalIndexed base off s) s

/-- `LD.B3_DIRM___u32imm` (R380). -/
def execLdB3Dirm (r : Reg) (addr : Word) (s : State) : Res State := loadReg 1 (loadByteLane 3) r (evalDirect addr) s

/-- `LD.B3_DIRM____Ax+_u28imm` (R380). -/
def execLdB3DirmIx (r : Reg) (base : Fin 16) (off : BitVec 28) (s : State) : Res State := loadReg 1 (loadByteLane 3) r (evalIndexed base off s) s

/-- `LD.S16_DIRM___u32imm` (R383). -/
def execLdS16Dirm (r : Reg) (addr : Word) (s : State) : Res State := loadReg 2 loadS16 r (evalDirect addr) s

/-- `LD.S16_DIRM____Ax+_u28imm` (R383). -/
def execLdS16DirmIx (r : Reg) (base : Fin 16) (off : BitVec 28) (s : State) : Res State := loadReg 2 loadS16 r (evalIndexed base off s) s

/-- `LD.S8_DIRM___u32imm` (R384). -/
def execLdS8Dirm (r : Reg) (addr : Word) (s : State) : Res State := loadReg 1 loadS8 r (evalDirect addr) s

/-- `LD.S8_DIRM____Ax+_u28imm` (R384). -/
def execLdS8DirmIx (r : Reg) (base : Fin 16) (off : BitVec 28) (s : State) : Res State := loadReg 1 loadS8 r (evalIndexed base off s) s

/-- `LD.U16_DIRM___u32imm` (R385). -/
def execLdU16Dirm (r : Reg) (addr : Word) (s : State) : Res State := loadReg 2 loadU16 r (evalDirect addr) s

/-- `LD.U16_DIRM____Ax+_u28imm` (R385). -/
def execLdU16DirmIx (r : Reg) (base : Fin 16) (off : BitVec 28) (s : State) : Res State := loadReg 2 loadU16 r (evalIndexed base off s) s

/-- `LD.U8_DIRM___u32imm` (R386). -/
def execLdU8Dirm (r : Reg) (addr : Word) (s : State) : Res State := loadReg 1 loadU8 r (evalDirect addr) s

/-- `LD.U8_DIRM____Ax+_u28imm` (R386). -/
def execLdU8DirmIx (r : Reg) (base : Fin 16) (off : BitVec 28) (s : State) : Res State := loadReg 1 loadU8 r (evalIndexed base off s) s

/-- `LD.W0_DIRM___u32imm` (R381). -/
def execLdW0Dirm (r : Reg) (addr : Word) (s : State) : Res State := loadReg 2 (loadHalfLane 0) r (evalDirect addr) s

/-- `LD.W0_DIRM____Ax+_u28imm` (R381). -/
def execLdW0DirmIx (r : Reg) (base : Fin 16) (off : BitVec 28) (s : State) : Res State := loadReg 2 (loadHalfLane 0) r (evalIndexed base off s) s

/-- `LD.W1_DIRM___u32imm` (R382). -/
def execLdW1Dirm (r : Reg) (addr : Word) (s : State) : Res State := loadReg 2 (loadHalfLane 1) r (evalDirect addr) s

/-- `LD.W1_DIRM____Ax+_u28imm` (R382). -/
def execLdW1DirmIx (r : Reg) (base : Fin 16) (off : BitVec 28) (s : State) : Res State := loadReg 2 (loadHalfLane 1) r (evalIndexed base off s) s

/-- `ST.32_DIRM___u32imm` (R390). -/
def execSt32Dirm (addr : Word) (r : Reg) (s : State) : Res State := storeVal 4 (laneOf 0 (readReg r s)) (evalDirect addr) s

/-- `ST.32_DIRM____Ax+_u28imm` (R390). -/
def execSt32DirmIx (base : Fin 16) (off : BitVec 28) (r : Reg) (s : State) : Res State := storeVal 4 (laneOf 0 (readReg r s)) (evalIndexed base off s) s

/-- `ST.64_DIRM___u32imm` (R391). -/
def execSt64Dirm (addr : Word) (x : XReg) (s : State) : Res State := storeVal 8 (readX x s) (evalDirect addr) s

/-- `ST.64_DIRM____Ax+_u28imm` (R391). -/
def execSt64DirmIx (base : Fin 16) (off : BitVec 28) (x : XReg) (s : State) : Res State := storeVal 8 (readX x s) (evalIndexed base off s) s

/-- `ST.B0_DIRM___u32imm` (R394). -/
def execStB0Dirm (addr : Word) (r : Reg) (s : State) : Res State := storeVal 1 (laneOf 0 (readReg r s)) (evalDirect addr) s

/-- `ST.B0_DIRM____Ax+_u28imm` (R394). -/
def execStB0DirmIx (base : Fin 16) (off : BitVec 28) (r : Reg) (s : State) : Res State := storeVal 1 (laneOf 0 (readReg r s)) (evalIndexed base off s) s

/-- `ST.B1_DIRM___u32imm` (R395). -/
def execStB1Dirm (addr : Word) (r : Reg) (s : State) : Res State := storeVal 1 (laneOf 8 (readReg r s)) (evalDirect addr) s

/-- `ST.B1_DIRM____Ax+_u28imm` (R395). -/
def execStB1DirmIx (base : Fin 16) (off : BitVec 28) (r : Reg) (s : State) : Res State := storeVal 1 (laneOf 8 (readReg r s)) (evalIndexed base off s) s

/-- `ST.B2_DIRM___u32imm` (R396). -/
def execStB2Dirm (addr : Word) (r : Reg) (s : State) : Res State := storeVal 1 (laneOf 16 (readReg r s)) (evalDirect addr) s

/-- `ST.B2_DIRM____Ax+_u28imm` (R396). -/
def execStB2DirmIx (base : Fin 16) (off : BitVec 28) (r : Reg) (s : State) : Res State := storeVal 1 (laneOf 16 (readReg r s)) (evalIndexed base off s) s

/-- `ST.B3_DIRM___u32imm` (R397). -/
def execStB3Dirm (addr : Word) (r : Reg) (s : State) : Res State := storeVal 1 (laneOf 24 (readReg r s)) (evalDirect addr) s

/-- `ST.B3_DIRM____Ax+_u28imm` (R397). -/
def execStB3DirmIx (base : Fin 16) (off : BitVec 28) (r : Reg) (s : State) : Res State := storeVal 1 (laneOf 24 (readReg r s)) (evalIndexed base off s) s

/-- `ST.W0_DIRM___u32imm` (R398). -/
def execStW0Dirm (addr : Word) (r : Reg) (s : State) : Res State := storeVal 2 (laneOf 0 (readReg r s)) (evalDirect addr) s

/-- `ST.W0_DIRM____Ax+_u28imm` (R398). -/
def execStW0DirmIx (base : Fin 16) (off : BitVec 28) (r : Reg) (s : State) : Res State := storeVal 2 (laneOf 0 (readReg r s)) (evalIndexed base off s) s

/-- `ST.W1_DIRM___u32imm` (R399). -/
def execStW1Dirm (addr : Word) (r : Reg) (s : State) : Res State := storeVal 2 (laneOf 16 (readReg r s)) (evalDirect addr) s

/-- `ST.W1_DIRM____Ax+_u28imm` (R399). -/
def execStW1DirmIx (base : Fin 16) (off : BitVec 28) (r : Reg) (s : State) : Res State := storeVal 2 (laneOf 16 (readReg r s)) (evalIndexed base off s) s

end Sys2Proof.Machine
end

