-- ==== Sys2Proof/Machine/MemMove.lean ====
section
/-! DEFINITION. Memory-to-memory moves and read-modify-writes (R400 to R404, R410 to R419), and the memory-operand instructions the spec names without semantics. -/

namespace Sys2Proof.Machine

/-- `ADD.32_ADDR1`: no semantics in the spec (R424). -/
def execAdd32Addr1 (_m : Addr1) (_s : State) : Res State := .refused (.noSemantics "ADD.32_ADDR1")

/-- `ADD.S16_ADDR1`: no semantics in the spec (R425). -/
def execAddS16Addr1 (_m : Addr1) (_s : State) : Res State := .refused (.noSemantics "ADD.S16_ADDR1")

/-- `ADD.S8_ADDR1`: no semantics in the spec (R426). -/
def execAddS8Addr1 (_m : Addr1) (_s : State) : Res State := .refused (.noSemantics "ADD.S8_ADDR1")

/-- `AND.16_ADDR1__x16` (R413). -/
def execAnd16Addr1 (m : Addr1) (imm : Half) (s : State) : Res State := modifyMem 2 (fun v => v &&& imm.setWidth 64) (evalAddr1 m s) s

/-- `AND.8_ADDR1` (R414). -/
def execAnd8Addr1 (m : Addr1) (imm : Byte) (s : State) : Res State := modifyMem 1 (fun v => v &&& imm.setWidth 64) (evalAddr1 m s) s

/-- `AND.U16_ADDR1`: no semantics in the spec (R416). -/
def execAndU16Addr1 (_m : Addr1) (_s : State) : Res State := .refused (.noSemantics "AND.U16_ADDR1")

/-- `AND.U8_ADDR1`: no semantics in the spec (R417). -/
def execAndU8Addr1 (_m : Addr1) (_s : State) : Res State := .refused (.noSemantics "AND.U8_ADDR1")

/-- `ANDOR.B0_ADDR1`: no semantics in the spec (R421). -/
def execAndorB0Addr1 (_m : Addr1) (_s : State) : Res State := .refused (.noSemantics "ANDOR.B0_ADDR1")

/-- `ANDOR.W0_ADDR1`: no semantics in the spec (R422). -/
def execAndorW0Addr1 (_m : Addr1) (_s : State) : Res State := .refused (.noSemantics "ANDOR.W0_ADDR1")

/-- `MV.16_ADDR1_ADDR1` (R403). -/
def execMv16Addr1 (dst : Addr1) (src : Addr1) (s : State) : Res State := moveMem 2 (evalAddr1 dst s) (evalAddr1 src s) s

/-- `MV.32_ADDR1_ADDR1` (R401). -/
def execMv32Addr1 (dst : Addr1) (src : Addr1) (s : State) : Res State := moveMem 4 (evalAddr1 dst s) (evalAddr1 src s) s

/-- `MV.64_ADDR1_ADDR1` (R402). -/
def execMv64Addr1 (dst : Addr1) (src : Addr1) (s : State) : Res State := moveMem 8 (evalAddr1 dst s) (evalAddr1 src s) s

/-- `MV.8_ADDR1_ADDR1` (R404). -/
def execMv8Addr1 (dst : Addr1) (src : Addr1) (s : State) : Res State := moveMem 1 (evalAddr1 dst s) (evalAddr1 src s) s

/-- `MV.U16_ADDR1`: no semantics in the spec (R405). -/
def execMvU16Addr1 (_m : Addr1) (_s : State) : Res State := .refused (.noSemantics "MV.U16_ADDR1")

/-- `MV.U8_ADDR1`: no semantics in the spec (R406). -/
def execMvU8Addr1 (_m : Addr1) (_s : State) : Res State := .refused (.noSemantics "MV.U8_ADDR1")

/-- `OR.16_ADDR1__x16` (R410). -/
def execOr16Addr1 (m : Addr1) (imm : Half) (s : State) : Res State := modifyMem 2 (fun v => v ||| imm.setWidth 64) (evalAddr1 m s) s

/-- `OR.8_ADDR1` (R411). -/
def execOr8Addr1 (m : Addr1) (imm : Byte) (s : State) : Res State := modifyMem 1 (fun v => v ||| imm.setWidth 64) (evalAddr1 m s) s

/-- `S16TOF_ADDR1`: no semantics in the spec (R433). -/
def execS16tofAddr1 (_m : Addr1) (_s : State) : Res State := .refused (.noSemantics "S16TOF_ADDR1")

/-- `SUB.32_ADDR1`: no semantics in the spec (R427). -/
def execSub32Addr1 (_m : Addr1) (_s : State) : Res State := .refused (.noSemantics "SUB.32_ADDR1")

/-- `SUB.S16_ADDR1`: no semantics in the spec (R428). -/
def execSubS16Addr1 (_m : Addr1) (_s : State) : Res State := .refused (.noSemantics "SUB.S16_ADDR1")

/-- `SUB.S8_ADDR1`: no semantics in the spec (R429). -/
def execSubS8Addr1 (_m : Addr1) (_s : State) : Res State := .refused (.noSemantics "SUB.S8_ADDR1")

/-- `SUBR.32_ADDR1`: no semantics in the spec (R430). -/
def execSubr32Addr1 (_m : Addr1) (_s : State) : Res State := .refused (.noSemantics "SUBR.32_ADDR1")

/-- `SUBR.S16_ADDR1`: no semantics in the spec (R431). -/
def execSubrS16Addr1 (_m : Addr1) (_s : State) : Res State := .refused (.noSemantics "SUBR.S16_ADDR1")

/-- `SUBR.S8_ADDR1`: no semantics in the spec (R432). -/
def execSubrS8Addr1 (_m : Addr1) (_s : State) : Res State := .refused (.noSemantics "SUBR.S8_ADDR1")

/-- `U16TOF_ADDR1`: no semantics in the spec (R434). -/
def execU16tofAddr1 (_m : Addr1) (_s : State) : Res State := .refused (.noSemantics "U16TOF_ADDR1")

/-- `XOR.16_ADDR1__x16` (R418). -/
def execXor16Addr1 (m : Addr1) (imm : Half) (s : State) : Res State := modifyMem 2 (fun v => v ^^^ imm.setWidth 64) (evalAddr1 m s) s

/-- `XOR.8_ADDR1` (R419). -/
def execXor8Addr1 (m : Addr1) (imm : Byte) (s : State) : Res State := modifyMem 1 (fun v => v ^^^ imm.setWidth 64) (evalAddr1 m s) s

/-- `AND.32_ADDR2`: no semantics in the spec (R415). -/
def execAnd32Addr2 (_m : Addr2) (_s : State) : Res State := .refused (.noSemantics "AND.32_ADDR2")

/-- `ANDOR_ADDR2`: no semantics in the spec (R423). -/
def execAndorAddr2 (_m : Addr2) (_s : State) : Res State := .refused (.noSemantics "ANDOR_ADDR2")

/-- `MV.16_ADDR2`: no semantics in the spec (R403). -/
def execMv16Addr2 (_m : Addr2) (_s : State) : Res State := .refused (.noSemantics "MV.16_ADDR2")

/-- `MV.32_ADDR2`: no semantics in the spec (R401). -/
def execMv32Addr2 (_m : Addr2) (_s : State) : Res State := .refused (.noSemantics "MV.32_ADDR2")

/-- `MV.64_ADDR2`: no semantics in the spec (R402). -/
def execMv64Addr2 (_m : Addr2) (_s : State) : Res State := .refused (.noSemantics "MV.64_ADDR2")

/-- `MV.8_ADDR2`: no semantics in the spec (R404). -/
def execMv8Addr2 (_m : Addr2) (_s : State) : Res State := .refused (.noSemantics "MV.8_ADDR2")

/-- `OR.32_ADDR2`: no semantics in the spec (R412). -/
def execOr32Addr2 (_m : Addr2) (_s : State) : Res State := .refused (.noSemantics "OR.32_ADDR2")

/-- `XOR.32_ADDR2`: no semantics in the spec (R420). -/
def execXor32Addr2 (_m : Addr2) (_s : State) : Res State := .refused (.noSemantics "XOR.32_ADDR2")

/-- `MV.32_ADDR3_ADDR3` (R400). -/
def execMv32Addr3 (dst : Addr3) (src : Addr3) (s : State) : Res State := moveMem 4 (evalAddr3 dst s) (evalAddr3 src s) s

/-- `S16TOF_DIRM___u32imm`: no semantics in the spec (R433). -/
def execS16tofDirm (_addr : Word) (_s : State) : Res State := .refused (.noSemantics "S16TOF_DIRM___u32imm")

/-- `S16TOF_DIRM____Ax+_u28imm`: no semantics in the spec (R433). -/
def execS16tofDirmIx (_base : Fin 16) (_off : BitVec 28) (_s : State) : Res State := .refused (.noSemantics "S16TOF_DIRM____Ax+_u28imm")

/-- `U16TOF_DIRM___u32imm`: no semantics in the spec (R434). -/
def execU16tofDirm (_addr : Word) (_s : State) : Res State := .refused (.noSemantics "U16TOF_DIRM___u32imm")

/-- `U16TOF_DIRM____Ax+_u28imm`: no semantics in the spec (R434). -/
def execU16tofDirmIx (_base : Fin 16) (_off : BitVec 28) (_s : State) : Res State := .refused (.noSemantics "U16TOF_DIRM____Ax+_u28imm")

end Sys2Proof.Machine
end

