-- ==== Sys2Proof/Machine/Protected.lean ====
section
/-! DEFINITION. Protected calls, branches and returns and their markers (40_call_return_protected.md R245 to R255). -/

namespace Sys2Proof.Machine

/-- `CALL.PROT @label` (R246). -/
def execCallProtLabel (label : Word) (s : State) : Res State := callProt label s

/-- `CALL.PROT Ax` (R246). -/
def execCallProtReg (x : Fin 16) (s : State) : Res State := callProt (readA x s) s

/-- `LB.PROT` (R249). -/
def execLbProt (label : Word) (s : State) : Res State := branchProt label s

/-- `RET.PROT` (R250). -/
def execRetProt (s : State) : Res State := returnProt s

/-- `ENTRY1.PROT`: the check of R247 is the packet's; the instruction does nothing (R248, decision D41). -/
def execEntry1Prot (s : State) : Res State := .next s

/-- `ENTRY2.PROT` (R248, decision D41). -/
def execEntry2Prot (s : State) : Res State := .next s

/-- `EXIT.PROT`: the check of R251 is the packet's; the instruction does nothing (R252, decision D41). -/
def execExitProt (s : State) : Res State := .next s

/-- `PRESERVE`: no semantics in the spec (R254, decision D42). -/
def execPreserve (_s : State) : Res State := .refused (.noSemantics "PRESERVE")

end Sys2Proof.Machine
end

