-- ==== Sys2Proof/Machine/Float.lean ====
section
/-! DEFINITION. The default `fmul32` and `fadd32` of R468 and R469: IEEE 754 binary32, rounded to nearest, ties to even. -/

namespace Sys2Proof.Machine

/-- The biased exponent field. -/
def fExp (v : Word) : Nat := v.toNat / 8388608 % 256

/-- The fraction field. -/
def fFrac (v : Word) : Nat := v.toNat % 8388608

/-- The sign bit. -/
def fSign (v : Word) : Bool := v.msb

/-- A NaN. -/
def fIsNan (v : Word) : Bool := fExp v == 255 && fFrac v != 0

/-- An infinity. -/
def fIsInf (v : Word) : Bool := fExp v == 255 && fFrac v == 0

/-- The magnitude of a finite value, in units of 2^-149. -/
def fMag (v : Word) : Nat :=
  if fExp v = 0 then fFrac v else (8388608 + fFrac v) * 2 ^ (fExp v - 1)

/-- A sign over 31 magnitude bits. -/
def fPack (neg : Bool) (mag : Nat) : Word := BitVec.ofNat 32 (mag + if neg then 2147483648 else 0)

/-- `n / 2^k` rounded to nearest, ties to even. -/
def roundShift (n k : Nat) : Nat :=
  let q := n / 2 ^ k
  let r := n % 2 ^ k
  if 2 * r > 2 ^ k ∨ (2 * r = 2 ^ k ∧ q % 2 = 1) then q + 1 else q

/-- The binary32 of the magnitude `n · 2^-298`, rounded to nearest even; an overflow is an infinity. The shift leaves 24
significant bits, or as many as a denormal has. -/
def fRound (neg : Bool) (n : Nat) : Word :=
  let sh := max (Nat.log2 n - 23) 149
  let bits := (sh - 149) * 8388608 + roundShift n sh
  fPack neg (if 2139095040 ≤ bits then 2139095040 else bits)

/-- Binary32 product, nearest even (R468). A NaN result is the free `Config.nanResult`. -/
def ieeeMul (x y : Word) : Word :=
  let neg := fSign x ^^ fSign y
  if fIsNan x || fIsNan y then Config.nanResult x y
  else if fIsInf x || fIsInf y then
    if fMag x = 0 ∨ fMag y = 0 then Config.nanResult x y else fPack neg 2139095040
  else fRound neg (fMag x * fMag y)

/-- The signed value of a finite binary32 in units of 2^-149. -/
def fSigned (v : Word) : Int := if fSign v then -(fMag v : Int) else (fMag v : Int)

/-- Binary32 sum, nearest even (R469): an exact zero sum is +0 unless both operands are negative. -/
def ieeeAdd (x y : Word) : Word :=
  if fIsNan x || fIsNan y then Config.nanResult x y
  else if fIsInf x then if fIsInf y && (fSign x ^^ fSign y) then Config.nanResult x y else x
  else if fIsInf y then y
  else
    let t := fSigned x + fSigned y
    if t = 0 then fPack (fSign x && fSign y) 0 else fRound (decide (t < 0)) (t.natAbs * 2 ^ 149)

/-- `fmul32` (R468). -/
def fmul32 (k : FpKind) (x y : Word) : Word :=
  match k with
  | .ieee => ieeeMul x y
  | .other => Config.fmul32 x y

/-- `fadd32` (R469). -/
def fadd32 (k : FpKind) (x y : Word) : Word :=
  match k with
  | .ieee => ieeeAdd x y
  | .other => Config.fadd32 x y

end Sys2Proof.Machine
end

