-- ==== Sys2Proof/Machine/RegOps.lean ====
section
/-! DEFINITION. Register arithmetic, moves, compares and tests, circular and bit-reversed index updates, CRC and floating point
(44_register_operations.md). -/

namespace Sys2Proof.Machine

/-! ### Shared -/

/-- A register of the bank of an integer ADD or SUB. -/
def bankReg (b : IBank) (i : Fin 16) : Reg :=
  match b with
  | .a => .a i
  | .d => .d i

/-- Write the result of an integer ADD or SUB; a Dx result that does not fit may set D.OV and D.OVNEG (R453, R73). -/
def writeSum (b : IBank) (z : Fin 16) (v : Word) (overflow neg : Bool) (s : State) : State :=
  match b with
  | .a => writeA z v s
  | .d =>
    if overflow then
      spend 1 (writeD z v { s with cur := { s.cur with ests := recordOverflow (drawBit 0 s) neg s.cur.ests } })
    else writeD z v s

/-- `R[z] <- y + x` (R453). An overflow is negative when the operands are. -/
def addTo (b : IBank) (z : Fin 16) (y x : Word) (s : State) : State := writeSum b z (y + x) (addOverflows y x) (isNegative y) s

/-- `R[z] <- y - x` (R454). -/
def subTo (b : IBank) (z : Fin 16) (y x : Word) (s : State) : State := writeSum b z (y - x) (subOverflows y x) (isNegative y) s

/-- M.LUF and M.LVF after a floating-point operation: sticky (R73) and otherwise unspecified (R468, decision D46). -/
def setStickyFp (s : State) : State :=
  spend 2 { s with cur := { s.cur with ests := recordFp (drawBit 0 s) (drawBit 1 s) s.cur.ests } }

/-- A floating-point result (R468). -/
def writeFp (z : Fin 32) (v : Word) (s : State) : State := writeM z v (setStickyFp s)

/-- Write one test flag. -/
def writeTestFlag (f : TestFlag) (b : Bool) (s : State) : State :=
  match f with
  | .ta i => { s with cur := { s.cur with dsts := { s.cur.dsts with ta := setBit4 s.cur.dsts.ta i b } } }
  | .tdm i => { s with cur := { s.cur with ests := { s.cur.ests with tdm := setBit4 s.cur.ests.tdm i b } } }

/-- Write the flag a TBIT names (R458). -/
def writeTestDst (t : TestDst) (b : Bool) (s : State) : State :=
  match t with
  | .flag f => writeTestFlag f b s
  | .az => { s with cur := { s.cur with dsts := { s.cur.dsts with flags := { s.cur.dsts.flags with z := b } } } }
  | .dz => { s with cur := { s.cur with ests := { s.cur.ests with flags := { s.cur.ests.flags with z := b } } } }
  | .mzf => { s with cur := { s.cur with ests := { s.cur.ests with zf := b } } }

/-- Whether both registers of a circular update are below 2^31 (R464). -/
def circDefined (y x : Word) : Bool := !isNegative y && !isNegative x

/-! ### Meanings -/

/-- `ADD.U16 Az,Ay,#u16` (R451). -/
def execAddU16 (z y : Fin 16) (imm : Half) (s : State) : Res State := .next (writeA z (readA y s + zext32 imm) s)

/-- `SUB.U16 Az,Ay,#u16` (R452). -/
def execSubU16 (z y : Fin 16) (imm : Half) (s : State) : Res State := .next (writeA z (readA y s - zext32 imm) s)

/-- `ADD Rz,Ry,#imm` (R453). -/
def execAddImm (bank : IBank) (z y : Fin 16) (imm : Half) (s : State) : Res State :=
  .next (addTo bank z (readReg (bankReg bank y) s) (zext32 imm) s)

/-- `ADD Rz,Ry,Rx` (R453). -/
def execAddReg (bank : IBank) (z y x : Fin 16) (s : State) : Res State :=
  .next (addTo bank z (readReg (bankReg bank y) s) (readReg (bankReg bank x) s) s)

/-- `SUB Rz,Ry,#imm` (R454). -/
def execSubImm (bank : IBank) (z y : Fin 16) (imm : Half) (s : State) : Res State :=
  .next (subTo bank z (readReg (bankReg bank y) s) (zext32 imm) s)

/-- `SUB Rz,Ry,Rx`, in the order `SUB_RRR_ORDER` says (R454, decision D45). -/
def execSubReg (bank : IBank) (z y x : Fin 16) (s : State) : Res State :=
  match s.cfg.subOrder with
  | .yMinusX => .next (subTo bank z (readReg (bankReg bank y) s) (readReg (bankReg bank x) s) s)
  | .xMinusY => .next (subTo bank z (readReg (bankReg bank x) s) (readReg (bankReg bank y) s) s)

/-- `MV R,#imm32` (R455). -/
def execMvImm (r : Reg) (imm : Word) (s : State) : Res State := .next (writeReg r imm s)

/-- Register moves of 32 and 64 bits (R456). -/
def execMvReg (op : MvRegs) (s : State) : Res State :=
  match op with
  | .word dst src => .next (writeReg dst (readReg src s) s)
  | .pair dst src => .next (writeX dst (readX src s) s)

/-- `CMP Ry,Rx` (R457): the flags of one bank, as one field. -/
def execCmp (op : CmpRegs) (s : State) : Res State :=
  match op with
  | .a y x => .next { s with cur := { s.cur with dsts := { s.cur.dsts with flags := compareFlags false (readA y s) (readA x s) } } }
  | .d y x => .next { s with cur := { s.cur with ests := { s.cur.ests with flags := compareFlags true (readD y s) (readD x s) } } }
  | .m y x =>
    .next { s with cur := { s.cur with ests := { s.cur.ests with
      zf := (compareFlagsM (readM y s) (readM x s)).1, nf := (compareFlagsM (readM y s) (readM x s)).2 } } }

/-- `TBIT` (R458): the flag it names gets a free value. -/
def execTbit (dst : TestDst) (s : State) : Res State := .next (spend 1 (writeTestDst dst (drawBit 0 s) s))

/-- `TFLG` (R459): the test flag it names gets a free value. -/
def execTflg (dst : TestFlag) (s : State) : Res State := .next (spend 1 (writeTestFlag dst (drawBit 0 s) s))

/-- `INC.CIRC Ay,Ax` (R462); outside the range of R464 the result is free. -/
def execIncCirc (y : Fin 4) (x : Fin 16) (s : State) : Res State :=
  let v := readA (indexReg y) s
  if circDefined v (readA x s) then .next (writeA (indexReg y) (if readA x s ≤ v then 0 else v + 1) s)
  else .next (spend 1 (writeA (indexReg y) (drawWord 0 s) s))

/-- `DEC.CIRC Ay,Ax` (R463); outside the range of R464 the result is free. -/
def execDecCirc (y : Fin 4) (x : Fin 16) (s : State) : Res State :=
  let v := readA (indexReg y) s
  if circDefined v (readA x s) then .next (writeA (indexReg y) (if v = 0 then readA x s else v - 1) s)
  else .next (spend 1 (writeA (indexReg y) (drawWord 0 s) s))

/-- `ADD.BITREV Az,Ay,Ax` (R465). -/
def execAddBitrev (z y x : Fin 16) (s : State) : Res State :=
  .next (writeA z (rev32 (rev32 (readA y s) + rev32 (readA x s))) s)

/-- `FTOS16 Dz,Mx` (R466). Whether it sets the sticky M.LUF and M.LVF is not stated; each is free, as after the other floating-point
operations, and D.OV and D.OVNEG, of which R73 and R466 do not say whether it sets them, stay (log entry 19). -/
def execFtos16 (z : Fin 16) (x : Fin 32) (s : State) : Res State := .next (writeD z (Config.ftos16 (readM x s)) (setStickyFp s))

/-- `CRC Dz,Dy,Dx,Dw` (R467). Whether it sets a sticky flag is not stated (R73, R467); that it leaves them is the model's choice (log
entry 19). -/
def execCrc (z y x w : Fin 16) (s : State) : Res State := .next (writeD z (Config.crc (readD y s) (readD x s) (readD w s)) s)

/-- `SMPYF Mz,My,Mx` (R468). -/
def execSmpyf (z y x : Fin 32) (s : State) : Res State := .next (writeFp z (fmul32 s.cfg.fp (readM y s) (readM x s)) s)

/-- `SADDF Mz,My,Mx` (R469). -/
def execSaddf (z y x : Fin 32) (s : State) : Res State := .next (writeFp z (fadd32 s.cfg.fp (readM y s) (readM x s)) s)

/-- `ADDF Mz,My,Mx` (R470). -/
def execAddf (z y x : Fin 32) (s : State) : Res State := .next (writeFp z (fadd32 s.cfg.fp (readM y s) (readM x s)) s)

end Sys2Proof.Machine
end

