-- ==== Sys2Proof/Machine/System.lean ====
section
/-! DEFINITION. Interrupt and system instructions, RPC and the status registers as operands (41_interrupt_system_instructions.md). -/

namespace Sys2Proof.Machine

/-- `ATOMIC #N` (R280, R281, R283 (a)). -/
def execAtomic (n : BitVec 8) (s : State) : Res State :=
  if s.cfg.atomicMax < n.toNat then stopUnlessFaulted (.atomicCount n.toNat) s
  else if s.pre.ists.atomic = 0 then
    .next { s with cur := { s.cur with ists := { s.cur.ists with atomic := n } }, pkt := { s.pkt with atomicLoaded := true } }
  else .next { s with cur := { s.cur with ists := { s.cur.ists with atomic := 0 } } }

/-- `ENINT` (R285). -/
def execEnint (s : State) : Res State := .next { s with cur := { s.cur with dsts := { s.cur.dsts with inte := true } } }

/-- `DISINT` (R286). -/
def execDisint (s : State) : Res State := .next { s with cur := { s.cur with dsts := { s.cur.dsts with inte := false } } }

/-- `RETI.INT` (R287). -/
def execRetiInt (s : State) : Res State := returnInt 0 s

/-- Delayed `RETI.INT`: R287 says that this form is not stated, R260 excepts the .PROT transfers only (log entry 71). -/
def execRetiIntD (delay : Fin 8) (s : State) : Res State := returnInt delay s

/-- `RETI.RTINT` (R288). -/
def execRetiRtint (s : State) : Res State := returnRealtime 0 s

/-- Delayed `RETI.RTINT` (R260, log entry 71). -/
def execRetiRtintD (delay : Fin 8) (s : State) : Res State := returnRealtime delay s

/-- `ISR1.PROT` (R290). -/
def execIsr1Prot (s : State) : Res State := .next (writeSp s.pre.secsp[s.pre.ists.currsp] s)

/-- `ISR2.PROT` (R291): no effect. -/
def execIsr2Prot (s : State) : Res State := .next s

/-- `IDLE` (R295, decision D43): no packet executes until an interrupt is taken. -/
def execIdle (s : State) : Res State := .next { s with cur := { s.cur with idle := true } }

/-- Whether EMUSTOP0 halts: a debugger is connected (R296), has not let the CPU run free (R585), and the CPU is not in the FAULT state,
which only reset leaves (R105, R500). DBGM does not gate it (log entry 55). -/
def breakArmed (s : State) : Bool := s.dbg.connected && s.dbg.mode != .freeRun && s.cur.fault.isNone

/-- `EMUSTOP0` (R296): halts before its packet executes when a debugger is connected, else no effect. -/
def execEmustop0 (s : State) : Res State :=
  if breakArmed s then
    .next { s with cur := s.pre, pkt := { s.pkt with halted := true }, dbg := { s.dbg with mode := .halt, haltPending := false } }
  else .next s

/-- `ECCSELFTEST`: no semantics in the spec (R297, decision D14). -/
def execEccselftest (_s : State) : Res State := .refused (.noSemantics "ECCSELFTEST")

/-- `MOV Ax,RPC` (R300). -/
def execMovRpc (x : Fin 16) (s : State) : Res State := .next (writeA x s.pre.rpc s)

/-- `LD.32 RPC,@MEM` (R301). The model has no other mode that loads RPC and no store of it (log entry 72). -/
def execLdRpc (addr : Word) (s : State) : Res State :=
  andThen (memRead addr 4 s) fun v => .next (writeRpc (lowWord v.1) v.2)

/-- `read_status` (R305). -/
def readStatus (r : StatusReg) (s : State) : Word :=
  match r with
  | .dsts => dstsWord s.pre.dsts
  | .ests => estsWord s.pre.ests

/-- `write_status` (R305). -/
def writeStatus (r : StatusReg) (v : Word) (s : State) : State :=
  match r with
  | .dsts => { s with cur := { s.cur with dsts := writeDstsWord s.cur.dsts v } }
  | .ests => { s with cur := { s.cur with ests := writeEstsWord v } }

/-- The load, store, move and mask operations on DSTS and ESTS (R305, R70, R78). -/
def execStatusOp (op : StatusOp) (s : State) : Res State :=
  match op with
  | .load r m =>
    andThen (memRead (evalAddr1 m s).addr 4 s) fun v =>
      .next (applySide (evalAddr1 m s) (writeStatus r (lowWord v.1) v.2))
  | .store r m => storeVal 4 ((readStatus r s).setWidth 64) (evalAddr1 m s) s
  | .toReg r dst => .next (writeReg dst (readStatus r s) s)
  | .ofReg r src => .next (writeStatus r (readReg src s) s)
  | .andImm r imm => .next (writeStatus r (readStatus r s &&& imm) s)
  | .orImm r imm => .next (writeStatus r (readStatus r s ||| imm) s)

/-- `NOP` (R308). -/
def execNop (s : State) : Res State := .next s

end Sys2Proof.Machine
end

