-- ==== Sys2Proof/Machine/Dispatch.lean ====
section
/-! DEFINITION. The one match that gives every instruction its meaning. -/

namespace Sys2Proof.Machine

/-- The meaning of one instruction of a packet. -/
def exec (i : Instr) (s : State) : Host.Outcome State Fault Refusal :=
  match i with
  | .add32Addr1 m => Sys2Proof.Machine.execAdd32Addr1 m s
  | .addS16Addr1 m => Sys2Proof.Machine.execAddS16Addr1 m s
  | .addS8Addr1 m => Sys2Proof.Machine.execAddS8Addr1 m s
  | .and16Addr1 m imm => Sys2Proof.Machine.execAnd16Addr1 m imm s
  | .and8Addr1 m imm => Sys2Proof.Machine.execAnd8Addr1 m imm s
  | .andU16Addr1 m => Sys2Proof.Machine.execAndU16Addr1 m s
  | .andU8Addr1 m => Sys2Proof.Machine.execAndU8Addr1 m s
  | .andorB0Addr1 m => Sys2Proof.Machine.execAndorB0Addr1 m s
  | .andorW0Addr1 m => Sys2Proof.Machine.execAndorW0Addr1 m s
  | .ld32Addr1 r m => Sys2Proof.Machine.execLd32Addr1 r m s
  | .ld64Addr1 x m => Sys2Proof.Machine.execLd64Addr1 x m s
  | .ldB0Addr1 r m => Sys2Proof.Machine.execLdB0Addr1 r m s
  | .ldB1Addr1 r m => Sys2Proof.Machine.execLdB1Addr1 r m s
  | .ldB2Addr1 r m => Sys2Proof.Machine.execLdB2Addr1 r m s
  | .ldB3Addr1 r m => Sys2Proof.Machine.execLdB3Addr1 r m s
  | .ldS16Addr1 r m => Sys2Proof.Machine.execLdS16Addr1 r m s
  | .ldS8Addr1 r m => Sys2Proof.Machine.execLdS8Addr1 r m s
  | .ldU16Addr1 r m => Sys2Proof.Machine.execLdU16Addr1 r m s
  | .ldU8Addr1 r m => Sys2Proof.Machine.execLdU8Addr1 r m s
  | .ldW0Addr1 r m => Sys2Proof.Machine.execLdW0Addr1 r m s
  | .ldW1Addr1 r m => Sys2Proof.Machine.execLdW1Addr1 r m s
  | .mv16Addr1 dst src => Sys2Proof.Machine.execMv16Addr1 dst src s
  | .mv32Addr1 dst src => Sys2Proof.Machine.execMv32Addr1 dst src s
  | .mv64Addr1 dst src => Sys2Proof.Machine.execMv64Addr1 dst src s
  | .mv8Addr1 dst src => Sys2Proof.Machine.execMv8Addr1 dst src s
  | .mvU16Addr1 m => Sys2Proof.Machine.execMvU16Addr1 m s
  | .mvU8Addr1 m => Sys2Proof.Machine.execMvU8Addr1 m s
  | .or16Addr1 m imm => Sys2Proof.Machine.execOr16Addr1 m imm s
  | .or8Addr1 m imm => Sys2Proof.Machine.execOr8Addr1 m imm s
  | .retAddr1 m delay => Sys2Proof.Machine.execRetAddr1 m delay s
  | .s16tofAddr1 m => Sys2Proof.Machine.execS16tofAddr1 m s
  | .st16Addr1 m imm => Sys2Proof.Machine.execSt16Addr1 m imm s
  | .st32Addr1 m r => Sys2Proof.Machine.execSt32Addr1 m r s
  | .st64Addr1 m x => Sys2Proof.Machine.execSt64Addr1 m x s
  | .st8Addr1 m imm => Sys2Proof.Machine.execSt8Addr1 m imm s
  | .stB0Addr1 m r => Sys2Proof.Machine.execStB0Addr1 m r s
  | .stB1Addr1 m r => Sys2Proof.Machine.execStB1Addr1 m r s
  | .stB2Addr1 m r => Sys2Proof.Machine.execStB2Addr1 m r s
  | .stB3Addr1 m r => Sys2Proof.Machine.execStB3Addr1 m r s
  | .stW0Addr1 m r => Sys2Proof.Machine.execStW0Addr1 m r s
  | .stW1Addr1 m r => Sys2Proof.Machine.execStW1Addr1 m r s
  | .sub32Addr1 m => Sys2Proof.Machine.execSub32Addr1 m s
  | .subS16Addr1 m => Sys2Proof.Machine.execSubS16Addr1 m s
  | .subS8Addr1 m => Sys2Proof.Machine.execSubS8Addr1 m s
  | .subr32Addr1 m => Sys2Proof.Machine.execSubr32Addr1 m s
  | .subrS16Addr1 m => Sys2Proof.Machine.execSubrS16Addr1 m s
  | .subrS8Addr1 m => Sys2Proof.Machine.execSubrS8Addr1 m s
  | .u16tofAddr1 m => Sys2Proof.Machine.execU16tofAddr1 m s
  | .xor16Addr1 m imm => Sys2Proof.Machine.execXor16Addr1 m imm s
  | .xor8Addr1 m imm => Sys2Proof.Machine.execXor8Addr1 m imm s
  | .and32Addr2 m => Sys2Proof.Machine.execAnd32Addr2 m s
  | .andorAddr2 m => Sys2Proof.Machine.execAndorAddr2 m s
  | .ld32Addr2 r m => Sys2Proof.Machine.execLd32Addr2 r m s
  | .ld64Addr2 x m => Sys2Proof.Machine.execLd64Addr2 x m s
  | .mv16Addr2 m => Sys2Proof.Machine.execMv16Addr2 m s
  | .mv32Addr2 m => Sys2Proof.Machine.execMv32Addr2 m s
  | .mv64Addr2 m => Sys2Proof.Machine.execMv64Addr2 m s
  | .mv8Addr2 m => Sys2Proof.Machine.execMv8Addr2 m s
  | .or32Addr2 m => Sys2Proof.Machine.execOr32Addr2 m s
  | .st16Addr2 m imm => Sys2Proof.Machine.execSt16Addr2 m imm s
  | .st32Addr2 m r => Sys2Proof.Machine.execSt32Addr2 m r s
  | .st64Addr2 m x => Sys2Proof.Machine.execSt64Addr2 m x s
  | .st8Addr2 m imm => Sys2Proof.Machine.execSt8Addr2 m imm s
  | .xor32Addr2 m => Sys2Proof.Machine.execXor32Addr2 m s
  | .mv32Addr3 dst src => Sys2Proof.Machine.execMv32Addr3 dst src s
  | .ld32Dirm r addr => Sys2Proof.Machine.execLd32Dirm r addr s
  | .ld32DirmIx r base off => Sys2Proof.Machine.execLd32DirmIx r base off s
  | .ld64Dirm x addr => Sys2Proof.Machine.execLd64Dirm x addr s
  | .ld64DirmIx x base off => Sys2Proof.Machine.execLd64DirmIx x base off s
  | .ldB0Dirm r addr => Sys2Proof.Machine.execLdB0Dirm r addr s
  | .ldB0DirmIx r base off => Sys2Proof.Machine.execLdB0DirmIx r base off s
  | .ldB1Dirm r addr => Sys2Proof.Machine.execLdB1Dirm r addr s
  | .ldB1DirmIx r base off => Sys2Proof.Machine.execLdB1DirmIx r base off s
  | .ldB2Dirm r addr => Sys2Proof.Machine.execLdB2Dirm r addr s
  | .ldB2DirmIx r base off => Sys2Proof.Machine.execLdB2DirmIx r base off s
  | .ldB3Dirm r addr => Sys2Proof.Machine.execLdB3Dirm r addr s
  | .ldB3DirmIx r base off => Sys2Proof.Machine.execLdB3DirmIx r base off s
  | .ldS16Dirm r addr => Sys2Proof.Machine.execLdS16Dirm r addr s
  | .ldS16DirmIx r base off => Sys2Proof.Machine.execLdS16DirmIx r base off s
  | .ldS8Dirm r addr => Sys2Proof.Machine.execLdS8Dirm r addr s
  | .ldS8DirmIx r base off => Sys2Proof.Machine.execLdS8DirmIx r base off s
  | .ldU16Dirm r addr => Sys2Proof.Machine.execLdU16Dirm r addr s
  | .ldU16DirmIx r base off => Sys2Proof.Machine.execLdU16DirmIx r base off s
  | .ldU8Dirm r addr => Sys2Proof.Machine.execLdU8Dirm r addr s
  | .ldU8DirmIx r base off => Sys2Proof.Machine.execLdU8DirmIx r base off s
  | .ldW0Dirm r addr => Sys2Proof.Machine.execLdW0Dirm r addr s
  | .ldW0DirmIx r base off => Sys2Proof.Machine.execLdW0DirmIx r base off s
  | .ldW1Dirm r addr => Sys2Proof.Machine.execLdW1Dirm r addr s
  | .ldW1DirmIx r base off => Sys2Proof.Machine.execLdW1DirmIx r base off s
  | .s16tofDirm addr => Sys2Proof.Machine.execS16tofDirm addr s
  | .s16tofDirmIx base off => Sys2Proof.Machine.execS16tofDirmIx base off s
  | .st32Dirm addr r => Sys2Proof.Machine.execSt32Dirm addr r s
  | .st32DirmIx base off r => Sys2Proof.Machine.execSt32DirmIx base off r s
  | .st64Dirm addr x => Sys2Proof.Machine.execSt64Dirm addr x s
  | .st64DirmIx base off x => Sys2Proof.Machine.execSt64DirmIx base off x s
  | .stB0Dirm addr r => Sys2Proof.Machine.execStB0Dirm addr r s
  | .stB0DirmIx base off r => Sys2Proof.Machine.execStB0DirmIx base off r s
  | .stB1Dirm addr r => Sys2Proof.Machine.execStB1Dirm addr r s
  | .stB1DirmIx base off r => Sys2Proof.Machine.execStB1DirmIx base off r s
  | .stB2Dirm addr r => Sys2Proof.Machine.execStB2Dirm addr r s
  | .stB2DirmIx base off r => Sys2Proof.Machine.execStB2DirmIx base off r s
  | .stB3Dirm addr r => Sys2Proof.Machine.execStB3Dirm addr r s
  | .stB3DirmIx base off r => Sys2Proof.Machine.execStB3DirmIx base off r s
  | .stW0Dirm addr r => Sys2Proof.Machine.execStW0Dirm addr r s
  | .stW0DirmIx base off r => Sys2Proof.Machine.execStW0DirmIx base off r s
  | .stW1Dirm addr r => Sys2Proof.Machine.execStW1Dirm addr r s
  | .stW1DirmIx base off r => Sys2Proof.Machine.execStW1DirmIx base off r s
  | .u16tofDirm addr => Sys2Proof.Machine.execU16tofDirm addr s
  | .u16tofDirmIx base off => Sys2Proof.Machine.execU16tofDirmIx base off s
  | .callLabel label delay => Sys2Proof.Machine.execCallLabel label delay s
  | .callReg x delay => Sys2Proof.Machine.execCallReg x delay s
  | .ret delay => Sys2Proof.Machine.execRet delay s
  | .branch target cond delay => Sys2Proof.Machine.execBranch target cond delay s
  | .bcmpz label cond x delay => Sys2Proof.Machine.execBcmpz label cond x delay s
  | .callProtLabel label => Sys2Proof.Machine.execCallProtLabel label s
  | .callProtReg x => Sys2Proof.Machine.execCallProtReg x s
  | .entry1Prot => Sys2Proof.Machine.execEntry1Prot s
  | .entry2Prot => Sys2Proof.Machine.execEntry2Prot s
  | .lbProt label => Sys2Proof.Machine.execLbProt label s
  | .retProt => Sys2Proof.Machine.execRetProt s
  | .exitProt => Sys2Proof.Machine.execExitProt s
  | .preserve => Sys2Proof.Machine.execPreserve s
  | .xc => Sys2Proof.Machine.execXc s
  | .xcp => Sys2Proof.Machine.execXcp s
  | .atomic n => Sys2Proof.Machine.execAtomic n s
  | .enint => Sys2Proof.Machine.execEnint s
  | .disint => Sys2Proof.Machine.execDisint s
  | .retiInt => Sys2Proof.Machine.execRetiInt s
  | .retiIntD delay => Sys2Proof.Machine.execRetiIntD delay s
  | .retiRtint => Sys2Proof.Machine.execRetiRtint s
  | .retiRtintD delay => Sys2Proof.Machine.execRetiRtintD delay s
  | .isr1Prot => Sys2Proof.Machine.execIsr1Prot s
  | .isr2Prot => Sys2Proof.Machine.execIsr2Prot s
  | .idle => Sys2Proof.Machine.execIdle s
  | .emustop0 => Sys2Proof.Machine.execEmustop0 s
  | .eccselftest => Sys2Proof.Machine.execEccselftest s
  | .movRpc x => Sys2Proof.Machine.execMovRpc x s
  | .ldRpc addr => Sys2Proof.Machine.execLdRpc addr s
  | .statusOp op => Sys2Proof.Machine.execStatusOp op s
  | .nop => Sys2Proof.Machine.execNop s
  | .addU16 z y imm => Sys2Proof.Machine.execAddU16 z y imm s
  | .subU16 z y imm => Sys2Proof.Machine.execSubU16 z y imm s
  | .addImm bank z y imm => Sys2Proof.Machine.execAddImm bank z y imm s
  | .addReg bank z y x => Sys2Proof.Machine.execAddReg bank z y x s
  | .subImm bank z y imm => Sys2Proof.Machine.execSubImm bank z y imm s
  | .subReg bank z y x => Sys2Proof.Machine.execSubReg bank z y x s
  | .mvImm r imm => Sys2Proof.Machine.execMvImm r imm s
  | .mvReg op => Sys2Proof.Machine.execMvReg op s
  | .cmp op => Sys2Proof.Machine.execCmp op s
  | .tbit dst => Sys2Proof.Machine.execTbit dst s
  | .tflg dst => Sys2Proof.Machine.execTflg dst s
  | .incCirc y x => Sys2Proof.Machine.execIncCirc y x s
  | .decCirc y x => Sys2Proof.Machine.execDecCirc y x s
  | .addBitrev z y x => Sys2Proof.Machine.execAddBitrev z y x s
  | .ftos16 z x => Sys2Proof.Machine.execFtos16 z x s
  | .crc z y x w => Sys2Proof.Machine.execCrc z y x w s
  | .smpyf z y x => Sys2Proof.Machine.execSmpyf z y x s
  | .saddf z y x => Sys2Proof.Machine.execSaddf z y x s
  | .addf z y x => Sys2Proof.Machine.execAddf z y x s

end Sys2Proof.Machine
end

