-- ==== Sys2Proof/Machine/Packet.lean ====
section
/-! DEFINITION. Packets: what each instruction writes and accesses, the restrictions on packing, packet formation, and the execution
of one packet. -/

namespace Sys2Proof.Machine

/-! ### What an instruction writes -/

/-- A destination of an instruction, for the one-write rule (R18, R222). -/
inductive Dst where
  | reg (r : Reg)
  | rpc | pc | aFlags | dFlags | mFlags
  | flag (f : TestFlag)
  | inte | atomic | dsts | ests | ovFlags | fpFlags | everything
  deriving DecidableEq, Repr

/-- A field of DSTS software writes. -/
def Dst.inDsts : Dst → Bool
  | .aFlags => true
  | .flag (.ta _) => true
  | .inte => true
  | .dsts => true
  | _ => false

/-- A field of ESTS software writes, but for the sticky flags. -/
def Dst.inEsts : Dst → Bool
  | .dFlags => true
  | .mFlags => true
  | .flag (.tdm _) => true
  | .ests => true
  | _ => false

/-- The sticky flags: D.OV with D.OVNEG, and M.LUF with M.LVF. -/
def Dst.isSticky : Dst → Bool
  | .ovFlags => true
  | .fpFlags => true
  | _ => false

/-- Two writes of one register or field. The sticky flags are no destination register: several instructions of a packet may set them, also
beside a write of ESTS (R73, R177, R450, log entry 76). -/
def Dst.clash (x y : Dst) : Bool :=
  if x = .everything ∨ y = .everything then true
  else if x.isSticky ∨ y.isSticky then false
  else if x = .dsts ∧ y.inDsts ∨ y = .dsts ∧ x.inDsts then true
  else if x = .ests ∧ y.inEsts ∨ y = .ests ∧ x.inEsts then true
  else x = y

/-- What the packing rules need to know of an instruction: its destinations, its data loads and stores, whether it is a discontinuity. -/
structure Profile where
  dests : List Dst
  loads : Nat
  stores : Nat
  disc : Bool
  deriving DecidableEq, Repr

/-- The register an ADDR1 mode writes (R186). -/
def side1 : Addr1 → List Dst
  | .off _ _ => []
  | .offScaled _ _ => []
  | .offPost x _ _ => [.reg (.a x)]
  | .spNeg _ => []
  | .postInc x _ => [.reg (.a x)]
  | .postDec x _ => [.reg (.a x)]
  | .preDec x _ => [.reg (.a x)]
  | .index _ _ _ => []
  | .indexSet j _ _ _ => [.reg (.a j)]

/-- The register an ADDR2 mode writes (R200). -/
def side2 : Addr2 → List Dst
  | .postA0 z => [.reg (.a (baseReg z))]
  | .postA1 z => [.reg (.a (baseReg z))]
  | .idxA0 _ => []
  | .idxA1 _ => []
  | .plain _ => []
  | .postInc z => [.reg (.a (baseReg z))]
  | .postDec z => [.reg (.a (baseReg z))]
  | .preDec z => [.reg (.a (baseReg z))]

/-- The two registers of a pair. -/
def pairDsts (x : XReg) : List Dst := [.reg (lowReg x), .reg (highReg x)]

/-- No destination and no access. -/
def quiet : Profile := ⟨[], 0, 0, false⟩

/-- Destinations only. -/
def writes (l : List Dst) : Profile := ⟨l, 0, 0, false⟩

/-- A load. -/
def loads (l : List Dst) : Profile := ⟨l, 1, 0, false⟩

/-- A store. -/
def stores (l : List Dst) : Profile := ⟨l, 0, 1, false⟩

/-- One read and one write of memory. -/
def both (l : List Dst) : Profile := ⟨l, 1, 1, false⟩

/-- The destinations of an integer sum. -/
def sumDsts (b : IBank) (z : Fin 16) : List Dst :=
  match b with
  | .a => [.reg (.a z)]
  | .d => [.reg (.d z), .ovFlags]

/-- A status register as a destination. -/
def statusDst : StatusReg → Dst
  | .dsts => .dsts
  | .ests => .ests

/-- The profile of a status operation. -/
def statusProfile : StatusOp → Profile
  | .load r m => loads (statusDst r :: side1 m)
  | .store _ m => stores (side1 m)
  | .toReg _ dst => writes [.reg dst]
  | .ofReg r _ => writes [statusDst r]
  | .andImm r _ => writes [statusDst r]
  | .orImm r _ => writes [statusDst r]

/-- The destination of a TBIT. -/
def testDst : TestDst → Dst
  | .flag f => .flag f
  | .az => .aFlags
  | .dz => .dFlags
  | .mzf => .mFlags

/-- The profile of each instruction. What it names and the state before the packet spares is `destsOf`. -/
def profile : Instr → Profile
  | .add32Addr1 _ => quiet
  | .addS16Addr1 _ => quiet
  | .addS8Addr1 _ => quiet
  | .and16Addr1 m _ => both (side1 m)
  | .and8Addr1 m _ => both (side1 m)
  | .andU16Addr1 _ => quiet
  | .andU8Addr1 _ => quiet
  | .andorB0Addr1 _ => quiet
  | .andorW0Addr1 _ => quiet
  | .ld32Addr1 r m => loads (.reg r :: side1 m)
  | .ld64Addr1 x m => loads (pairDsts x ++ side1 m)
  | .ldB0Addr1 r m => loads (.reg r :: side1 m)
  | .ldB1Addr1 r m => loads (.reg r :: side1 m)
  | .ldB2Addr1 r m => loads (.reg r :: side1 m)
  | .ldB3Addr1 r m => loads (.reg r :: side1 m)
  | .ldS16Addr1 r m => loads (.reg r :: side1 m)
  | .ldS8Addr1 r m => loads (.reg r :: side1 m)
  | .ldU16Addr1 r m => loads (.reg r :: side1 m)
  | .ldU8Addr1 r m => loads (.reg r :: side1 m)
  | .ldW0Addr1 r m => loads (.reg r :: side1 m)
  | .ldW1Addr1 r m => loads (.reg r :: side1 m)
  | .mv16Addr1 dst src => both (side1 dst ++ side1 src)
  | .mv32Addr1 dst src => both (side1 dst ++ side1 src)
  | .mv64Addr1 dst src => both (side1 dst ++ side1 src)
  | .mv8Addr1 dst src => both (side1 dst ++ side1 src)
  | .mvU16Addr1 _ => quiet
  | .mvU8Addr1 _ => quiet
  | .or16Addr1 m _ => both (side1 m)
  | .or8Addr1 m _ => both (side1 m)
  | .retAddr1 _ _ => quiet
  | .s16tofAddr1 _ => quiet
  | .st16Addr1 m _ => stores (side1 m)
  | .st32Addr1 m _ => stores (side1 m)
  | .st64Addr1 m _ => stores (side1 m)
  | .st8Addr1 m _ => stores (side1 m)
  | .stB0Addr1 m _ => stores (side1 m)
  | .stB1Addr1 m _ => stores (side1 m)
  | .stB2Addr1 m _ => stores (side1 m)
  | .stB3Addr1 m _ => stores (side1 m)
  | .stW0Addr1 m _ => stores (side1 m)
  | .stW1Addr1 m _ => stores (side1 m)
  | .sub32Addr1 _ => quiet
  | .subS16Addr1 _ => quiet
  | .subS8Addr1 _ => quiet
  | .subr32Addr1 _ => quiet
  | .subrS16Addr1 _ => quiet
  | .subrS8Addr1 _ => quiet
  | .u16tofAddr1 _ => quiet
  | .xor16Addr1 m _ => both (side1 m)
  | .xor8Addr1 m _ => both (side1 m)
  | .and32Addr2 _ => quiet
  | .andorAddr2 _ => quiet
  | .ld32Addr2 r m => loads (.reg r :: side2 m)
  | .ld64Addr2 x m => loads (pairDsts x ++ side2 m)
  | .mv16Addr2 _ => quiet
  | .mv32Addr2 _ => quiet
  | .mv64Addr2 _ => quiet
  | .mv8Addr2 _ => quiet
  | .or32Addr2 _ => quiet
  | .st16Addr2 m _ => stores (side2 m)
  | .st32Addr2 m _ => stores (side2 m)
  | .st64Addr2 m _ => stores (side2 m)
  | .st8Addr2 m _ => stores (side2 m)
  | .xor32Addr2 _ => quiet
  | .mv32Addr3 _ _ => both []
  | .ld32Dirm r _ => loads [.reg r]
  | .ld32DirmIx r _ _ => loads [.reg r]
  | .ld64Dirm x _ => loads (pairDsts x)
  | .ld64DirmIx x _ _ => loads (pairDsts x)
  | .ldB0Dirm r _ => loads [.reg r]
  | .ldB0DirmIx r _ _ => loads [.reg r]
  | .ldB1Dirm r _ => loads [.reg r]
  | .ldB1DirmIx r _ _ => loads [.reg r]
  | .ldB2Dirm r _ => loads [.reg r]
  | .ldB2DirmIx r _ _ => loads [.reg r]
  | .ldB3Dirm r _ => loads [.reg r]
  | .ldB3DirmIx r _ _ => loads [.reg r]
  | .ldS16Dirm r _ => loads [.reg r]
  | .ldS16DirmIx r _ _ => loads [.reg r]
  | .ldS8Dirm r _ => loads [.reg r]
  | .ldS8DirmIx r _ _ => loads [.reg r]
  | .ldU16Dirm r _ => loads [.reg r]
  | .ldU16DirmIx r _ _ => loads [.reg r]
  | .ldU8Dirm r _ => loads [.reg r]
  | .ldU8DirmIx r _ _ => loads [.reg r]
  | .ldW0Dirm r _ => loads [.reg r]
  | .ldW0DirmIx r _ _ => loads [.reg r]
  | .ldW1Dirm r _ => loads [.reg r]
  | .ldW1DirmIx r _ _ => loads [.reg r]
  | .s16tofDirm _ => quiet
  | .s16tofDirmIx _ _ => quiet
  | .st32Dirm _ _ => stores []
  | .st32DirmIx _ _ _ => stores []
  | .st64Dirm _ _ => stores []
  | .st64DirmIx _ _ _ => stores []
  | .stB0Dirm _ _ => stores []
  | .stB0DirmIx _ _ _ => stores []
  | .stB1Dirm _ _ => stores []
  | .stB1DirmIx _ _ _ => stores []
  | .stB2Dirm _ _ => stores []
  | .stB2DirmIx _ _ _ => stores []
  | .stB3Dirm _ _ => stores []
  | .stB3DirmIx _ _ _ => stores []
  | .stW0Dirm _ _ => stores []
  | .stW0DirmIx _ _ _ => stores []
  | .stW1Dirm _ _ => stores []
  | .stW1DirmIx _ _ _ => stores []
  | .u16tofDirm _ => quiet
  | .u16tofDirmIx _ _ => quiet
  | .callLabel _ _ => ⟨[.rpc, .reg (.a 15), .pc], 0, 1, true⟩
  | .callReg _ _ => ⟨[.rpc, .reg (.a 15), .pc], 0, 1, true⟩
  | .ret _ => ⟨[.rpc, .reg (.a 15), .pc], 1, 0, true⟩
  | .branch _ _ _ => ⟨[.pc], 0, 0, true⟩
  | .bcmpz _ _ _ _ => ⟨[.pc], 0, 0, true⟩
  | .callProtLabel _ => ⟨[.rpc, .reg (.a 15), .pc], 0, 1, true⟩
  | .callProtReg _ => ⟨[.rpc, .reg (.a 15), .pc], 0, 1, true⟩
  | .entry1Prot => quiet
  | .entry2Prot => quiet
  | .lbProt _ => ⟨[.reg (.a 15), .pc], 0, 0, true⟩
  | .retProt => ⟨[.rpc, .reg (.a 15), .pc], 1, 0, true⟩
  | .exitProt => quiet
  | .preserve => quiet
  | .xc => quiet
  | .xcp => quiet
  | .atomic _ => writes [.atomic]
  | .enint => writes [.inte]
  | .disint => writes [.inte]
  | .retiInt => ⟨[.rpc, .reg (.a 15), .pc, .inte], 1, 0, true⟩
  | .retiIntD _ => ⟨[.rpc, .reg (.a 15), .pc, .inte], 1, 0, true⟩
  | .retiRtint => ⟨[.everything], 0, 0, true⟩
  | .retiRtintD _ => ⟨[.everything], 0, 0, true⟩
  | .isr1Prot => writes [.reg (.a 15)]
  | .isr2Prot => quiet
  | .idle => quiet
  | .emustop0 => quiet
  | .eccselftest => quiet
  | .movRpc x => writes [.reg (.a x)]
  | .ldRpc _ => loads [.rpc]
  | .statusOp op => statusProfile op
  | .nop => quiet
  | .addU16 z _ _ => writes [.reg (.a z)]
  | .subU16 z _ _ => writes [.reg (.a z)]
  | .addImm bank z _ _ => writes (sumDsts bank z)
  | .addReg bank z _ _ => writes (sumDsts bank z)
  | .subImm bank z _ _ => writes (sumDsts bank z)
  | .subReg bank z _ _ => writes (sumDsts bank z)
  | .mvImm r _ => writes [.reg r]
  | .mvReg (.word dst _) => writes [.reg dst]
  | .mvReg (.pair dst _) => writes (pairDsts dst)
  | .cmp (.a _ _) => writes [.aFlags]
  | .cmp (.d _ _) => writes [.dFlags]
  | .cmp (.m _ _) => writes [.mFlags]
  | .tbit dst => writes [testDst dst]
  | .tflg dst => writes [.flag dst]
  | .incCirc y _ => writes [.reg (.a (indexReg y))]
  | .decCirc y _ => writes [.reg (.a (indexReg y))]
  | .addBitrev z _ _ => writes [.reg (.a z)]
  | .ftos16 z _ => writes [.reg (.d z), .fpFlags]
  | .crc z _ _ _ => writes [.reg (.d z)]
  | .smpyf z _ _ => writes [.reg (.m z), .fpFlags]
  | .saddf z _ _ => writes [.reg (.m z), .fpFlags]
  | .addf z _ _ => writes [.reg (.m z), .fpFlags]

/-! ### Restrictions on a packet -/

/-- No two destinations clash (R18). -/
def distinctDsts : List Dst → Bool
  | [] => true
  | x :: l => l.all (fun y => !x.clash y) && distinctDsts l

/-- Whether a discontinuity goes to its target; a conditional one does where its condition holds (R238, R239). -/
def goes (i : Instr) (s : State) : Bool :=
  match i with
  | .branch _ c _ => condHolds c s.pre.dsts s.pre.ests
  | .bcmpz _ c x _ => bcmpzHolds c (readD x s) s.pre.ests
  | _ => true

/-- A destination of the profile that is not written in the state before the packet: A15 by an LB.PROT that stays on its STACK (R249), INTE
by a RETI.INT that the parameter has leave it (R287). -/
def spares (i : Instr) (s : State) (x : Dst) : Bool :=
  match i with
  | .lbProt target => x == .reg (.a 15) && targetStack target s == stackOf s.cfg s.pre.ists.currlink
  | .retiInt => x == .inte && s.cfg.retiIntRestoresInte == some false
  | .retiIntD _ => x == .inte && s.cfg.retiIntRestoresInte == some false
  | _ => false

/-- The destinations of an instruction in the state before its packet: a branch not taken writes no program counter, so that a packet may
hold two of which at most one goes (R18, R177, log entry 28). -/
def destsOf (i : Instr) (s : State) : List Dst := if goes i s then (profile i).dests.filter fun x => !spares i s x else []

/-- Every destination of a packet. -/
def packetDsts (is : List Instr) (s : State) : List Dst := is.flatMap fun i => destsOf i s

/-- A discontinuity is in the packet. -/
def hasDisc (is : List Instr) : Bool := is.any fun i => (profile i).disc

/-- An ATOMIC is in the packet. -/
def hasAtomic (is : List Instr) : Bool := is.any fun i => match i with | .atomic _ => true | _ => false

/-- A software access to RPC is in the packet (R220 item 9). -/
def hasRpcAccess (is : List Instr) : Bool := is.any fun i => match i with | .movRpc _ => true | .ldRpc _ => true | _ => false

/-- A protected transfer is in the packet (R220 item 5). -/
def hasProt (is : List Instr) : Bool :=
  is.any fun i => match i with | .callProtLabel _ => true | .callProtReg _ => true | .lbProt _ => true | .retProt => true | _ => false

/-- An entry, exit or ISR marker is in the packet (R220 item 10). -/
def hasMarker (is : List Instr) : Bool :=
  is.any fun i => match i with
    | .isr1Prot => true | .isr2Prot => true | .entry1Prot => true | .entry2Prot => true | .exitProt => true | _ => false

/-- The restrictions of R18, R19, R220 and R221, decision D24: what the packet is refused for. A packet that XC covers has no semantics
(R270). Any other combination is accepted (R177). -/
def packetRefusal (is : List Instr) (s : State) : Option Refusal :=
  if !distinctDsts (packetDsts is s) then some .doubleWrite
  else if 2 < (is.map fun i => (profile i).loads).sum ∨ 1 < (is.map fun i => (profile i).stores).sum then some .tooManyAccesses
  else if s.cur.pending.isSome && hasDisc is then some (.placement 1)
  else if s.cur.pending.isSome && is.contains .idle then some (.placement 2)
  else if decide (0 < s.cur.xcCover) && is.contains .idle then some (.placement 3)
  else if is.contains .idle && decide (is.length ≠ 1) then some (.placement 4)
  else if is.contains .preserve && !hasProt is then some (.placement 5)
  else if s.cur.pending.isSome && is.contains .emustop0 then some (.placement 6)
  else if decide (1 < s.cur.xcCover) && s.cur.pending.isSome then some (.placement 7)
  else if is.contains .eccselftest && decide (is.length ≠ 1) then some (.placement 8)
  else if (s.cur.pending.any fun p => p.late == .rpc) && hasRpcAccess is then some (.placement 9)
  else if (is.contains .xc || is.contains .xcp) && hasMarker is then some (.placement 10)
  else if hasAtomic is && (s.cur.pending.isSome || hasDisc is) then some (.placement 21)
  else if 0 < s.cur.xcCover then some (.noSemantics "XC")
  else none

/-- What the packet lacks of what the previous event asked for (R509 to R511). -/
def missingMarker (e : Expect) (is : List Instr) : Option Cause :=
  match e with
  | .none => none
  | .firstOfInt => none
  | .entryPair => if is.length = 2 ∧ is.contains .entry1Prot ∧ is.contains .entry2Prot then none else some .missingEntry
  | .exitMark => if is.contains .exitProt then none else some .missingExit
  | .isrPair => if is.contains .isr1Prot ∧ is.contains .isr2Prot then none else some .missingIsrPair

/-! ### Packet formation (R175) -/

/-- The bytes of `n` words of code at `a`. -/
def codeBytes (m : Memory) (a n : Nat) : List Byte := (List.range (2 * n)).map fun i => memByte m (a + i)

/-- Word 0 of the instruction at `a`. -/
def codeWord (m : Memory) (a : Nat) : Nat := bytesWord (memByte m a) (memByte m (a + 1))

/-- What the words at an address form: a packet and the address after it, nothing legal (R181, R504), or a fetch that the SSU denies
because no EXE range covers the address (R161, R515). -/
inductive Formed where
  | packet (is : List Instr) (fin : Nat)
  | undecodable
  | denied (addr : Nat)
  deriving DecidableEq, Repr

/-- Whether `n` words at `a` can be fetched: none, or the first address no EXE range covers (R161), or a stop. Code may lie in a region
of any kind, and a fetch from a peripheral reads the bytes of memory (log entry 38). -/
def fetchable (a n : Nat) (s : State) : Res (Option Nat) :=
  match n with
  | 0 => .next none
  | n + 1 =>
    if 4294967296 < a + 2 then .refused .pastTop
    else if linkOf s.cfg (BitVec.ofNat 32 a) = none then .next (some a)
    else if regionOf s.cfg (BitVec.ofNat 32 a) = none then .fault (.unmapped a)
    else if s.cur.stored.contains a || s.cur.stored.contains (a + 1) then .refused (.storedCode a)
    else fetchable (a + 2) n s

/-- An instruction before what follows it. -/
def Formed.cons (i : Instr) (f : Formed) : Formed :=
  match f with
  | .packet is fin => .packet (i :: is) fin
  | .undecodable => .undecodable
  | .denied a => .denied a

/-- Go on only where every word could be fetched. -/
def ifFetched (denied : Option Nat) (f : Res Formed) : Res Formed :=
  match denied with
  | some a => .next (.denied a)
  | none => f

/-- `form_packet` of R175: what the words at `a` form. `fuel` is how many instructions may still follow, `bits` how many are used. The
instructions are looked at in the order of their addresses, and the first that stops the formation is the one that decides: an A15 operand
before the end of a stream that forms no legal packet is refused. After eight instructions without a last one no legal packet is left, and
the ninth Word 0 is not fetched: where that fetch would be denied or stopped R175 does not say which of the two decides, and the model
takes the instruction timeout (log entry 60, DESIGN CHOICE). -/
def formPacket (fuel a bits : Nat) (s : State) : Res Formed :=
  match fuel with
  | 0 => .next .undecodable
  | fuel + 1 =>
    andThen (fetchable a 1 s) fun d0 => ifFetched d0 <|
      let w0 := codeWord s.cur.mem a
      let n := sizeWords w0
      if 128 < bits + 16 * n then .next .undecodable
      else andThen (fetchable a n s) fun d => ifFetched d <|
        match decode (codeBytes s.cur.mem a n) with
        | .error .stackPointer => .refused .spOperand
        | .error _ => .next .undecodable
        | .ok (i, _) =>
          if (fld w0 15 1 == 1) == s.cfg.ilinkLast then .next (.packet [i] (a + 2 * n))
          else andThen (formPacket fuel (a + 2 * n) (bits + 16 * n) s) fun f => .next (f.cons i)

/-- No legal packet: the instruction timeout (R504). A denied fetch is reported and is a ProtectionViolation (R515, decision D26), not the
timeout R161 derives (log entry 69). -/
def failFormation (f : Formed) (s : State) : State :=
  match f with
  | .packet _ _ => s
  | .undecodable => raise .instructionTimeout s
  | .denied a => raise .protectionViolation (emit (.accessError a) s)

/-! ### The end of a packet -/

/-- Each write of a faulting packet either happened or did not (R500). -/
def pick {α : Type} (k : Nat) (old new : α) : α := if Config.freeBit k then new else old

/-- The DSTS of a faulting packet, field by field. -/
def blurDsts (k : Nat) (p c : Dsts) : Dsts :=
  ⟨pick k p.flags c.flags, pick (k + 1) p.dbgm c.dbgm, pick (k + 2) p.clink c.clink, pick (k + 3) p.ta c.ta, pick (k + 4) p.inte c.inte,
    pick (k + 5) p.ints c.ints, pick (k + 6) p.prio c.prio, pick (k + 7) p.rlink c.rlink⟩

/-- The ESTS of a faulting packet, group by group. -/
def blurEsts (k : Nat) (p c : Ests) : Ests :=
  { pick k p c with
    flags := pick (k + 1) p.flags c.flags
    ov := pick (k + 2) p.ov c.ov
    ovneg := pick (k + 3) p.ovneg c.ovneg
    zf := pick (k + 4) p.zf c.zf
    nf := pick (k + 5) p.nf c.nf
    luf := pick (k + 6) p.luf c.luf
    lvf := pick (k + 7) p.lvf c.lvf
    tdm := pick (k + 8) p.tdm c.tdm }

/-- The state a fault leaves: each register, and memory, is the one of before the packet or the one after it (R500). -/
def blur (k : Nat) (p c : Arch) : Arch :=
  { c with
    a := Vector.ofFn fun i => pick (k + i.val) p.a[i] c.a[i]
    d := Vector.ofFn fun i => pick (k + 16 + i.val) p.d[i] c.d[i]
    m := Vector.ofFn fun i => pick (k + 32 + i.val) p.m[i] c.m[i]
    pc := pick (k + 64) p.pc c.pc
    rpc := pick (k + 65) p.rpc c.rpc
    ists := pick (k + 66) p.ists c.ists
    dsts := blurDsts (k + 67) p.dsts c.dsts
    ests := blurEsts (k + 75) p.ests c.ests
    secsp := Vector.ofFn fun i => pick (k + 84 + i.val) p.secsp[i] c.secsp[i]
    protStack := pick (k + 100) p.protStack c.protStack
    rtStack := pick (k + 101) p.rtStack c.rtStack
    intSaves := pick (k + 102) p.intSaves c.intSaves
    mem := pick (k + 103) p.mem c.mem
    stored := pick (k + 103) p.stored c.stored
    nmiPending := pick (k + 104) p.nmiPending c.nmiPending
    rtintPending := pick (k + 105) p.rtintPending c.rtintPending
    intPending := pick (k + 106) p.intPending c.intPending
    expect := pick (k + 107) p.expect c.expect
    pending := pick (k + 108) p.pending c.pending
    idle := pick (k + 109) p.idle c.idle }

/-- The packet is over: what it built is the state. Where it faulted each write happened or not (R500), but what it reported to the
outside stays reported (log entry 33). -/
def commit (s : State) : State :=
  match s.cur.fault with
  | none => { s with pre := s.cur, pkt := PacketCtx.empty }
  | some _ =>
    { s with cur := blur s.free s.pre s.cur, pre := blur s.free s.pre s.cur, pkt := PacketCtx.empty, free := s.free + 110 }

/-- The LINK of the packet about to execute (R57). Where no EXE range covers the program counter, and so no packet can execute, it stays
what it was (log entry 41). -/
def currLink (s : State) : LinkId := (linkOf s.cfg s.cur.pc).getD s.cur.ists.currlink

/-- The state before the packet or the entry at hand: CURRLINK follows the program counter (R57). -/
def openStep (s : State) : State :=
  let c := { s.cur with ists := { s.cur.ists with currlink := currLink s } }
  { s with cur := c, pre := c, pkt := PacketCtx.empty }

/-- The packet up to `fin` begins: the program counter is after it, nothing is expected of the next (R41, R542). -/
def openPacket (fin : Nat) (s : State) : State :=
  { s with
    cur := { s.cur with pc := BitVec.ofNat 32 fin, expect := .none }
    pkt := { PacketCtx.empty with seqPc := BitVec.ofNat 32 fin, wraps := decide (4294967296 ≤ fin) } }

/-- What a delayed discontinuity writes with its jump: RPC for a CALLD (R233), CURRSP for a RETI.RTINT (log entry 71). -/
def writeLate (late : Late) (s : State) : State :=
  match late with
  | .nothing => s
  | .rpc => writeRpc s.pkt.seqPc s
  | .currsp k => { s with cur := { s.cur with ists := { s.cur.ists with currsp := k } } }

/-- A delay slot has run (R262). The last one ends the discontinuity, with what it left to write. -/
def countDelay (s : State) : State :=
  match s.pre.pending with
  | none => s
  | some p =>
    if p.remaining ≤ 1 then
      writeLate p.late { s with cur := { s.cur with pc := p.target, pending := none }, pkt := { s.pkt with jumped := true } }
    else { s with cur := { s.cur with pending := some { p with remaining := p.remaining - 1 } } }

/-- The ATOMIC counter after a packet (R282). -/
def countAtomic (s : State) : State :=
  if s.pkt.atomicLoaded = true ∨ s.cur.ists.atomic = 0 then s
  else { s with cur := { s.cur with ists := { s.cur.ists with atomic := s.cur.ists.atomic - 1 } } }

/-- Running on into another LINK (R240, R514). Where no packet can be formed there, that cause is tested first (R516). -/
def linearCheck (s : State) : State :=
  match linkOf s.cfg s.cur.pc with
  | none => s
  | some l => if l = s.cur.ists.currlink then s else
    let t := raise .linearLinkCrossing <| match formPacket 8 s.cur.pc.toNat 0 s with
      | .next f => failFormation f s
      | .fault _ => s
      | .refused _ => s
    { t with pre := t.cur }

/-- The end of a packet: delay slots, the ATOMIC counter, the fault state, linear execution. A packet whose discontinuity is still
pending is followed by its first delay slot and counts as linear (R514, log entry 42). -/
def closePacket (s : State) : Res State :=
  if s.pkt.halted then .next (commit s)
  else
    let t := countAtomic (countDelay s)
    if t.cur.fault.isSome || t.pkt.jumped then .next (commit t)
    else if t.pkt.wraps then .refused .pastTop
    else .next (linearCheck (commit t))

/-- The packet ends in the FAULT state if one was raised in it (R500), whatever would stop it otherwise (log entry 35). -/
def unlessFaulted (s : State) (o : Res State) : Res State :=
  match s.cur.fault with
  | some _ => .next (commit s)
  | none => o

/-- The instructions of a packet one after another: each reads the state before the packet (R16). -/
def execAll (is : List Instr) (s : State) : Res State :=
  match is with
  | [] => .next s
  | i :: is => if s.pkt.halted then .next s else andThen (exec i s) fun s1 => execAll is s1

/-- When an instruction of a packet runs inside the model: EMUSTOP0 halts before the packet, the loads come before the store (decision
D12, R141), and a discontinuity that does not load comes last. Two loads keep the order they have in the packet, which R146 leaves open
(log entry 61). -/
def phaseOf (i : Instr) : Nat :=
  if i == .emustop0 then 0
  else match (profile i).disc, (profile i).loads, (profile i).stores with
    | false, _, 0 => 1
    | true, _ + 1, _ => 2
    | false, _, _ + 1 => 3
    | true, 0, _ => 4

/-- The order of execution inside the model. -/
def arrange (is : List Instr) : List Instr := (List.range 5).flatMap fun k => is.filter fun i => phaseOf i == k

/-- RET.PROT leaves the working registers free (R254), also one that the mode of a store of its packet writes. -/
def scrambleLate (is : List Instr) (s : State) : State :=
  if is.contains .retProt && is.any (fun i => decide (0 < (profile i).stores)) && !s.pkt.halted then scrambleWork s else s

/-- Whether the signed result of a Dx sum does not fit, so that D.OV and D.OVNEG are unspecified after it (R453). -/
def overflows (i : Instr) (s : State) : Bool :=
  match i with
  | .addImm .d _ y imm => addOverflows (readD y s) (zext32 imm)
  | .addReg .d _ y x => addOverflows (readD y s) (readD x s)
  | .subImm .d _ y imm => subOverflows (readD y s) (zext32 imm)
  | .subReg .d _ y x =>
    match s.cfg.subOrder with
    | .yMinusX => subOverflows (readD y s) (readD x s)
    | .xMinusY => subOverflows (readD x s) (readD y s)
  | _ => false

/-- D.OV and D.OVNEG become free values. -/
def freeOverflow (s : State) : State :=
  spend 2 { s with cur := { s.cur with ests := { s.cur.ests with ov := drawBit 0 s, ovneg := drawBit 1 s } } }

/-- M.LUF and M.LVF become free values. -/
def freeFp (s : State) : State :=
  spend 2 { s with cur := { s.cur with ests := { s.cur.ests with luf := drawBit 0 s, lvf := drawBit 1 s } } }

/-- The sticky flags after a packet that also writes ESTS as a whole: those a sum that does not fit or a floating-point operation leaves
unspecified are free, the others hold what was written (R73, R453, R468, log entry 76). -/
def stickyLate (is : List Instr) (s : State) : State :=
  if is.any (fun i => (profile i).dests.contains .ests) && !s.pkt.halted then
    let s1 := if is.any fun i => overflows i s then freeOverflow s else s
    if is.any fun i => (profile i).dests.contains .fpFlags then freeFp s1 else s1
  else s

/-- The marker check of R509 to R511; a packet before which EMUSTOP0 halts is not executed yet. -/
def checkMarker (is : List Instr) (s : State) : State :=
  if is.contains .emustop0 && breakArmed s then s
  else match missingMarker s.cur.expect is with
    | some c => raise c s
    | none => s

/-- Execute a formed packet that ends at `fin`. -/
def runFormed (is : List Instr) (fin : Nat) (s : State) : Res State :=
  let s1 := checkMarker is s
  match packetRefusal is s with
  | some r => unlessFaulted s1 (.refused r)
  | none => andThen (execAll (arrange is) (openPacket fin s1)) fun t => closePacket (stickyLate is (scrambleLate is t))

/-- Execute the packet at the program counter (R13). `ecc` is the environment's double-bit error (R503). A packet that cannot be fetched
for a reason outside the contract stops the model, unless that error has been raised; a marker it may lack is not looked at
(log entry 35). -/
def runPacket (ecc : Bool) (s : State) : Res State :=
  let s0 := raiseIf ecc .eccDoubleBit (openStep s)
  if s.cur.pc.toNat % 2 = 1 then unlessFaulted s0 (.refused (.oddPc s.cur.pc.toNat))
  else match formPacket 8 s.cur.pc.toNat 0 s0 with
    | .next (.packet is fin) => runFormed is fin s0
    | .next f => .next (commit (failFormation f (checkMarker [] s0)))
    | .fault r => unlessFaulted s0 (.fault r)
    | .refused r => unlessFaulted s0 (.refused r)

end Sys2Proof.Machine
end

