-- ==== Sys2Proof/Machine/Interrupts.lean ====
section
/-! DEFINITION. The packet boundary: the environment's events, reset, the debugger, and which interrupt enters (60_exceptions.md). -/

namespace Sys2Proof.Machine

/-! ### Events of the environment -/

/-- NMI asserted (R520). -/
def latchNmi (s : State) : State :=
  { s with cur := { s.cur with nmiPending := true, ists := { s.cur.ists with nmif := true } } }

/-- RTINT asserted (R520): a latch holds one instance (R101). -/
def latchRtint (q : RtRequest) (s : State) : State :=
  { s with cur := { s.cur with
      rtintPending := some (s.cur.rtintPending.getD q)
      ists := { s.cur.ists with rtintf := true } } }

/-- INT asserted (R520). -/
def latchInt (q : IntRequest) (s : State) : State :=
  { s with cur := { s.cur with
      intPending := some (s.cur.intPending.getD q)
      ists := { s.cur.ists with intf := true } } }

/-- Another bus master, or the debugger (R582), writes a byte of memory (R142, decision D35). The byte counts as stored by the program
if it did before (R152, log entry 36). -/
def busWrite (a : Word) (v : Byte) (s : State) : State :=
  match regionOf s.cfg a with
  | none => s
  | some .peripheral => s
  | some _ => { s with cur := { s.cur with mem := s.cur.mem.put a.toNat v } }

/-- A debugger command changes the execution state, if a debugger is connected. -/
def dbgCommand (m : DebugMode) (s : State) : State :=
  if s.dbg.connected then { s with dbg := { s.dbg with mode := m } } else s

/-- The debugger moves the program counter. CURRSP follows it to the STACK of the code there, as R55 has it of every packet that executes.
R582 does not say what becomes of a marker still expected, as after a halt at an EMUSTOP0 in the first packet of a handler: `expect` stays,
so the packet at the new address is checked for it (log entry 55, DESIGN CHOICE). -/
def dbgMovePc (v : Word) (s : State) : State :=
  { s with cur := { s.cur with pc := v, ists := { s.cur.ists with currsp := stackAt s.cfg v s.cur.ists.currsp } } }

/-- The debugger writes a register: as it stands, or for a status register as software would. An odd program counter is not taken (R42,
log entry 55). -/
def dbgWriteReg (r : DebugReg) (v : Word) (s : State) : State :=
  match r with
  | .reg x => writeReg x v s
  | .pc => if v.toNat % 2 = 0 then dbgMovePc v s else s
  | .rpc => writeRpc v s
  | .status q => writeStatus q v s

/-- Whether the SSU lets a debug access through now (R165): to the byte of memory at `a`, or to a register of the CPU, which is at code of
the ZONE of its STACK (R562). -/
def debugAllowed (a : Option Word) (s : State) : Bool :=
  Config.ssuAllowsDebug s.free (zoneOf s.cfg (stackOf s.cfg (currLink s))) a

/-- The debugger accesses a register of the halted CPU (R582), or memory at any time (R142), if one is connected and the SSU allows it
(R165). Its reads change nothing. The security settings may change from one access to the next (log entry 55). -/
def dbgAccess (a : Option Word) (f : State → State) (s : State) : State :=
  if s.dbg.connected && (a.isSome || s.dbg.mode == .halt) then spend 1 (if debugAllowed a s then f s else s) else s

/-- A halt request (R582). One that meets the CPU already in the debug-halt state has no effect (log entry 55). -/
def requestHalt (s : State) : State :=
  if s.dbg.connected && s.dbg.mode != .halt then { s with dbg := { s.dbg with haltPending := true } } else s

/-- One event. `reset` and `eccDoubleBit` act on the whole step. The debugger can give a run or step command only from a halt (R583 to R586). -/
def applyEvent (e : Event) (s : State) : State :=
  match e with
  | .reset => s
  | .eccDoubleBit => s
  | .nmi => latchNmi s
  | .rtint v p => latchRtint ⟨v, p⟩ s
  | .int v p b => latchInt ⟨v, p, b⟩ s
  | .busWrite a v => busWrite a v s
  | .setIntsp v => { s with cur := { s.cur with ists := { s.cur.ists with intsp := v } } }
  | .setWarnPsp n => { s with cur := { s.cur with warnPsp := n } }
  | .setWarnRtisp n => { s with cur := { s.cur with warnRtisp := n } }
  | .setSecsp i v => { s with cur := { s.cur with secsp := s.cur.secsp.set i v } }
  | .dbgConnect on => { s with dbg := if on then { s.dbg with connected := true } else Debug.off }
  | .dbgHalt => requestHalt s
  | .dbgRun => if s.dbg.mode = .halt then dbgCommand .run s else s
  | .dbgFreeRun => if s.dbg.mode = .halt then dbgCommand .freeRun s else s
  | .dbgStep dint => if s.dbg.mode = .halt then dbgCommand (.singleStep dint) s else s
  | .dbgSyncRun => if s.dbg.mode = .halt then dbgCommand .waitSync s else s
  | .dbgSync => if s.dbg.mode = .waitSync then dbgCommand .run s else s
  | .dbgWrite r v => dbgAccess none (dbgWriteReg r v) s
  | .dbgWriteMem a v => dbgAccess (some a) (busWrite a v) s

/-- The events of the batch, in order. -/
def applyEvents (es : List Event) (s : State) : State :=
  match es with
  | [] => s
  | e :: es => applyEvents es (applyEvent e s)

/-- The batch of events that arrive before this step. -/
def nextBatch (s : State) : List Event := s.inputs.headD []

/-- The batch is consumed. In the FAULT state only reset has an effect (R500). -/
def deliver (s : State) : State :=
  let t := { s with inputs := s.inputs.tail }
  match s.cur.fault with
  | some _ => t
  | none => applyEvents (nextBatch s) t

/-- The state outside a packet: `pre` follows `cur`. -/
def settle (s : State) : State := { s with pre := s.cur, pkt := PacketCtx.empty }

/-! ### Reset (R600) -/

/-- Reset is ignored in the debug-halt state and in a single step without DINT (R582, R583); it leaves the FAULT state whatever the
debugger did before (R500, R600). -/
def resetHonoured (s : State) : Bool :=
  s.cur.fault.isSome || match s.dbg.mode with
  | .run => true
  | .freeRun => true
  | .singleStep dint => dint
  | .halt => false
  | .waitSync => false

/-- What the packet in flight at a reset would leave, where it would complete. A CPU in FAULT or idle has no packet in flight. -/
def inFlight (s : State) : Option State :=
  if s.cur.fault.isSome || s.cur.idle then none
  else match runPacket false s with
    | .next t => some t
    | .fault _ => none
    | .refused _ => none

/-- Memory at a reset. R600 leaves the effects of the packet in flight open; the model's choice (log entry 56, DESIGN CHOICE) is that its
store has landed whole or not at all, by a free bit that the packet itself has not drawn, and that memory is exactly as before the packet where that
packet would itself be refused or stop at an unmapped address. -/
def memAtReset (s : State) : Memory :=
  match inFlight s with
  | some t => if drawBit 0 t then t.cur.mem else s.cur.mem
  | none => s.cur.mem

/-- The draw counter after a reset: past every value that the packet in flight has drawn, and past the bit of `memAtReset`, so that no value
drawn after the reset is one that the packet may have left in memory (R600, log entry 56). -/
def freeAtReset (s : State) : Nat :=
  match inFlight s with
  | some t => t.free + 1
  | none => s.free + 1

/-- Reset: every piece of state takes its value of R110; memory stays (R600, R601). The packet cut short has reached no peripheral: the
model reports no read or write of it (R14, log entry 56). -/
def takeReset (s : State) : State :=
  let c := { Arch.reset s.cfg with mem := memAtReset s }
  { s with cur := c, pre := c, pkt := PacketCtx.empty, free := freeAtReset s }

/-! ### Which interrupt enters (R521 to R556) -/

/-- `blocked_by_pipeline` of R525: rows 2, 4, 5 and 6. -/
def blocked (c : Arch) : Bool := c.pending.isSome || c.expect != .none

/-- Whether the debug state lets interrupts in (R582, R583). -/
def servicesInterrupts (m : DebugMode) : Bool :=
  match m with
  | .run => true
  | .freeRun => true
  | .singleStep dint => dint
  | .halt => false
  | .waitSync => false

/-- `rtint_allowed` (R540). -/
def rtintAllowed (c : Arch) : Bool := c.ists.atomic == 0 && c.dsts.ints != .nmi

/-- `int_allowed` (R530). -/
def intAllowed (q : IntRequest) (c : Arch) : Bool :=
  (c.dsts.inte || q.supervisor) && c.ists.atomic == 0 && c.ists.currsp == c.ists.intsp
    && (c.dsts.ints == .main || c.dsts.ints == .int)

/-- What happens at a packet boundary (R521). -/
inductive Choice where
  | packet
  | nmi
  | rtint (q : RtRequest)
  | int (q : IntRequest)
  deriving DecidableEq, Repr

/-- An INT, if one is pending and allowed. -/
def chooseInt (c : Arch) : Choice :=
  match c.intPending with
  | some q => if intAllowed q c then .int q else .packet
  | none => .packet

/-- The boundary of R521: NMI over RTINT over INT. -/
def choose (c : Arch) : Choice :=
  if blocked c then .packet
  else if c.nmiPending && c.dsts.ints != .nmi then .nmi
  else match c.rtintPending with
    | some q => if rtintAllowed c then .rtint q else chooseInt c
    | none => chooseInt c

/-- The packet at the program counter, or nothing while idle (R295). -/
def runOrIdle (ecc : Bool) (s : State) : Res State := if s.cur.idle then .next (settle s) else runPacket ecc s

/-- Whether the packet at the program counter holds a software breakpoint that halts: a debug event goes before an interrupt (R584). -/
def stopsAtBreak (s : State) : Bool :=
  breakArmed s && !s.cur.idle && s.cur.pc.toNat % 2 == 0 && match formPacket 8 s.cur.pc.toNat 0 (openStep s) with
    | .next (.packet is _) => is.contains .emustop0
    | _ => false

/-- One boundary step of a running CPU. -/
def boundary (ecc : Bool) (s : State) : Res State :=
  if !servicesInterrupts s.dbg.mode || stopsAtBreak s then runOrIdle ecc s
  else match choose s.cur with
    | .nmi => andThen (enterRealtime true s.cfg.nmiVector 0 (openStep s)) fun t => .next (commit (rtispWarn t))
    | .rtint q => andThen (enterRealtime false q.vector q.prio (openStep s)) fun t => .next (commit (rtintLimits (rtispWarn t)))
    | .int q => andThen (enterInt q (openStep s)) fun t => .next (commit t)
    | .packet => runOrIdle ecc s

/-! ### The debugger (R580 to R587) -/

/-- A break event is honoured in the run state (R584), at an interrupt boundary, before any interrupt (R581), unless DBGM holds it
off (R63). A single step executes its packet first and ends in the debug-halt state anyway (R583), and a CPU that runs free ignores
the event (R585). -/
def haltNow (s : State) : Bool :=
  s.dbg.connected && s.dbg.haltPending && s.dbg.mode == .run && !blocked s.cur && Config.dbgmAllows s.cur.dsts.dbgm

/-- Enter the debug-halt state (R582); a debug halt ends an IDLE (R295). -/
def enterHalt (s : State) : State :=
  settle { s with dbg := { s.dbg with mode := .halt, haltPending := false }, cur := { s.cur with idle := false } }

/-- A single step runs from one interrupt boundary to the next (R583), and back in the debug-halt state no IDLE is in force, as at any
debug halt (R295, log entry 55). A faulting step ends in the FAULT state instead (R500). -/
def afterStep (s : State) : State :=
  match s.dbg.mode with
  | .singleStep _ => if s.cur.fault.isSome || blocked s.cur then s else enterHalt s
  | .run => s
  | .freeRun => s
  | .halt => s
  | .waitSync => s

/-- A step of a CPU that is neither in the FAULT state nor being reset. -/
def runStep (ecc : Bool) (s : State) : Res State :=
  match s.dbg.mode with
  | .halt => .next (settle s)
  | .waitSync => .next (settle s)
  | _ => if haltNow s then .next (enterHalt s) else andThen (boundary ecc s) fun t => .next (afterStep t)

/-- A step after the events of `es` have arrived (R13, R521, R600). A configuration the spec rules out is refused (R602). A reset that
arrives with a halt request is taken first, and the CPU halts at RESET_PC (R584, R600, log entry 56). -/
def stepAfter (es : List Event) (s : State) : Res State :=
  if !s.cfg.wf then .refused .configuration
  else if es.contains .reset && resetHonoured s then .next (takeReset s)
  else if s.cur.fault.isSome then .next (settle s)
  else runStep (es.contains .eccDoubleBit) s

end Sys2Proof.Machine
end

