-- ==== Sys2Proof/Machine/Step.lean ====
section
/-! DEFINITION. One step of the machine, and how an instruction is placed for it. -/

namespace Sys2Proof.Machine

/-- One step: the environment's events arrive, then the CPU does one of the things of R13. -/
def step (s : State) : Host.Outcome State Fault Refusal := stepAfter (nextBatch s) (deliver s)

/-- `s` with the instruction of bits `w` (`nbits` of them) stored at the program counter, as a packet of its own: `ILINK_LAST` is
set to the I_Link bit of `w`. -/
def State.withFetchWord (s : State) (nbits w : Nat) : State :=
  { s with
    cur := placeCode (tableBytes nbits w) s.cur
    pre := placeCode (tableBytes nbits w) s.pre
    cfg := { s.cfg with ilinkLast := ilinkOf (w % 2 ^ nbits) } }

end Sys2Proof.Machine
end

