-- ==== Sys2Proof/Safety.lean ====
section
/-! DEFINITION. The terms claims are stated in: when an access is in order, what a register or a byte of memory holds, and what
an instruction leaves alone. -/

namespace Sys2Proof.Machine

/-- A load of `n` bytes at `a` completes: aligned (R130), permitted (R160), mapped to memory (R122). -/
def readOk (a : Word) (n : Nat) (s : State) : Prop :=
  a.toNat % n = 0 ∧ apAllows s.cfg false s.pre.ists.currlink s.pre.dsts.clink a = true
    ∧ ∃ k, regionOf s.cfg a = some k ∧ k ≠ .peripheral

/-- The address lies in memory that a store changes for certain (R122). -/
def writable (c : Params) (a : Word) : Prop := regionOf c a = some .ram ∨ regionOf c a = some .emif0 ∨ regionOf c a = some .emif1

/-- A store of `n` bytes at `a` completes: aligned, permitted, mapped to writable memory. -/
def writeOk (a : Word) (n : Nat) (s : State) : Prop :=
  a.toNat % n = 0 ∧ apAllows s.cfg true s.pre.ists.currlink s.pre.dsts.clink a = true ∧ writable s.cfg a

/-- Code of LINK `l` may store to each of the `n` bytes at `a`, and each is writable memory. -/
def frameOk (a : Word) (n : Nat) (l : LinkId) (s : State) : Prop :=
  ∀ k < n, apAllows s.cfg true l s.cur.dsts.clink (a + BitVec.ofNat 32 k) = true ∧ writable s.cfg (a + BitVec.ofNat 32 k)

/-- The byte of memory at `a + k`, before the packet. -/
def oldByte (s : State) (a : Word) (k : Nat) : Byte := memByte s.pre.mem (a.toNat + k)

/-- The halfword at `a`, little-endian, before the packet (R126). -/
def oldHalf (s : State) (a : Word) : Half := oldByte s a 1 ++ oldByte s a 0

/-- The word at `a`, little-endian, before the packet (R126). -/
def oldWord (s : State) (a : Word) : Word := (oldByte s a 3 ++ oldByte s a 2) ++ (oldByte s a 1 ++ oldByte s a 0)

/-- The byte of memory at `a + k` that the packet has built so far. -/
def newByte (t : State) (a : Word) (k : Nat) : Byte := memByte t.cur.mem (a.toNat + k)

/-- The word at `a` that the packet has built so far. -/
def newWord (t : State) (a : Word) : Word := (newByte t a 3 ++ newByte t a 2) ++ (newByte t a 1 ++ newByte t a 0)

/-- The value of a register that the packet has built so far. -/
def curReg (t : State) (r : Reg) : Word :=
  match r with
  | .a i => t.cur.a[i]
  | .d i => t.cur.d[i]
  | .m i => t.cur.m[i]

/-- Every working register outside `l` is as it was. -/
def keepsRegs (l : List Reg) (s t : State) : Prop := ∀ r, r ∉ l → curReg t r = curReg s r

/-- Every byte of memory is as it was, and no byte counts as newly stored. -/
def keepsMemory (s t : State) : Prop :=
  (∀ a, memByte t.cur.mem a = memByte s.cur.mem a) ∧ t.cur.stored = s.cur.stored

/-- Every byte of memory outside the `n` bytes at `a` is as it was. -/
def keepsMemoryBut (a : Word) (n : Nat) (s t : State) : Prop :=
  ∀ b, b % 4294967296 ∉ byteAddrs a.toNat n → memByte t.cur.mem b = memByte s.cur.mem b

/-- DSTS and ESTS are as they were. -/
def keepsStatus (s t : State) : Prop := t.cur.dsts = s.cur.dsts ∧ t.cur.ests = s.cur.ests

/-- The interrupt and stack registers, the latches, the fault indicator and the parts of the machine outside the architectural state
are as they were. -/
def keepsSystem (s t : State) : Prop :=
  t.cur.secsp = s.cur.secsp ∧ t.cur.protStack = s.cur.protStack ∧ t.cur.rtStack = s.cur.rtStack
    ∧ t.cur.intSaves = s.cur.intSaves ∧ t.cur.warnPsp = s.cur.warnPsp ∧ t.cur.warnRtisp = s.cur.warnRtisp
    ∧ t.cur.nmiPending = s.cur.nmiPending ∧ t.cur.rtintPending = s.cur.rtintPending ∧ t.cur.intPending = s.cur.intPending
    ∧ t.cur.xcCover = s.cur.xcCover ∧ t.cur.fault = s.cur.fault
    ∧ t.pre = s.pre ∧ t.cfg = s.cfg ∧ t.dbg = s.dbg ∧ t.inputs = s.inputs

/-- The program counter, a pending discontinuity, the expectation, the idle state and the packet's own marks are as they were. -/
def keepsFlow (s t : State) : Prop :=
  t.cur.pc = s.cur.pc ∧ t.cur.pending = s.cur.pending ∧ t.cur.expect = s.cur.expect ∧ t.cur.idle = s.cur.idle ∧ t.pkt = s.pkt

/-- Only the working registers in `l` may have changed. -/
def onlyRegs (l : List Reg) (s t : State) : Prop :=
  keepsRegs l s t ∧ keepsMemory s t ∧ keepsStatus s t ∧ t.cur.rpc = s.cur.rpc ∧ t.cur.ists = s.cur.ists
    ∧ keepsSystem s t ∧ keepsFlow s t

/-- Only the working registers in `l` and the `n` bytes at `a` may have changed. -/
def onlyRegsAndBytes (l : List Reg) (a : Word) (n : Nat) (s t : State) : Prop :=
  keepsRegs l s t ∧ keepsMemoryBut a n s t ∧ keepsStatus s t ∧ t.cur.rpc = s.cur.rpc ∧ t.cur.ists = s.cur.ists
    ∧ keepsSystem s t ∧ keepsFlow s t

/-- The register an operand's mode writes, if any. -/
def sideRegs (e : EffAddr) : List Reg := (e.side.map fun w => Reg.a w.1).toList

/-- The mode's register holds its new value. -/
def sideDone (e : EffAddr) (t : State) : Prop := ∀ w, e.side = some w → t.cur.a[w.1] = w.2

/-- Byte `k` of a value, little-endian (R126). -/
def byteOf (v : DWord) (k : Nat) : Byte := (v >>> (8 * k)).setWidth 8

/-- The outcome is a load: register `r` holds `v`, the mode's register its new value, nothing else changes. -/
def LoadsTo (o : Res State) (r : Reg) (v : Word) (e : EffAddr) (s : State) : Prop :=
  ∃ t, o = .next t ∧ curReg t r = v ∧ sideDone e t ∧ onlyRegs (r :: sideRegs e) s t

/-- The outcome is a store: the `n` bytes at the operand hold `v` and count as stored, the mode's register holds its new value,
nothing else changes. -/
def StoresTo (o : Res State) (n : Nat) (v : DWord) (e : EffAddr) (s : State) : Prop :=
  ∃ t, o = .next t ∧ (∀ k < n, newByte t e.addr k = byteOf v k)
    ∧ (∀ b, b ∈ t.cur.stored ↔ b ∈ s.cur.stored ∨ b ∈ byteAddrs e.addr.toNat n)
    ∧ sideDone e t ∧ onlyRegsAndBytes (sideRegs e) e.addr n s t

/-- The outcome is that one register holds `v` and nothing else changes. -/
def SetsReg (o : Res State) (r : Reg) (v : Word) (s : State) : Prop :=
  ∃ t, o = .next t ∧ curReg t r = v ∧ onlyRegs [r] s t

/-- The outcome is a 64-bit load: the even register holds the word at the operand's address, the odd one the word four bytes up (R127). -/
def LoadsPairTo (o : Res State) (x : XReg) (e : EffAddr) (s : State) : Prop :=
  ∃ t, o = .next t ∧ curReg t (lowReg x) = oldWord s e.addr ∧ curReg t (highReg x) = oldWord s (e.addr + 4)
    ∧ sideDone e t ∧ onlyRegs (lowReg x :: highReg x :: sideRegs e) s t

/-- The outcome is a copy: the `n` bytes at `dst` hold what those at `src` held before the packet, both side effects land, nothing
else changes. -/
def MovesTo (o : Res State) (n : Nat) (dst src : EffAddr) (s : State) : Prop :=
  ∃ t, o = .next t ∧ (∀ k < n, newByte t dst.addr k = oldByte s src.addr k) ∧ sideDone dst t ∧ sideDone src t
    ∧ onlyRegsAndBytes (sideRegs dst ++ sideRegs src) dst.addr n s t

/-- The outcome is a next state in which the fault is `c`. -/
def RaisesIn (o : Res State) (c : Cause) : Prop := ∃ t, o = .next t ∧ t.cur.fault = some c

/-- The outcome raises the fault `c` and leaves memory alone. -/
def FaultsWith (o : Res State) (c : Cause) (s : State) : Prop := ∃ t, o = .next t ∧ t.cur.fault = some c ∧ keepsMemory s t

/-- A load: its width in bytes, its operand, the registers it loads, the instruction. -/
structure LoadForm where
  width : Nat
  operand : EffAddr
  dests : List Reg
  instr : Instr
  deriving DecidableEq, Repr

/-- A store: its width in bytes, its operand, the value it stores, the instruction. -/
structure StoreForm where
  width : Nat
  operand : EffAddr
  value : DWord
  instr : Instr
  deriving DecidableEq, Repr

/-- A copy from memory to memory: its width in bytes, its two operands, the instruction. -/
structure CopyForm where
  width : Nat
  dst : EffAddr
  src : EffAddr
  instr : Instr
  deriving DecidableEq, Repr

/-- Every load of a register or a pair, in every form (R375 to R386). -/
def registerLoads (r : Reg) (x : XReg) (m : Addr1) (g : Addr2) (a : Word) (b : Fin 16) (off : BitVec 28) (s : State) : List LoadForm :=
  [⟨4, evalAddr1 m s, [r], .ld32Addr1 r m⟩, ⟨2, evalAddr1 m s, [r], .ldS16Addr1 r m⟩,
    ⟨1, evalAddr1 m s, [r], .ldS8Addr1 r m⟩, ⟨2, evalAddr1 m s, [r], .ldU16Addr1 r m⟩,
    ⟨1, evalAddr1 m s, [r], .ldU8Addr1 r m⟩, ⟨1, evalAddr1 m s, [r], .ldB0Addr1 r m⟩,
    ⟨1, evalAddr1 m s, [r], .ldB1Addr1 r m⟩, ⟨1, evalAddr1 m s, [r], .ldB2Addr1 r m⟩,
    ⟨1, evalAddr1 m s, [r], .ldB3Addr1 r m⟩, ⟨2, evalAddr1 m s, [r], .ldW0Addr1 r m⟩,
    ⟨2, evalAddr1 m s, [r], .ldW1Addr1 r m⟩, ⟨8, evalAddr1 m s, [lowReg x, highReg x], .ld64Addr1 x m⟩,
    ⟨4, evalAddr2 g 4 s, [r], .ld32Addr2 r g⟩, ⟨8, evalAddr2 g 8 s, [lowReg x, highReg x], .ld64Addr2 x g⟩] ++
  [⟨4, evalDirect a, [r], .ld32Dirm r a⟩, ⟨2, evalDirect a, [r], .ldS16Dirm r a⟩, ⟨1, evalDirect a, [r], .ldS8Dirm r a⟩,
    ⟨2, evalDirect a, [r], .ldU16Dirm r a⟩, ⟨1, evalDirect a, [r], .ldU8Dirm r a⟩, ⟨1, evalDirect a, [r], .ldB0Dirm r a⟩,
    ⟨1, evalDirect a, [r], .ldB1Dirm r a⟩, ⟨1, evalDirect a, [r], .ldB2Dirm r a⟩, ⟨1, evalDirect a, [r], .ldB3Dirm r a⟩,
    ⟨2, evalDirect a, [r], .ldW0Dirm r a⟩, ⟨2, evalDirect a, [r], .ldW1Dirm r a⟩,
    ⟨8, evalDirect a, [lowReg x, highReg x], .ld64Dirm x a⟩, ⟨4, evalIndexed b off s, [r], .ld32DirmIx r b off⟩,
    ⟨2, evalIndexed b off s, [r], .ldS16DirmIx r b off⟩] ++
  [⟨1, evalIndexed b off s, [r], .ldS8DirmIx r b off⟩, ⟨2, evalIndexed b off s, [r], .ldU16DirmIx r b off⟩,
    ⟨1, evalIndexed b off s, [r], .ldU8DirmIx r b off⟩, ⟨1, evalIndexed b off s, [r], .ldB0DirmIx r b off⟩,
    ⟨1, evalIndexed b off s, [r], .ldB1DirmIx r b off⟩, ⟨1, evalIndexed b off s, [r], .ldB2DirmIx r b off⟩,
    ⟨1, evalIndexed b off s, [r], .ldB3DirmIx r b off⟩, ⟨2, evalIndexed b off s, [r], .ldW0DirmIx r b off⟩,
    ⟨2, evalIndexed b off s, [r], .ldW1DirmIx r b off⟩,
    ⟨8, evalIndexed b off s, [lowReg x, highReg x], .ld64DirmIx x b off⟩]

/-- The loads of DSTS, ESTS and RPC (R301, R305). -/
def systemLoads (q : StatusReg) (m : Addr1) (a : Word) (s : State) : List LoadForm :=
  [⟨4, evalAddr1 m s, [], .statusOp (.load q m)⟩, ⟨4, evalDirect a, [], .ldRpc a⟩]

/-- Every store of a register, a pair, an immediate or a status register, in every form (R390 to R399, R305). -/
def allStores (r : Reg) (x : XReg) (q : StatusReg) (h : Half) (v : Byte)
    (m : Addr1) (g : Addr2) (a : Word) (b : Fin 16) (off : BitVec 28) (s : State) : List StoreForm :=
  [⟨4, evalAddr1 m s, (readReg r s).setWidth 64, .st32Addr1 m r⟩,
    ⟨1, evalAddr1 m s, ((readReg r s).extractLsb' 0 8).setWidth 64, .stB0Addr1 m r⟩,
    ⟨1, evalAddr1 m s, ((readReg r s).extractLsb' 8 8).setWidth 64, .stB1Addr1 m r⟩,
    ⟨1, evalAddr1 m s, ((readReg r s).extractLsb' 16 8).setWidth 64, .stB2Addr1 m r⟩,
    ⟨1, evalAddr1 m s, ((readReg r s).extractLsb' 24 8).setWidth 64, .stB3Addr1 m r⟩,
    ⟨2, evalAddr1 m s, ((readReg r s).extractLsb' 0 16).setWidth 64, .stW0Addr1 m r⟩,
    ⟨2, evalAddr1 m s, ((readReg r s).extractLsb' 16 16).setWidth 64, .stW1Addr1 m r⟩,
    ⟨8, evalAddr1 m s, readReg (highReg x) s ++ readReg (lowReg x) s, .st64Addr1 m x⟩,
    ⟨4, evalAddr2 g 4 s, (readReg r s).setWidth 64, .st32Addr2 g r⟩,
    ⟨8, evalAddr2 g 8 s, readReg (highReg x) s ++ readReg (lowReg x) s, .st64Addr2 g x⟩,
    ⟨4, evalDirect a, (readReg r s).setWidth 64, .st32Dirm a r⟩,
    ⟨1, evalDirect a, ((readReg r s).extractLsb' 0 8).setWidth 64, .stB0Dirm a r⟩,
    ⟨1, evalDirect a, ((readReg r s).extractLsb' 8 8).setWidth 64, .stB1Dirm a r⟩,
    ⟨1, evalDirect a, ((readReg r s).extractLsb' 16 8).setWidth 64, .stB2Dirm a r⟩] ++
  [⟨1, evalDirect a, ((readReg r s).extractLsb' 24 8).setWidth 64, .stB3Dirm a r⟩,
    ⟨2, evalDirect a, ((readReg r s).extractLsb' 0 16).setWidth 64, .stW0Dirm a r⟩,
    ⟨2, evalDirect a, ((readReg r s).extractLsb' 16 16).setWidth 64, .stW1Dirm a r⟩,
    ⟨8, evalDirect a, readReg (highReg x) s ++ readReg (lowReg x) s, .st64Dirm a x⟩,
    ⟨4, evalIndexed b off s, (readReg r s).setWidth 64, .st32DirmIx b off r⟩,
    ⟨1, evalIndexed b off s, ((readReg r s).extractLsb' 0 8).setWidth 64, .stB0DirmIx b off r⟩,
    ⟨1, evalIndexed b off s, ((readReg r s).extractLsb' 8 8).setWidth 64, .stB1DirmIx b off r⟩,
    ⟨1, evalIndexed b off s, ((readReg r s).extractLsb' 16 8).setWidth 64, .stB2DirmIx b off r⟩,
    ⟨1, evalIndexed b off s, ((readReg r s).extractLsb' 24 8).setWidth 64, .stB3DirmIx b off r⟩,
    ⟨2, evalIndexed b off s, ((readReg r s).extractLsb' 0 16).setWidth 64, .stW0DirmIx b off r⟩,
    ⟨2, evalIndexed b off s, ((readReg r s).extractLsb' 16 16).setWidth 64, .stW1DirmIx b off r⟩,
    ⟨8, evalIndexed b off s, readReg (highReg x) s ++ readReg (lowReg x) s, .st64DirmIx b off x⟩,
    ⟨2, evalAddr1 m s, h.setWidth 64, .st16Addr1 m h⟩, ⟨1, evalAddr1 m s, v.setWidth 64, .st8Addr1 m v⟩] ++
  [⟨2, evalAddr2 g 2 s, h.setWidth 64, .st16Addr2 g h⟩, ⟨1, evalAddr2 g 1 s, v.setWidth 64, .st8Addr2 g v⟩,
    ⟨4, evalAddr1 m s, (readStatus q s).setWidth 64, .statusOp (.store q m)⟩]

/-- Every read-modify-write, with the value it leaves in memory (R411 to R419). -/
def allUpdates (h : Half) (v : Byte) (m : Addr1) (s : State) : List StoreForm :=
  [⟨2, evalAddr1 m s, (oldHalf s (evalAddr1 m s).addr ||| h).setWidth 64, .or16Addr1 m h⟩,
    ⟨1, evalAddr1 m s, (oldByte s (evalAddr1 m s).addr 0 ||| v).setWidth 64, .or8Addr1 m v⟩,
    ⟨2, evalAddr1 m s, (oldHalf s (evalAddr1 m s).addr &&& h).setWidth 64, .and16Addr1 m h⟩,
    ⟨1, evalAddr1 m s, (oldByte s (evalAddr1 m s).addr 0 &&& v).setWidth 64, .and8Addr1 m v⟩,
    ⟨2, evalAddr1 m s, (oldHalf s (evalAddr1 m s).addr ^^^ h).setWidth 64, .xor16Addr1 m h⟩,
    ⟨1, evalAddr1 m s, (oldByte s (evalAddr1 m s).addr 0 ^^^ v).setWidth 64, .xor8Addr1 m v⟩]

/-- Every copy from memory to memory (R402 to R404). -/
def allCopies (d m : Addr1) (k j : Addr3) (s : State) : List CopyForm :=
  [⟨1, evalAddr1 d s, evalAddr1 m s, .mv8Addr1 d m⟩, ⟨2, evalAddr1 d s, evalAddr1 m s, .mv16Addr1 d m⟩,
    ⟨4, evalAddr1 d s, evalAddr1 m s, .mv32Addr1 d m⟩, ⟨8, evalAddr1 d s, evalAddr1 m s, .mv64Addr1 d m⟩,
    ⟨4, evalAddr3 k s, evalAddr3 j s, .mv32Addr3 k j⟩]

/-- The outcome is a refused access to `a`: ProtectionViolation and an error report, the access not performed (R515). -/
def Denied (o : Res State) (a : Word) (s : State) : Prop :=
  ∃ t, o = .next t ∧ t.cur.fault = some .protectionViolation ∧ Output.accessError a.toNat ∈ t.outputs ∧ keepsMemory s t

/-- The outcome is a store that may or may not have changed its `n` bytes, which count as stored in any case (R152). -/
def StoreAttempt (o : Res State) (n : Nat) (e : EffAddr) (s t : State) : Prop :=
  o = .next t ∧ (∀ b, b ∈ t.cur.stored ↔ b ∈ s.cur.stored ∨ b ∈ byteAddrs e.addr.toNat n)
    ∧ sideDone e t ∧ onlyRegsAndBytes (sideRegs e) e.addr n s t

/-- Everything but DSTS and ESTS is as it was. -/
def keepsAllButStatus (s t : State) : Prop :=
  keepsRegs [] s t ∧ keepsMemory s t ∧ t.cur.rpc = s.cur.rpc ∧ t.cur.ists = s.cur.ists ∧ keepsSystem s t ∧ keepsFlow s t

/-- Everything but DSTS, ESTS and the flow of control is as it was. -/
def onlyFlow (s t : State) : Prop :=
  keepsRegs [] s t ∧ keepsMemory s t ∧ t.cur.rpc = s.cur.rpc ∧ t.cur.ists = s.cur.ists ∧ keepsSystem s t

/-- No bit of DSTS or ESTS but the test flag `f` has changed. -/
def FlagFrame (f : TestFlag) (s t : State) : Prop :=
  match f with
  | .ta i => t.cur.ests = s.cur.ests ∧ t.cur.dsts = { s.cur.dsts with ta := t.cur.dsts.ta }
      ∧ ∀ j : Fin 4, j ≠ i → t.cur.dsts.ta.getLsbD j.val = s.cur.dsts.ta.getLsbD j.val
  | .tdm i => t.cur.dsts = s.cur.dsts ∧ t.cur.ests = { s.cur.ests with tdm := t.cur.ests.tdm }
      ∧ ∀ j : Fin 4, j ≠ i → t.cur.ests.tdm.getLsbD j.val = s.cur.ests.tdm.getLsbD j.val

/-- The outcome is a Dx sum whose exact value is `exact`: it wraps, and D.OV with D.OVNEG may be set only where the sum does not fit
and D.OV was clear (R453, R73, R77). -/
def SumDone (o : Res State) (z : Fin 16) (exact : Int) (s : State) : Prop :=
  ∃ t, o = .next t ∧ t.cur.d[z] = BitVec.ofInt 32 exact ∧ keepsRegs [.d z] s t ∧ keepsMemory s t ∧ t.cur.dsts = s.cur.dsts
    ∧ t.cur.rpc = s.cur.rpc ∧ t.cur.ists = s.cur.ists ∧ keepsSystem s t ∧ keepsFlow s t
    ∧ (t.cur.ests = s.cur.ests
      ∨ (¬ (-2147483648 ≤ exact ∧ exact < 2147483648) ∧ s.cur.ests.ov = false
        ∧ t.cur.ests = { s.cur.ests with ov := true, ovneg := decide (exact < 0) }))

/-- The outcome is a floating-point result in `r`: M.LUF and M.LVF may have been set and are not cleared (R73). -/
def FpDone (o : Res State) (r : Reg) (v : Word) (s : State) : Prop :=
  ∃ t, o = .next t ∧ curReg t r = v ∧ keepsRegs [r] s t ∧ keepsMemory s t ∧ t.cur.dsts = s.cur.dsts
    ∧ t.cur.rpc = s.cur.rpc ∧ t.cur.ists = s.cur.ists ∧ keepsSystem s t ∧ keepsFlow s t
    ∧ t.cur.ests = { s.cur.ests with luf := t.cur.ests.luf, lvf := t.cur.ests.lvf }
    ∧ (s.cur.ests.luf = true → t.cur.ests.luf = true) ∧ (s.cur.ests.lvf = true → t.cur.ests.lvf = true)

/-- The outcome is a software write of `v` to a status register (R305). -/
def StatusWritten (o : Res State) (q : StatusReg) (v : Word) (s : State) : Prop :=
  ∃ t, o = .next t ∧ t.cur.dsts = (if q = .dsts then writeDstsWord s.cur.dsts v else s.cur.dsts)
    ∧ t.cur.ests = (if q = .ests then writeEstsWord v else s.cur.ests) ∧ keepsAllButStatus s t

/-- The outcome changes nothing. -/
def NoEffect (o : Res State) (s : State) : Prop := o = .next s

/-- Control goes to `target`, at once or after `delay` more packets (R262). -/
def FlowsTo (target : Word) (delay : Fin 8) (late : Late) (s t : State) : Prop :=
  t.cur.expect = s.cur.expect ∧ t.cur.idle = s.cur.idle ∧ t.pkt.seqPc = s.pkt.seqPc
    ∧ (delay = 0 → t.cur.pc = target ∧ t.pkt.jumped = true ∧ t.cur.pending = s.cur.pending)
    ∧ (delay ≠ 0 → t.cur.pc = s.cur.pc ∧ t.pkt.jumped = s.pkt.jumped ∧ t.cur.pending = some ⟨target, delay.val, late⟩)

/-- A target a call, return or branch may go to: even (R42), and on the STACK of the packet (R237). -/
def transferOk (target : Word) (s : State) : Prop :=
  target.toNat % 2 = 0 ∧ ∀ l, linkOf s.cfg target = some l → stackOf s.cfg l = stackOf s.cfg s.pre.ists.currlink

/-- The outcome is a CALL: the old RPC at SP, SP up by 8, control to `target`; RPC is written now, or for a delayed CALL at the end of
its slots (R232, R233). -/
def CallDone (o : Res State) (target : Word) (delay : Fin 8) (s : State) : Prop :=
  ∃ t, o = .next t ∧ newWord t s.pre.a[15] = s.pre.rpc ∧ keepsMemoryBut s.pre.a[15] 8 s t
    ∧ t.cur.a[15] = s.pre.a[15] + 8 ∧ keepsRegs [.a 15] s t ∧ keepsStatus s t ∧ t.cur.ists = s.cur.ists ∧ keepsSystem s t
    ∧ (delay = 0 → t.cur.rpc = s.pkt.seqPc) ∧ (delay ≠ 0 → t.cur.rpc = s.cur.rpc)
    ∧ FlowsTo target delay .rpc s t

/-- The stack swap of R246: the stack pointer `sp` of the STACK being left goes to its SECSP and that of `dst` comes to A15. -/
def SwapsTo (dst : StackId) (sp : Word) (s t : State) : Prop :=
  (dst = stackOf s.cfg s.pre.ists.currlink → t.cur.a[15] = sp ∧ t.cur.secsp = s.cur.secsp)
    ∧ (dst ≠ stackOf s.cfg s.pre.ists.currlink → t.cur.a[15] = s.pre.secsp[dst]
      ∧ t.cur.secsp[stackOf s.cfg s.pre.ists.currlink] = sp
      ∧ ∀ i : Fin 16, i ≠ stackOf s.cfg s.pre.ists.currlink → t.cur.secsp[i] = s.cur.secsp[i])

/-- What CALL.PROT and LB.PROT do alike besides the swap (R246, R249). -/
def ProtFlow (target : Word) (dst : StackId) (s t : State) : Prop :=
  t.cur.pc = target ∧ t.pkt.jumped = true ∧ t.cur.expect = .entryPair ∧ t.cur.pending = s.cur.pending
    ∧ t.cur.dsts = { s.cur.dsts with clink := s.pre.ists.currlink } ∧ t.cur.ests = s.cur.ests
    ∧ t.cur.ists = { s.cur.ists with atomic := 0, currsp := dst }
    ∧ t.cur.rtStack = s.cur.rtStack ∧ t.cur.intSaves = s.cur.intSaves ∧ t.cur.fault = s.cur.fault ∧ t.pre = s.pre

/-- The outcome is a CALL.PROT (R246). -/
def ProtCallDone (o : Res State) (target : Word) (dst : StackId) (s : State) : Prop :=
  ∃ t, o = .next t ∧ newWord t s.pre.a[15] = s.pre.rpc ∧ keepsMemoryBut s.pre.a[15] 8 s t ∧ t.cur.rpc = s.pkt.seqPc
    ∧ t.cur.protStack = ⟨s.pre.ists.currlink, stackOf s.cfg s.pre.ists.currlink, s.pkt.seqPc⟩ :: s.pre.protStack
    ∧ SwapsTo dst (s.pre.a[15] + 8) s t ∧ ProtFlow target dst s t

/-- The outcome is a RET.PROT with frame `f`, which leaves the caller's stack pointer at `sp` (R250). -/
def ProtReturnDone (o : Res State) (f : ProtFrame) (rest : List ProtFrame) (sp : Word) (s : State) : Prop :=
  ∃ t, o = .next t ∧ t.cur.pc = f.ret ∧ t.pkt.jumped = true ∧ t.cur.rpc = oldWord s sp ∧ t.cur.a[15] = sp ∧ keepsMemory s t
    ∧ t.cur.protStack = rest ∧ t.cur.expect = .exitMark ∧ t.cur.pending = s.cur.pending
    ∧ (f.stack = stackOf s.cfg s.pre.ists.currlink → t.cur.secsp = s.cur.secsp)
    ∧ (f.stack ≠ stackOf s.cfg s.pre.ists.currlink →
      t.cur.secsp[stackOf s.cfg s.pre.ists.currlink] = s.pre.a[15]
      ∧ ∀ i : Fin 16, i ≠ stackOf s.cfg s.pre.ists.currlink → t.cur.secsp[i] = s.cur.secsp[i])
    ∧ t.cur.dsts = { s.cur.dsts with rlink := s.pre.ists.currlink, clink := t.cur.dsts.clink } ∧ t.cur.ests = s.cur.ests
    ∧ t.cur.ists = { s.cur.ists with atomic := 0, currsp := f.stack }
    ∧ t.cur.rtStack = s.cur.rtStack ∧ t.cur.intSaves = s.cur.intSaves ∧ t.cur.fault = s.cur.fault ∧ t.pre = s.pre

/-- A CPU that goes on running at this step: a configuration the spec admits (R602), no event, no fault, no debugger's halt. -/
def running (s : State) : Prop :=
  s.cfg.wf = true ∧ s.inputs = [] ∧ s.cur.fault = none ∧ s.dbg.mode = .run ∧ s.dbg.haltPending = false

/-- A boundary of a running CPU at which nothing but the latches decides: no packet is owed to a delay slot or a marker (R525), and no
software breakpoint is next (R584). -/
def openBoundary (s : State) : Prop :=
  running s ∧ stopsAtBreak s = false ∧ s.cur.pending = none ∧ s.cur.expect = .none

/-- A step of a running CPU that executes the packet `is`, which ends at `fin`: no interrupt enters, the packet forms, nothing rules it
out and it holds the markers asked for. -/
def runsPacket (is : List Instr) (fin : Nat) (s : State) : Prop :=
  running s ∧ choose s.cur = .packet ∧ s.cur.idle = false ∧ s.cur.pc.toNat % 2 = 0
    ∧ formPacket 8 s.cur.pc.toNat 0 (openStep s) = .next (.packet is fin)
    ∧ packetRefusal is (openStep s) = none ∧ missingMarker s.cur.expect is = none

/-- The packet that ends at `fin` is followed by code of the same LINK (R240). -/
def staysInLink (fin : Nat) (s : State) : Prop := fin < 4294967296 ∧ linkOf s.cfg (BitVec.ofNat 32 fin) = some (currLink s)

/-- The latches are as they were. -/
def keepsLatches (s t : State) : Prop :=
  t.cur.nmiPending = s.cur.nmiPending ∧ t.cur.rtintPending = s.cur.rtintPending ∧ t.cur.intPending = s.cur.intPending

/-- The SSU let a debug access through and `P` holds of it, or it did not and nothing changed; which, is open (R165). -/
def IfAllowed (a : Option Word) (s t : State) (P : Prop) : Prop :=
  (debugAllowed a s = true ∧ P) ∨ (debugAllowed a s = false ∧ t.cur = s.cur)

/-- The first RTINT of a batch of events. -/
def firstRtint (es : List Event) : Option RtRequest :=
  es.findSome? fun e => match e with | .rtint v p => some ⟨v, p⟩ | _ => none

/-- The first INT of a batch of events. -/
def firstInt (es : List Event) : Option IntRequest :=
  es.findSome? fun e => match e with | .int v p b => some ⟨v, p, b⟩ | _ => none

/-- The frame a real-time entry saves (R541). -/
def frameOf (c : Arch) : RtFrame := ⟨c.a, c.d, c.m, c.rpc, c.dsts, c.ests, c.pc⟩

/-- What RTINT and NMI entry do alike (R541, R543): from the boundary `s` to `t`. -/
def EntersRealtime (vector : Word) (s t : State) : Prop :=
  t.cur.rtStack = frameOf s.cur :: s.cur.rtStack
    ∧ (∀ i : Fin 16, t.cur.a[i] = 0) ∧ (∀ i : Fin 16, t.cur.d[i] = 0) ∧ (∀ i : Fin 32, t.cur.m[i] = 0)
    ∧ t.cur.secsp[s.cur.ists.currsp] = s.cur.a[15]
    ∧ (∀ i : Fin 16, i ≠ s.cur.ists.currsp → t.cur.secsp[i] = s.cur.secsp[i])
    ∧ (∀ l, linkOf s.cfg vector = some l → t.cur.ists.currsp = stackOf s.cfg l)
    ∧ t.cur.pc = vector ∧ t.cur.expect = .isrPair ∧ t.cur.idle = false
    ∧ t.cur.dsts.clink = s.cur.dsts.clink ∧ t.cur.dsts.rlink = s.cur.dsts.rlink
    ∧ t.cur.ists.intsp = s.cur.ists.intsp
    ∧ t.cur.ists.intf = s.cur.ists.intf ∧ t.cur.ists.rtintf = s.cur.ists.rtintf ∧ t.cur.ists.nmif = s.cur.ists.nmif
    ∧ (∀ b, memByte t.cur.mem b = memByte s.cur.mem b) ∧ t.cur.stored = s.cur.stored
    ∧ t.cur.protStack = s.cur.protStack ∧ t.cur.intSaves = s.cur.intSaves ∧ t.cur.intPending = s.cur.intPending
    ∧ t.cur.fault = none ∧ t.cfg = s.cfg ∧ t.dbg = s.dbg

/-- `u` differs from `s` at most in what other instructions of the packet may have written so far: working registers, RPC, memory (R16). -/
def samePacket (s u : State) : Prop :=
  ∃ a d m rpc mem stored, u = { s with cur := { s.cur with a := a, d := d, m := m, rpc := rpc, mem := mem, stored := stored } }

/-- What an instruction did to one register, RPC or byte is the same from both states: it left both alone or gave both one value. -/
def sameWrite {α : Type} (old new old' new' : α) : Prop := (new = old ∧ new' = old') ∨ new = new'

/-- Two outcomes of one instruction, from the states `s` and `u` of one packet, agree: the same stop, or next states that differ again only
in what other instructions may have written, the instruction's own writes being the same. -/
def SameEffect (o o' : Res State) (s u : State) : Prop :=
  match o, o' with
  | .next t, .next v => samePacket t v ∧ (∀ r, sameWrite (curReg s r) (curReg t r) (curReg u r) (curReg v r))
      ∧ sameWrite s.cur.rpc t.cur.rpc u.cur.rpc v.cur.rpc
      ∧ ∀ b, sameWrite (memByte s.cur.mem b) (memByte t.cur.mem b) (memByte u.cur.mem b) (memByte v.cur.mem b)
  | .fault e, .fault e' => e = e'
  | .refused e, .refused e' => e = e'
  | _, _ => False

/-- The word of code at `a` can be fetched: below the top (R42), covered by an EXE range (R161), mapped (R166), not stored to (R152). -/
def wordOk (a : Nat) (s : State) : Prop :=
  a + 2 ≤ 4294967296 ∧ linkOf s.cfg (BitVec.ofNat 32 a) ≠ none ∧ regionOf s.cfg (BitVec.ofNat 32 a) ≠ none
    ∧ a ∉ s.cur.stored ∧ a + 1 ∉ s.cur.stored

/-- CURRSP once a pending discontinuity has gone to its target. -/
def lateStack (late : Late) (k : StackId) : StackId :=
  match late with
  | .nothing => k
  | .rpc => k
  | .currsp k' => k'

/-- CURRSP is the STACK of the code at the program counter (R55), and will be where a pending discontinuity goes; a CPU the debugger
holds has none pending. -/
def stackFollowsLink (s : State) : Prop :=
  (s.cur.fault = none →
    (∀ l, linkOf s.cfg s.cur.pc = some l → s.cur.ists.currsp = stackOf s.cfg l)
    ∧ ∀ p l, s.cur.pending = some p → linkOf s.cfg p.target = some l → lateStack p.late s.cur.ists.currsp = stackOf s.cfg l)
  ∧ (s.dbg.mode = .halt ∨ s.dbg.mode = .waitSync → s.cur.pending = none)

/-- The PIPE's side of the interrupt contract (R522) for an event arriving in state `c`: an assumption on the environment. -/
def pipeContract (c : Arch) (e : Event) : Prop :=
  match e with
  | .rtint _ p => (c.dsts.ints = .rtint → p.toNat < c.dsts.prio.toNat) ∧ c.rtStack.length < c.warnRtisp
  | .int _ p _ => c.dsts.ints = .int → p.toNat < c.dsts.prio.toNat
  | _ => True

/-- A safe run ends outside the FAULT state. -/
def safe (s : State) : Prop := s.cur.fault = none

end Sys2Proof.Machine
end

