-- ==== Sys2Proof/Certificates/Slice0/Obligations.lean ====
section
/-! DEFINITION. The statements for the provers. -/

open Sys2Proof Sys2Proof.Machine

/-- O1. Decoding the encoding of a well-formed instruction gives it back. For every instruction, every operand the encoding admits and
every following byte, the decoder reads exactly that instruction from its encoding and leaves the rest. The opcode numbers are the
model's own (log entry 1); the fields are those of the cited rules. Rules: R171, R172, R186, R200, R205, R207. -/
def Obligations.DecodeAfterEncode : Prop :=
  ∀ (i : Instr) (rest : List Byte), i.wf = true → decode (encodeBytes i ++ rest) = .ok (i, rest)

/-- O2. Words written out from the field tables decode to their instructions. The source's field examples (0x992E, 0xDBA3, the DIRM
words 0x8000 and 0x0043, the ADDR3 fields 0x004 and 0x108, ADDR2 0x10), placed under this model's opcode numbers, decode to the
instructions they stand for. Rules: R191, R202, R206, R208. -/
def Obligations.SampleWordsDecode : Prop :=
  decodeTableWord 32 (0x2821 + 0x992E * 65536) = some (.ld32Addr1 (.m 1) (.offPost 14 100 2))
  ∧ decodeTableWord 48 (0x0C00 + 0xDBA3 * 65536 + 50110 * 4294967296) = some (.or16Addr1 (.postDec 3 0xBA) 50110)
  ∧ decodeTableWord 48 (0x0090 + 0x8000 * 65536) = some (.ldB0Dirm (.a 8) 0x8000)
  ∧ decodeTableWord 48 (0x0915 + 0x0043 * 65536) = some (.stW1DirmIx 3 4 (.a 10))
  ∧ decodeTableWord 32 (0x2000 + 0x4108 * 65536) = some (.mv32Addr3 ⟨0, 4⟩ ⟨1, 8⟩)
  ∧ decodeTableWord 32 (0x3252 + 0x0010 * 65536) = some (.ld64Addr2 (.xm 2) (.plain 0))

/-- O3. A word that decodes encodes back to itself, and an unused opcode number is refused. What the decoder reads from three words is
well formed, and its encoding is those of the words it used with I_Link 0, but for the long form of an ADD or SUB of a register,
itself and an immediate below 64, which the encoder writes short. The opcode numbers this model leaves unused are refused by name.
Bits 14 and 13 of Word 0 give the size, I_Link plays no part; no ADDR1 or ADDR2 pattern is reserved: the mode read from a field has
that field as its code. The opcode numbers and the short form are the model's own (log entry 1). Rules: R171, R172, R180, R181,
R186, R187, R200. -/
def Obligations.DecodingDropsNoBit : Prop :=
  (∀ w0 : Nat, w0 < 65536 →
    sizeWords w0 = (if (BitVec.ofNat 16 w0).getLsbD 14 then 1 else if (BitVec.ofNat 16 w0).getLsbD 13 then 2 else 3))
  ∧ ((∀ f : Nat, f < 65536 → addr1Code (readAddr1 f) = f) ∧ ∀ g : Nat, g < 32 → addr2Code (readAddr2 g) = g)
  ∧ (∀ (w0 w1 w2 : Nat) (i : Instr), w0 < 65536 → w1 < 65536 → w2 < 65536 → decodeWords w0 w1 w2 = .ok i →
    i.wf = true ∧ (encode i = [w0 % 32768, w1, w2].take (sizeWords w0)
      ∨ (sizeWords w0 = 2 ∧ ∃ b z u, u.toNat < 64 ∧ (i = .addImm b z z u ∨ i = .subImm b z z u))))
  ∧ (∀ w0 w1 w2 : Nat,
    (sizeWords w0 = 1 →
      5 ≤ fld w0 11 3 ∨ (fld w0 11 3 = 4 ∧ (6 ≤ fld w0 6 5 ∨ (fld w0 6 5 = 4 ∧ 17 ≤ fld w0 0 6))) →
      decodeWords w0 w1 w2 = .error .undefinedOpcode)
    ∧ (sizeWords w0 = 2 →
      fld w0 8 5 = 3 ∨ 81 ≤ fld w0 6 7 ∨ (fld w0 6 7 = 52 ∧ 21 ≤ fld w0 0 6) ∨ (fld w0 6 7 = 78 ∧ 8 ≤ fld w0 0 6) →
      decodeWords w0 w1 w2 = .error .undefinedOpcode)
    ∧ (sizeWords w0 = 3 → (25 ≤ fld w0 7 6 ∧ fld w0 7 6 < 40) ∨ (fld w0 7 6 = 24 ∧ 19 ≤ fld w0 0 7) →
      decodeWords w0 w1 w2 = .error .undefinedOpcode))

/-- O4. Every step keeps memory in its canonical form. From every state whose memory has strictly rising addresses below 2^32, a step
that answers a next state leaves memory in that form. Rules: R120, R121. -/
def Obligations.StepKeepsMemoryCanonical : Prop :=
  ∀ s t : State, s.cur.mem.wf = true → step s = .next t → t.cur.mem.wf = true

/-- O5. The reset state: the values of Table 3-1, and the invariants every step keeps. After reset every A, D and M register, ESTS, RPC
and ISTS are 0 and DSTS is 0x07F80000, as Table 3-1 says (INTSP 0 is the documented default, D38). The model's choices: nothing is
pending, expected or faulted and both hardware stacks are empty (decisions D28 and D5, log entry 14), RESET_PC is 0 (log entry 5),
memory lists nothing (log entry 2). So memory is canonical, the program counter is even, CURRSP names the STACK of the code there,
and the configuration is one the spec admits. Rules: R110, R601, R602. -/
def Obligations.ResetState : Prop :=
  (∀ i : Fin 16, State.reset.cur.a[i] = 0) ∧ (∀ i : Fin 16, State.reset.cur.d[i] = 0) ∧ (∀ i : Fin 32, State.reset.cur.m[i] = 0)
    ∧ dstsWord State.reset.cur.dsts = 0x07F80000#32 ∧ estsWord State.reset.cur.ests = 0 ∧ istsWord State.reset.cur.ists = 0
    ∧ State.reset.cur.rpc = 0 ∧ State.reset.cur.nmiPending = false ∧ State.reset.cur.rtintPending = none
    ∧ State.reset.cur.intPending = none ∧ State.reset.cur.pending = none ∧ State.reset.cur.expect = .none
    ∧ State.reset.cur.fault = none
    ∧ State.reset.cur.mem.wf = true
    ∧ (State.reset.cur.pc.toNat % 2 = 0 ∧ (∀ p, State.reset.cur.pending = some p → p.target.toNat % 2 = 0)
        ∧ State.reset.cfg.resetPc.toNat % 2 = 0)
    ∧ State.reset.cur.protStack = [] ∧ State.reset.cur.rtStack = []
    ∧ State.reset.cur.protStack.length ≤ State.reset.cfg.maxPsp
    ∧ State.reset.cur.rtStack.length ≤ State.reset.cfg.maxRtisp + 1 ∧ State.reset.cfg.wf = true
    ∧ stackFollowsLink State.reset

/-- O6. Every step keeps the program counter and a pending target even. If the program counter, a pending delayed target and RESET_PC
are even, they are even after every step that answers a next state. Rules: R42, R133. -/
def Obligations.StepKeepsPcEven : Prop :=
  ∀ s t : State,
    (s.cur.pc.toNat % 2 = 0 ∧ (∀ p, s.cur.pending = some p → p.target.toNat % 2 = 0) ∧ s.cfg.resetPc.toNat % 2 = 0) →
    step s = .next t →
    (t.cur.pc.toNat % 2 = 0 ∧ (∀ p, t.cur.pending = some p → p.target.toNat % 2 = 0) ∧ t.cfg.resetPc.toNat % 2 = 0)

/-- O7. Every step keeps both hardware stacks within their limits. The protected call stack holds at most MAXPSP frames. RTISP is at
most MAXRTISP + 1, and MAXRTISP + 1 outside FAULT only inside an NMI handler with no NMI's frame under it; no saved frame is that of
an NMI handler. These hold after every step that answers a next state if they held before. That no RTINT enters past MAXRTISP
without a fault is the model's choice (log entry 50). Rules: R246, R253, R546, R555. -/
def Obligations.StepKeepsHardwareStacksWithinLimits : Prop :=
  ∀ s t : State,
    (s.cur.protStack.length ≤ s.cfg.maxPsp ∧ s.cur.rtStack.length ≤ s.cfg.maxRtisp + 1 ∧ (∀ f ∈ s.cur.rtStack, f.dsts.ints ≠ .nmi)
      ∧ (s.cur.fault = none → s.cur.rtStack.length = s.cfg.maxRtisp + 1 → s.cur.dsts.ints = .nmi)) →
    step s = .next t →
    (t.cur.protStack.length ≤ t.cfg.maxPsp ∧ t.cur.rtStack.length ≤ t.cfg.maxRtisp + 1 ∧ (∀ f ∈ t.cur.rtStack, f.dsts.ints ≠ .nmi)
      ∧ (t.cur.fault = none → t.cur.rtStack.length = t.cfg.maxRtisp + 1 → t.cur.dsts.ints = .nmi))

/-- O8. Every step ends between packets: what the next packet reads is what the step built. A step that answers a next state leaves no
packet in progress, the state the next packet will read equal to the one the step built, and the configuration unchanged. (That the
instructions of one packet do not see each other's writes is PacketReadsOldState.) Holding both states is the model's form of D2
(log entry 10). Rules: R13, R16. -/
def Obligations.StepEndsBetweenPackets : Prop :=
  ∀ s t : State, step s = .next t → t.pre = t.cur ∧ t.pkt = PacketCtx.empty ∧ t.cfg = s.cfg

/-- O9. Packets of two instructions: a register swap, a load beside a store (memory, peripherals), ESTS beside a product or a sum,
LB.PROT beside ADD.U16 A15. Two moves in one packet exchange two registers; each reads the state before the packet and both write: a
load and a store of one address in one packet give the load the old word and memory the new one; a store and a load of peripherals
in one packet are reported loads first; a write of ESTS beside a product or a Dx sum gives both, ESTS holding what was written but
for M.LUF and M.LVF, or D.OV and D.OVNEG where the sum does not fit, which are open; LB.PROT within its STACK leaves A15 to an
ADD.U16 beside it. That all instructions of a packet read the state before it is the spec's own reading (D2, log entry 10 DEDUCED),
the order of accesses is D12, the sticky flags are log entry 76, that LB.PROT pushes nothing is D40 (log entry 44). Rules: R16, R18,
R155, R141, R177, R73, R453, R468, R249. -/
def Obligations.PacketReadsOldState : Prop :=
  ∀ (s : State) (r q : Reg) (a b : Word) (z y x : Fin 16) (k j i : Fin 32) (u : Half) (l : LinkId) (fin : Nat), staysInLink fin s → s.cur.pending = none →
    (runsPacket [.mvReg (.word r q), .mvReg (.word q r)] fin s →
      ∃ t, step s = .next t ∧ curReg t r = curReg s q ∧ curReg t q = curReg s r ∧ keepsRegs [r, q] s t ∧ keepsMemory s t
        ∧ t.cur.pc = BitVec.ofNat 32 fin ∧ t.cur.fault = none)
    ∧ (runsPacket [.st32Dirm a r, .ld32Dirm q a] fin s → readOk a 4 (openStep s) → writeOk a 4 (openStep s) →
      ∃ t, step s = .next t ∧ curReg t q = oldWord (openStep s) a ∧ newWord t a = curReg s r ∧ keepsRegs [q] s t
        ∧ keepsMemoryBut a 4 s t ∧ t.cur.fault = none)
    ∧ (runsPacket [.st32Dirm a r, .ld32Dirm q b] fin s → a.toNat % 4 = 0 → b.toNat % 4 = 0 →
      regionOf s.cfg a = some .peripheral → regionOf s.cfg b = some .peripheral →
      apAllows s.cfg true (currLink s) s.cur.dsts.clink a = true → apAllows s.cfg false (currLink s) s.cur.dsts.clink b = true →
      ∃ t, step s = .next t ∧ t.cur.fault = none
        ∧ t.outputs = .deviceWrite a.toNat 4 ((curReg s r).setWidth 64) :: .deviceRead b.toNat 4 :: s.outputs)
    ∧ (∀ is, is = [.statusOp (.ofReg .ests r), .smpyf k j i] ∨ is = [.smpyf k j i, .statusOp (.ofReg .ests r)] → runsPacket is fin s →
      ∃ t, step s = .next t ∧ t.cur.m[k] = fmul32 s.cfg.fp s.cur.m[j] s.cur.m[i] ∧ keepsRegs [.m k] s t ∧ t.cur.dsts = s.cur.dsts
        ∧ t.cur.ests = { writeEstsWord (curReg s r) with luf := t.cur.ests.luf, lvf := t.cur.ests.lvf } ∧ t.cur.fault = none)
    ∧ (∀ is, is = [.statusOp (.ofReg .ests r), .addReg .d z y x] ∨ is = [.addReg .d z y x, .statusOp (.ofReg .ests r)] → runsPacket is fin s →
      ∃ t, step s = .next t ∧ t.cur.d[z] = s.cur.d[y] + s.cur.d[x] ∧ keepsRegs [.d z] s t ∧ t.cur.dsts = s.cur.dsts
        ∧ t.cur.ests = { writeEstsWord (curReg s r) with ov := t.cur.ests.ov, ovneg := t.cur.ests.ovneg }
        ∧ (-2147483648 ≤ s.cur.d[y].toInt + s.cur.d[x].toInt → s.cur.d[y].toInt + s.cur.d[x].toInt < 2147483648 →
          t.cur.ests = writeEstsWord (curReg s r))
        ∧ t.cur.fault = none)
    ∧ (∀ is, is = [.lbProt a, .addU16 15 15 u] ∨ is = [.addU16 15 15 u, .lbProt a] → runsPacket is fin s → a.toNat % 2 = 0 →
      linkOf s.cfg a = some l → stackOf s.cfg l = stackOf s.cfg (currLink s) →
      ∃ t, step s = .next t ∧ t.cur.a[15] = s.cur.a[15] + u.setWidth 32 ∧ t.cur.secsp = s.cur.secsp ∧ t.cur.pc = a
        ∧ t.cur.expect = .entryPair ∧ t.cur.rpc = s.cur.rpc ∧ keepsMemory s t ∧ t.cur.fault = none)

/-- O10. An honoured reset gives the reset values from every state and leaves FAULT. When the batch of events holds a reset that the
debug state does not shut out, the step answers a next state whose registers, status, stacks, latches and markers are those of
reset, in the FAULT state too. The model's choices: SECSPn, WARNPSP and WARNRTISP take their parameters and the latches and markers
are clear (log entries 3, 4, 14, D28); every byte of memory is that of before or that of the packet in flight (log entry 56); the
configuration is one the spec admits (R602). Rules: R600, R601, R500. -/
def Obligations.ResetFromAnyState : Prop :=
  ∀ s : State, s.cfg.wf = true → Event.reset ∈ nextBatch s → resetHonoured (deliver s) = true →
    ∃ t, step s = .next t ∧ t.cur = { Arch.reset s.cfg with mem := t.cur.mem } ∧ t.cfg = s.cfg
      ∧ ∀ a, memByte t.cur.mem a = memByte (deliver s).cur.mem a
        ∨ ∃ u, runPacket false (deliver s) = .next u ∧ memByte t.cur.mem a = memByte u.cur.mem a

/-- O11. In the FAULT state only a reset changes anything. In the FAULT state a step without a reset event keeps every register and
byte, whatever else arrives; and a reset is honoured there whatever the debugger did. That a reset is honoured there even after a
debug halt or a step without DINT is the model's choice (log entries 55 and 56, DESIGN CHOICE), since R600 names these two as
exceptions. That FAULT is terminal and frozen is the spec's decision D5 (log entry 34), not the source's statement. Rules: R500,
R566. -/
def Obligations.FaultStateIsTerminal : Prop :=
  ∀ s : State, s.cfg.wf = true → s.cur.fault ≠ none → resetHonoured (deliver s) = true ∧ (Event.reset ∉ nextBatch s →
    ∃ t, step s = .next t ∧ t.cur = s.cur ∧ t.outputs = s.outputs ∧ t.dbg = s.dbg)

/-- O12. The environment sets SECSPn, WARNPSP, WARNRTISP and INTSP and writes bytes of memory between packets. After a batch whose last
event sets one of these registers, the register has the value given, whatever came before it in the batch; alone, such an event
changes nothing else. A byte another bus master writes reads back unless its address is unmapped or in a peripheral, where nothing
changes; no other byte changes and it does not count as stored by the program. That software reaches these registers by events is
the model's form (log entry 66), and so is that a bus write is one byte and leaves unmapped and peripheral addresses alone (log
entry 64). Rules: R56, R80, R82, R84, R142, R152. -/
def Obligations.EventsWriteStackRegistersAndMemory : Prop :=
  ∀ (s : State) (es : List Event), s.cur.fault = none →
    (∀ i v, (nextBatch s = es ++ [.setSecsp i v] → (deliver s).cur.secsp[i] = v)
      ∧ (nextBatch s = [.setSecsp i v] → (deliver s).cur = { s.cur with secsp := (deliver s).cur.secsp }
        ∧ ∀ j : Fin 16, j ≠ i → (deliver s).cur.secsp[j] = s.cur.secsp[j]))
    ∧ (∀ n, (nextBatch s = es ++ [.setWarnPsp n] → (deliver s).cur.warnPsp = n)
      ∧ (nextBatch s = [.setWarnPsp n] → (deliver s).cur = { s.cur with warnPsp := n })
      ∧ (nextBatch s = es ++ [.setWarnRtisp n] → (deliver s).cur.warnRtisp = n)
      ∧ (nextBatch s = [.setWarnRtisp n] → (deliver s).cur = { s.cur with warnRtisp := n }))
    ∧ (∀ v, (nextBatch s = es ++ [.setIntsp v] → (deliver s).cur.ists.intsp = v)
      ∧ (nextBatch s = [.setIntsp v] → (deliver s).cur = { s.cur with ists := { s.cur.ists with intsp := v } }))
    ∧ (∀ a v,
      (nextBatch s = es ++ [.busWrite a v] → (∀ k, regionOf s.cfg a = some k → k ≠ .peripheral → memByte (deliver s).cur.mem a.toNat = v))
      ∧ (nextBatch s = [.busWrite a v] →
        (regionOf s.cfg a = none ∨ regionOf s.cfg a = some .peripheral → (deliver s).cur = s.cur)
        ∧ keepsMemoryBut a 1 s (deliver s) ∧ (deliver s).cur = { s.cur with mem := (deliver s).cur.mem }))

/-- O13. An instruction reads working registers, RPC and memory as before its packet and changes of them only what its profile names
or a protected transfer frees. For every instruction: in two states that differ only in what other instructions of the packet may
have written to working registers, RPC and memory, it gives the same outcome; of each register, RPC and byte of memory it either
writes the same value in both or leaves both alone. Of the working registers and RPC a next state changes only those its profile
names (a protected transfer frees the working registers, and RETI.RTINT names everything), and where the profile counts no store no
byte of memory. The status registers, SECSPn and the hardware stacks are not framed here. Destinations of one packet do not clash
(PacketRestrictions), so all its writes land. That instructions read the state before the packet is the spec's own reading (D2, log
entry 10 DEDUCED); that a branch not taken writes nothing is log entry 28, what an LB.PROT within its STACK spares is D40 (log entry
44). Rules: R16, R18, R222, R155. -/
def Obligations.InstructionsReadStateBeforePacket : Prop :=
  (∀ (i : Instr) (s u : State), samePacket s u → SameEffect (exec i s) (exec i u) s u)
  ∧ (∀ (i : Instr) (s t : State), exec i s = .next t → t.pkt.halted = false → Dst.everything ∉ destsOf i s →
    (hasProt [i] = false → ∀ r, Dst.reg r ∉ destsOf i s → curReg t r = curReg s r)
    ∧ (Dst.rpc ∉ destsOf i s → t.cur.rpc = s.cur.rpc)
    ∧ ((profile i).stores = 0 → ∀ b, memByte t.cur.mem b = memByte s.cur.mem b))

/-- O14. Values lie in memory least significant byte first, and a write changes only its own bytes. Byte k of the value of n bytes (n up
to 8, not past the top) read at a is the byte at a+k. After writing n bytes of v at a, byte a+k is byte k of v and every other byte
reads as before. Rules: R126. -/
def Obligations.MemoryIsLittleEndian : Prop :=
  ∀ (m : Memory) (a n : Nat) (v : DWord), n ≤ 8 → a + n ≤ 4294967296 →
    (∀ k < n, byteOf (BitVec.ofNat 64 (readLE m a n)) k = memByte m (a + k))
    ∧ (∀ k < n, memByte (writeLE m a n v.toNat) (a + k) = byteOf v k)
    ∧ (∀ b < 4294967296, b < a ∨ a + n ≤ b → memByte (writeLE m a n v.toNat) b = memByte m b)

/-- O15. What each ADDR1 mode computes: its address and its side effect. The nine ADDR1 encodings with their indices and offsets, the
negative ones given by the operand N of the assembly. An offset of 0 is the plain *Ax; with x = 15 the modes that step Ax are those
of the stack (R341, R342). Rules: R324, R325, R328, R329, R332, R333, R334, R338, R340, R341, R342, R343. -/
def Obligations.Addr1Modes : Prop :=
  ∀ (s : State) (x j : Fin 16) (k : Fin 4) (i10 : BitVec 10) (i7 : BitVec 7) (i8 : BitVec 8) (sh : BitVec 2),
    evalAddr1 (.off x i10) s = ⟨s.pre.a[x] + i10.setWidth 32, none⟩
    ∧ evalAddr1 (.offScaled x i10) s = ⟨s.pre.a[x] + 4 * i10.setWidth 32, none⟩
    ∧ evalAddr1 (.index x k sh) s = ⟨s.pre.a[x] + (s.pre.a[k.val] <<< sh.toNat), none⟩
    ∧ evalAddr1 (.indexSet j x k sh) s
        = ⟨s.pre.a[x] + (s.pre.a[k.val] <<< sh.toNat), some (j, s.pre.a[x] + (s.pre.a[k.val] <<< sh.toNat))⟩
    ∧ evalAddr1 (.postInc x i8) s = ⟨s.pre.a[x], some (x, s.pre.a[x] + i8.setWidth 32)⟩
    ∧ evalAddr1 (.offPost x i7 k) s = ⟨s.pre.a[x] + i7.setWidth 32, some (x, s.pre.a[x] + s.pre.a[k.val])⟩
    ∧ (∀ n : Nat, 1 ≤ n → n ≤ 256 →
        evalAddr1 (.postDec x (BitVec.ofNat 8 (256 - n))) s = ⟨s.pre.a[x], some (x, s.pre.a[x] - BitVec.ofNat 32 n)⟩
        ∧ evalAddr1 (.preDec x (BitVec.ofNat 8 (256 - n))) s
            = ⟨s.pre.a[x] - BitVec.ofNat 32 n, some (x, s.pre.a[x] - BitVec.ofNat 32 n)⟩)
    ∧ (∀ n : Nat, 1 ≤ n → n ≤ 8192 →
        evalAddr1 (.spNeg (BitVec.ofNat 13 (8192 - n))) s = ⟨s.pre.a[15] - BitVec.ofNat 32 n, none⟩)

/-- O16. LD.32, LD.S16, LD.S8, LD.U16 and LD.U8 load memory, extended, in every form. Where the access is in order the load completes:
the register gets the little-endian word, or the halfword or byte sign- or zero-extended; the mode's register gets its new value;
nothing else changes. The destination is not the register the mode itself writes (that packet is refused, see PacketRestrictions).
That the suffixes S and U mean sign and zero extension is read from the names (R386, log entry 30 DEDUCED). A load from a peripheral
is DeviceAndReadOnlyRegions. Rules: R370, R375, R383, R384, R385, R386. -/
def Obligations.WholeLoads : Prop :=
  ∀ (s : State) (r : Reg),
    (∀ m : Addr1, r ∉ sideRegs (evalAddr1 m s) →
        (readOk (evalAddr1 m s).addr 4 s → LoadsTo (exec (.ld32Addr1 r m) s) r (oldWord s (evalAddr1 m s).addr) (evalAddr1 m s) s)
        ∧ (readOk (evalAddr1 m s).addr 2 s → LoadsTo (exec (.ldS16Addr1 r m) s) r ((oldHalf s (evalAddr1 m s).addr).signExtend 32) (evalAddr1 m s) s)
        ∧ (readOk (evalAddr1 m s).addr 1 s → LoadsTo (exec (.ldS8Addr1 r m) s) r ((oldByte s (evalAddr1 m s).addr 0).signExtend 32) (evalAddr1 m s) s)
        ∧ (readOk (evalAddr1 m s).addr 2 s → LoadsTo (exec (.ldU16Addr1 r m) s) r ((oldHalf s (evalAddr1 m s).addr).setWidth 32) (evalAddr1 m s) s)
        ∧ (readOk (evalAddr1 m s).addr 1 s → LoadsTo (exec (.ldU8Addr1 r m) s) r ((oldByte s (evalAddr1 m s).addr 0).setWidth 32) (evalAddr1 m s) s))
    ∧ (∀ a : Word,
        (readOk a 4 s → LoadsTo (exec (.ld32Dirm r a) s) r (oldWord s a) (evalDirect a) s)
        ∧ (readOk a 2 s → LoadsTo (exec (.ldS16Dirm r a) s) r ((oldHalf s a).signExtend 32) (evalDirect a) s)
        ∧ (readOk a 1 s → LoadsTo (exec (.ldS8Dirm r a) s) r ((oldByte s a 0).signExtend 32) (evalDirect a) s)
        ∧ (readOk a 2 s → LoadsTo (exec (.ldU16Dirm r a) s) r ((oldHalf s a).setWidth 32) (evalDirect a) s)
        ∧ (readOk a 1 s → LoadsTo (exec (.ldU8Dirm r a) s) r ((oldByte s a 0).setWidth 32) (evalDirect a) s))
    ∧ (∀ (b : Fin 16) (off : BitVec 28),
        (readOk (s.pre.a[b] + off.setWidth 32) 4 s → LoadsTo (exec (.ld32DirmIx r b off) s) r (oldWord s (s.pre.a[b] + off.setWidth 32)) (evalIndexed b off s) s)
        ∧ (readOk (s.pre.a[b] + off.setWidth 32) 2 s → LoadsTo (exec (.ldS16DirmIx r b off) s) r ((oldHalf s (s.pre.a[b] + off.setWidth 32)).signExtend 32) (evalIndexed b off s) s)
        ∧ (readOk (s.pre.a[b] + off.setWidth 32) 1 s → LoadsTo (exec (.ldS8DirmIx r b off) s) r ((oldByte s (s.pre.a[b] + off.setWidth 32) 0).signExtend 32) (evalIndexed b off s) s)
        ∧ (readOk (s.pre.a[b] + off.setWidth 32) 2 s → LoadsTo (exec (.ldU16DirmIx r b off) s) r ((oldHalf s (s.pre.a[b] + off.setWidth 32)).setWidth 32) (evalIndexed b off s) s)
        ∧ (readOk (s.pre.a[b] + off.setWidth 32) 1 s → LoadsTo (exec (.ldU8DirmIx r b off) s) r ((oldByte s (s.pre.a[b] + off.setWidth 32) 0).setWidth 32) (evalIndexed b off s) s))
    ∧ (∀ m : Addr2, r ∉ sideRegs (evalAddr2 m 4 s) → (readOk (evalAddr2 m 4 s).addr 4 s → LoadsTo (exec (.ld32Addr2 r m) s) r (oldWord s (evalAddr2 m 4 s).addr) (evalAddr2 m 4 s) s))

/-- O17. LD.B0 to LD.B3, LD.W0 and LD.W1 replace one lane and keep the other bits. Where the access is in order the load completes and
replaces exactly the lane its suffix names, in every form. That the other bits stay is the spec's reading (decision D30). The
destination is not the register the mode itself writes (that packet is refused, see PacketRestrictions). Rules: R370, R377, R378,
R379, R380, R381, R382. -/
def Obligations.LaneLoads : Prop :=
  ∀ (s : State) (r : Reg),
    (∀ m : Addr1, r ∉ sideRegs (evalAddr1 m s) →
        (readOk (evalAddr1 m s).addr 1 s → LoadsTo (exec (.ldB0Addr1 r m) s) r (((readReg r s).extractLsb' 8 24 ++ oldByte s (evalAddr1 m s).addr 0)) (evalAddr1 m s) s)
        ∧ (readOk (evalAddr1 m s).addr 1 s → LoadsTo (exec (.ldB1Addr1 r m) s) r (((readReg r s).extractLsb' 16 16 ++ oldByte s (evalAddr1 m s).addr 0 ++ (readReg r s).extractLsb' 0 8)) (evalAddr1 m s) s)
        ∧ (readOk (evalAddr1 m s).addr 1 s → LoadsTo (exec (.ldB2Addr1 r m) s) r (((readReg r s).extractLsb' 24 8 ++ oldByte s (evalAddr1 m s).addr 0 ++ (readReg r s).extractLsb' 0 16)) (evalAddr1 m s) s)
        ∧ (readOk (evalAddr1 m s).addr 1 s → LoadsTo (exec (.ldB3Addr1 r m) s) r ((oldByte s (evalAddr1 m s).addr 0 ++ (readReg r s).extractLsb' 0 24)) (evalAddr1 m s) s)
        ∧ (readOk (evalAddr1 m s).addr 2 s → LoadsTo (exec (.ldW0Addr1 r m) s) r (((readReg r s).extractLsb' 16 16 ++ oldHalf s (evalAddr1 m s).addr)) (evalAddr1 m s) s)
        ∧ (readOk (evalAddr1 m s).addr 2 s → LoadsTo (exec (.ldW1Addr1 r m) s) r ((oldHalf s (evalAddr1 m s).addr ++ (readReg r s).extractLsb' 0 16)) (evalAddr1 m s) s))
    ∧ (∀ a : Word,
        (readOk a 1 s → LoadsTo (exec (.ldB0Dirm r a) s) r (((readReg r s).extractLsb' 8 24 ++ oldByte s a 0)) (evalDirect a) s)
        ∧ (readOk a 1 s → LoadsTo (exec (.ldB1Dirm r a) s) r (((readReg r s).extractLsb' 16 16 ++ oldByte s a 0 ++ (readReg r s).extractLsb' 0 8)) (evalDirect a) s)
        ∧ (readOk a 1 s → LoadsTo (exec (.ldB2Dirm r a) s) r (((readReg r s).extractLsb' 24 8 ++ oldByte s a 0 ++ (readReg r s).extractLsb' 0 16)) (evalDirect a) s)
        ∧ (readOk a 1 s → LoadsTo (exec (.ldB3Dirm r a) s) r ((oldByte s a 0 ++ (readReg r s).extractLsb' 0 24)) (evalDirect a) s)
        ∧ (readOk a 2 s → LoadsTo (exec (.ldW0Dirm r a) s) r (((readReg r s).extractLsb' 16 16 ++ oldHalf s a)) (evalDirect a) s)
        ∧ (readOk a 2 s → LoadsTo (exec (.ldW1Dirm r a) s) r ((oldHalf s a ++ (readReg r s).extractLsb' 0 16)) (evalDirect a) s))
    ∧ (∀ (b : Fin 16) (off : BitVec 28),
        (readOk (s.pre.a[b] + off.setWidth 32) 1 s → LoadsTo (exec (.ldB0DirmIx r b off) s) r (((readReg r s).extractLsb' 8 24 ++ oldByte s (s.pre.a[b] + off.setWidth 32) 0)) (evalIndexed b off s) s)
        ∧ (readOk (s.pre.a[b] + off.setWidth 32) 1 s → LoadsTo (exec (.ldB1DirmIx r b off) s) r (((readReg r s).extractLsb' 16 16 ++ oldByte s (s.pre.a[b] + off.setWidth 32) 0 ++ (readReg r s).extractLsb' 0 8)) (evalIndexed b off s) s)
        ∧ (readOk (s.pre.a[b] + off.setWidth 32) 1 s → LoadsTo (exec (.ldB2DirmIx r b off) s) r (((readReg r s).extractLsb' 24 8 ++ oldByte s (s.pre.a[b] + off.setWidth 32) 0 ++ (readReg r s).extractLsb' 0 16)) (evalIndexed b off s) s)
        ∧ (readOk (s.pre.a[b] + off.setWidth 32) 1 s → LoadsTo (exec (.ldB3DirmIx r b off) s) r ((oldByte s (s.pre.a[b] + off.setWidth 32) 0 ++ (readReg r s).extractLsb' 0 24)) (evalIndexed b off s) s)
        ∧ (readOk (s.pre.a[b] + off.setWidth 32) 2 s → LoadsTo (exec (.ldW0DirmIx r b off) s) r (((readReg r s).extractLsb' 16 16 ++ oldHalf s (s.pre.a[b] + off.setWidth 32))) (evalIndexed b off s) s)
        ∧ (readOk (s.pre.a[b] + off.setWidth 32) 2 s → LoadsTo (exec (.ldW1DirmIx r b off) s) r ((oldHalf s (s.pre.a[b] + off.setWidth 32) ++ (readReg r s).extractLsb' 0 16)) (evalIndexed b off s) s))

/-- O18. LD.64 and ST.64 move a pair, the even register at the lower address, in every form. Where the access is in order LD.64
completes: the even register gets the word at the address and the odd one the word four bytes up. ST.64 completes with the same
layout and the frame of every store. That the even register is the low half is decision D3 (log entry 11 DEDUCED). The pair loaded
does not hold the register the mode writes (that packet is refused, see PacketRestrictions). Rules: R376, R391, R127, R33. -/
def Obligations.PairTransfers64 : Prop :=
  (∀ (s : State) (x : XReg),
    (∀ m : Addr1, lowReg x ∉ sideRegs (evalAddr1 m s) → highReg x ∉ sideRegs (evalAddr1 m s) → readOk (evalAddr1 m s).addr 8 s →
      LoadsPairTo (exec (.ld64Addr1 x m) s) x (evalAddr1 m s) s)
    ∧ (∀ m : Addr2, lowReg x ∉ sideRegs (evalAddr2 m 8 s) → highReg x ∉ sideRegs (evalAddr2 m 8 s) → readOk (evalAddr2 m 8 s).addr 8 s →
      LoadsPairTo (exec (.ld64Addr2 x m) s) x (evalAddr2 m 8 s) s)
    ∧ (∀ a : Word, readOk a 8 s → LoadsPairTo (exec (.ld64Dirm x a) s) x (evalDirect a) s)
    ∧ (∀ (b : Fin 16) (off : BitVec 28), readOk (s.pre.a[b] + off.setWidth 32) 8 s →
      LoadsPairTo (exec (.ld64DirmIx x b off) s) x (evalIndexed b off s) s))
  ∧ (∀ (s : State) (x : XReg),
    (∀ m : Addr1, writeOk (evalAddr1 m s).addr 8 s →
      StoresTo (exec (.st64Addr1 m x) s) 8 (readReg (highReg x) s ++ readReg (lowReg x) s) (evalAddr1 m s) s)
    ∧ (∀ m : Addr2, writeOk (evalAddr2 m 8 s).addr 8 s →
      StoresTo (exec (.st64Addr2 m x) s) 8 (readReg (highReg x) s ++ readReg (lowReg x) s) (evalAddr2 m 8 s) s)
    ∧ (∀ a : Word, writeOk a 8 s →
      StoresTo (exec (.st64Dirm a x) s) 8 (readReg (highReg x) s ++ readReg (lowReg x) s) (evalDirect a) s)
    ∧ (∀ (b : Fin 16) (off : BitVec 28), writeOk (s.pre.a[b] + off.setWidth 32) 8 s →
      StoresTo (exec (.st64DirmIx b off x) s) 8 (readReg (highReg x) s ++ readReg (lowReg x) s) (evalIndexed b off s) s))

/-- O19. ST.B0 to ST.B3, ST.W0 and ST.W1 store the lane their suffix names, ST.16 and ST.8 their immediate, in every form. Where the
access is in order the store completes: the bytes at the operand's address hold the lane, every other byte and every register but
the mode's is as before. The lanes of the others are read from the one example of ST.W1 (R394 to R398, log entry 30 DEDUCED). ST.16
and ST.8 store their immediate, through ADDR1 and ADDR2; that ST.16 and the ADDR1 form of ST.8 take one is the spec's reading (R392,
R393). Rules: R371, R392, R393, R394, R395, R396, R397, R398, R399. -/
def Obligations.LaneAndImmediateStores : Prop :=
  (∀ (s : State) (r : Reg),
    (∀ m : Addr1,
        (writeOk (evalAddr1 m s).addr 1 s → StoresTo (exec (.stB0Addr1 m r) s) 1 (((readReg r s).extractLsb' 0 8).setWidth 64) (evalAddr1 m s) s)
        ∧ (writeOk (evalAddr1 m s).addr 1 s → StoresTo (exec (.stB1Addr1 m r) s) 1 (((readReg r s).extractLsb' 8 8).setWidth 64) (evalAddr1 m s) s)
        ∧ (writeOk (evalAddr1 m s).addr 1 s → StoresTo (exec (.stB2Addr1 m r) s) 1 (((readReg r s).extractLsb' 16 8).setWidth 64) (evalAddr1 m s) s)
        ∧ (writeOk (evalAddr1 m s).addr 1 s → StoresTo (exec (.stB3Addr1 m r) s) 1 (((readReg r s).extractLsb' 24 8).setWidth 64) (evalAddr1 m s) s)
        ∧ (writeOk (evalAddr1 m s).addr 2 s → StoresTo (exec (.stW0Addr1 m r) s) 2 (((readReg r s).extractLsb' 0 16).setWidth 64) (evalAddr1 m s) s)
        ∧ (writeOk (evalAddr1 m s).addr 2 s → StoresTo (exec (.stW1Addr1 m r) s) 2 (((readReg r s).extractLsb' 16 16).setWidth 64) (evalAddr1 m s) s))
    ∧ (∀ a : Word,
        (writeOk a 1 s → StoresTo (exec (.stB0Dirm a r) s) 1 (((readReg r s).extractLsb' 0 8).setWidth 64) (evalDirect a) s)
        ∧ (writeOk a 1 s → StoresTo (exec (.stB1Dirm a r) s) 1 (((readReg r s).extractLsb' 8 8).setWidth 64) (evalDirect a) s)
        ∧ (writeOk a 1 s → StoresTo (exec (.stB2Dirm a r) s) 1 (((readReg r s).extractLsb' 16 8).setWidth 64) (evalDirect a) s)
        ∧ (writeOk a 1 s → StoresTo (exec (.stB3Dirm a r) s) 1 (((readReg r s).extractLsb' 24 8).setWidth 64) (evalDirect a) s)
        ∧ (writeOk a 2 s → StoresTo (exec (.stW0Dirm a r) s) 2 (((readReg r s).extractLsb' 0 16).setWidth 64) (evalDirect a) s)
        ∧ (writeOk a 2 s → StoresTo (exec (.stW1Dirm a r) s) 2 (((readReg r s).extractLsb' 16 16).setWidth 64) (evalDirect a) s))
    ∧ (∀ (b : Fin 16) (off : BitVec 28),
        (writeOk (s.pre.a[b] + off.setWidth 32) 1 s → StoresTo (exec (.stB0DirmIx b off r) s) 1 (((readReg r s).extractLsb' 0 8).setWidth 64) (evalIndexed b off s) s)
        ∧ (writeOk (s.pre.a[b] + off.setWidth 32) 1 s → StoresTo (exec (.stB1DirmIx b off r) s) 1 (((readReg r s).extractLsb' 8 8).setWidth 64) (evalIndexed b off s) s)
        ∧ (writeOk (s.pre.a[b] + off.setWidth 32) 1 s → StoresTo (exec (.stB2DirmIx b off r) s) 1 (((readReg r s).extractLsb' 16 8).setWidth 64) (evalIndexed b off s) s)
        ∧ (writeOk (s.pre.a[b] + off.setWidth 32) 1 s → StoresTo (exec (.stB3DirmIx b off r) s) 1 (((readReg r s).extractLsb' 24 8).setWidth 64) (evalIndexed b off s) s)
        ∧ (writeOk (s.pre.a[b] + off.setWidth 32) 2 s → StoresTo (exec (.stW0DirmIx b off r) s) 2 (((readReg r s).extractLsb' 0 16).setWidth 64) (evalIndexed b off s) s)
        ∧ (writeOk (s.pre.a[b] + off.setWidth 32) 2 s → StoresTo (exec (.stW1DirmIx b off r) s) 2 (((readReg r s).extractLsb' 16 16).setWidth 64) (evalIndexed b off s) s)))
  ∧ (∀ (s : State) (h : Half) (v : Byte),
    (∀ m : Addr1, (writeOk (evalAddr1 m s).addr 2 s → StoresTo (exec (.st16Addr1 m h) s) 2 (h.setWidth 64) (evalAddr1 m s) s)
        ∧ (writeOk (evalAddr1 m s).addr 1 s → StoresTo (exec (.st8Addr1 m v) s) 1 (v.setWidth 64) (evalAddr1 m s) s))
    ∧ (∀ m : Addr2, (writeOk (evalAddr2 m 2 s).addr 2 s → StoresTo (exec (.st16Addr2 m h) s) 2 (h.setWidth 64) (evalAddr2 m 2 s) s)
        ∧ (writeOk (evalAddr2 m 1 s).addr 1 s → StoresTo (exec (.st8Addr2 m v) s) 1 (v.setWidth 64) (evalAddr2 m 1 s) s)))

/-- O20. ST.32 stores the whole register, in every form. Where the access is in order ST.32 completes with its frame, in the ADDR1,
ADDR2 and both DIRM forms. Rules: R390. -/
def Obligations.WordStores : Prop :=
  ∀ (s : State) (r : Reg),
    (∀ m : Addr1,
        (writeOk (evalAddr1 m s).addr 4 s → StoresTo (exec (.st32Addr1 m r) s) 4 ((readReg r s).setWidth 64) (evalAddr1 m s) s))
    ∧ (∀ a : Word,
        (writeOk a 4 s → StoresTo (exec (.st32Dirm a r) s) 4 ((readReg r s).setWidth 64) (evalDirect a) s))
    ∧ (∀ (b : Fin 16) (off : BitVec 28),
        (writeOk (s.pre.a[b] + off.setWidth 32) 4 s → StoresTo (exec (.st32DirmIx b off r) s) 4 ((readReg r s).setWidth 64) (evalIndexed b off s) s))
    ∧ (∀ m : Addr2, (writeOk (evalAddr2 m 4 s).addr 4 s → StoresTo (exec (.st32Addr2 m r) s) 4 ((readReg r s).setWidth 64) (evalAddr2 m 4 s) s))

/-- O21. A packet that cannot be fetched or formed within the contract stops the step by name. At a boundary where the packet at the
program counter is to run: a configuration the spec rules out is refused, an odd program counter is refused, and what stops the
formation stops the step. Reading words from an address on, the first word that is not in order decides: past the top it is refused,
where no EXE range covers it the fetch is denied, where memory is unmapped the model stops, where the program has stored to it it is
refused; if all are in order they are fetched. A15 in a field without a stack mode is refused. A packet that ends at the top of
memory is refused once it has run, unless it faults, halts before it runs, jumps, or is the last delay slot of a pending jump. The
refusals are decisions D4, D10, D11, D13 and D22; that the LINK is looked at before the map and the map before the stored bytes is
the model's order (log entry 32). Rules: R42, R152, R161, R166, R188, R602. -/
def Obligations.FetchAndFormationStops : Prop :=
  (∀ s : State, s.cfg.wf = false → step s = .refused .configuration)
  ∧ (∀ s : State, running s → choose s.cur = .packet → s.cur.idle = false →
    (s.cur.pc.toNat % 2 = 1 → step s = .refused (.oddPc s.cur.pc.toNat))
    ∧ (s.cur.pc.toNat % 2 = 0 →
      (∀ e, formPacket 8 s.cur.pc.toNat 0 (openStep s) = .refused e → step s = .refused e)
      ∧ ∀ e, formPacket 8 s.cur.pc.toNat 0 (openStep s) = .fault e → step s = .fault e))
  ∧ (∀ (s : State) (a n : Nat), ((∀ j < n, wordOk (a + 2 * j) s) → fetchable a n s = .next none)
    ∧ ∀ j < n, (∀ i < j, wordOk (a + 2 * i) s) →
      (4294967296 < a + 2 * j + 2 → fetchable a n s = .refused .pastTop)
      ∧ (a + 2 * j + 2 ≤ 4294967296 →
        (linkOf s.cfg (BitVec.ofNat 32 (a + 2 * j)) = none → fetchable a n s = .next (some (a + 2 * j)))
        ∧ (∀ l, linkOf s.cfg (BitVec.ofNat 32 (a + 2 * j)) = some l →
          (regionOf s.cfg (BitVec.ofNat 32 (a + 2 * j)) = none → fetchable a n s = .fault (.unmapped (a + 2 * j)))
          ∧ (∀ k, regionOf s.cfg (BitVec.ofNat 32 (a + 2 * j)) = some k → a + 2 * j ∈ s.cur.stored ∨ a + 2 * j + 1 ∈ s.cur.stored →
            fetchable a n s = .refused (.storedCode (a + 2 * j))))))
  ∧ (∀ (s : State) (fuel a bits n : Nat) (e : Refusal), n = sizeWords (codeWord s.cur.mem a) →
    (fetchable a 1 s = .refused e → formPacket (fuel + 1) a bits s = .refused e)
    ∧ (fetchable a 1 s = .next none → bits + 16 * n ≤ 128 →
      (fetchable a n s = .refused e → formPacket (fuel + 1) a bits s = .refused e)
      ∧ (fetchable a n s = .next none → decode (codeBytes s.cur.mem a n) = .error .stackPointer →
        formPacket (fuel + 1) a bits s = .refused .spOperand)))
  ∧ (∀ (s u : State) (is : List Instr), runsPacket is 4294967296 s →
    execAll (arrange is) (openPacket 4294967296 (openStep s)) = .next u →
    u.cur.fault = none → u.pkt.halted = false → u.pkt.jumped = false → (∀ p, s.cur.pending = some p → 1 < p.remaining) →
    step s = .refused .pastTop)

/-- O22. Loads and stores in peripheral, ROM and FLASH regions complete. In order as to alignment and permission, a load from a
peripheral completes with some value and one report of the read; a store to a peripheral changes no memory and reports what it
wrote; a read-modify-write reports the read, then the write; a store to ROM or FLASH leaves memory as it was or holding the value.
The addresses stored to count as stored. These behaviours are the model's choices where the spec only names the regions (log entries
37 and 38). Rules: R122, R152, R371. -/
def Obligations.DeviceAndReadOnlyRegions : Prop :=
  ∀ (s : State) (r : Reg) (x : XReg) (q : StatusReg) (h : Half) (v : Byte) (m : Addr1) (g : Addr2) (a : Word) (b : Fin 16) (off : BitVec 28),
    (∀ p ∈ registerLoads r x m g a b off s, p.operand.addr.toNat % p.width = 0 →
      apAllows s.cfg false s.pre.ists.currlink s.pre.dsts.clink p.operand.addr = true → regionOf s.cfg p.operand.addr = some .peripheral →
      ∃ t, exec p.instr s = .next t ∧ t.outputs = .deviceRead p.operand.addr.toNat p.width :: s.outputs ∧ sideDone p.operand t
        ∧ onlyRegs (p.dests ++ sideRegs p.operand) s t)
    ∧ (∀ p ∈ allStores r x q h v m g a b off s, p.operand.addr.toNat % p.width = 0 →
      apAllows s.cfg true s.pre.ists.currlink s.pre.dsts.clink p.operand.addr = true →
      (regionOf s.cfg p.operand.addr = some .peripheral →
        ∃ t, StoreAttempt (exec p.instr s) p.width p.operand s t ∧ (∀ c, memByte t.cur.mem c = memByte s.cur.mem c)
          ∧ t.outputs = .deviceWrite p.operand.addr.toNat p.width p.value :: s.outputs)
      ∧ (regionOf s.cfg p.operand.addr = some .rom ∨ regionOf s.cfg p.operand.addr = some .flash →
        ∃ t, StoreAttempt (exec p.instr s) p.width p.operand s t ∧ t.outputs = s.outputs
          ∧ ((∀ c, memByte t.cur.mem c = memByte s.cur.mem c) ∨ ∀ k < p.width, newByte t p.operand.addr k = byteOf p.value k)))
    ∧ (∀ p ∈ allUpdates h v m s, p.operand.addr.toNat % p.width = 0 →
      apAllows s.cfg false s.pre.ists.currlink s.pre.dsts.clink p.operand.addr = true →
      apAllows s.cfg true s.pre.ists.currlink s.pre.dsts.clink p.operand.addr = true → regionOf s.cfg p.operand.addr = some .peripheral →
      ∃ t u, StoreAttempt (exec p.instr s) p.width p.operand s t ∧ (∀ c, memByte t.cur.mem c = memByte s.cur.mem c)
        ∧ t.outputs = .deviceWrite p.operand.addr.toNat p.width u :: .deviceRead p.operand.addr.toNat p.width :: s.outputs)

/-- O23. MV.8, MV.16, MV.32 and MV.64 copy memory to memory. Where both accesses are in order and the two modes write different
registers, the bytes of before the packet at the source are written at the destination, both side effects land, nothing else
changes. That MV.64, MV.16 and MV.8 copy memory to memory is the spec's inference from MV.32 (R402 to R404), and that the source
bytes are those of before the packet is decision D25 (log entry 29). Two modes that write one register are a refused packet
(PacketRestrictions). Rules: R400, R401, R402, R403, R404. -/
def Obligations.MemoryMoves : Prop :=
  ∀ (s : State),
    (∀ (d m : Addr1), (∀ r ∈ sideRegs (evalAddr1 d s), r ∉ sideRegs (evalAddr1 m s)) →
      (readOk (evalAddr1 m s).addr 1 s → writeOk (evalAddr1 d s).addr 1 s → MovesTo (exec (.mv8Addr1 d m) s) 1 (evalAddr1 d s) (evalAddr1 m s) s)
      ∧ (readOk (evalAddr1 m s).addr 2 s → writeOk (evalAddr1 d s).addr 2 s → MovesTo (exec (.mv16Addr1 d m) s) 2 (evalAddr1 d s) (evalAddr1 m s) s)
      ∧ (readOk (evalAddr1 m s).addr 4 s → writeOk (evalAddr1 d s).addr 4 s → MovesTo (exec (.mv32Addr1 d m) s) 4 (evalAddr1 d s) (evalAddr1 m s) s)
      ∧ (readOk (evalAddr1 m s).addr 8 s → writeOk (evalAddr1 d s).addr 8 s → MovesTo (exec (.mv64Addr1 d m) s) 8 (evalAddr1 d s) (evalAddr1 m s) s))
    ∧ (∀ (d m : Addr3), readOk (s.pre.a[m.x] + 4 * m.imm.setWidth 32) 4 s → writeOk (s.pre.a[d.x] + 4 * d.imm.setWidth 32) 4 s →
      MovesTo (exec (.mv32Addr3 d m) s) 4 (evalAddr3 d s) (evalAddr3 m s) s)

/-- O24. OR, AND and XOR of a memory halfword or byte with an immediate. Where the accesses are in order the instruction completes:
memory gets the old value combined with the immediate, then the mode's side effect. All but OR.16 are the spec's inference by
analogy. Rules: R410, R411, R413, R414, R418, R419. -/
def Obligations.ReadModifyWrites : Prop :=
  ∀ (s : State) (m : Addr1) (h : Half) (v : Byte),
    (readOk (evalAddr1 m s).addr 2 s → writeOk (evalAddr1 m s).addr 2 s →
        StoresTo (exec (.or16Addr1 m h) s) 2 ((oldHalf s (evalAddr1 m s).addr ||| h).setWidth 64) (evalAddr1 m s) s)
    ∧ (readOk (evalAddr1 m s).addr 2 s → writeOk (evalAddr1 m s).addr 2 s →
        StoresTo (exec (.and16Addr1 m h) s) 2 ((oldHalf s (evalAddr1 m s).addr &&& h).setWidth 64) (evalAddr1 m s) s)
    ∧ (readOk (evalAddr1 m s).addr 2 s → writeOk (evalAddr1 m s).addr 2 s →
        StoresTo (exec (.xor16Addr1 m h) s) 2 ((oldHalf s (evalAddr1 m s).addr ^^^ h).setWidth 64) (evalAddr1 m s) s)
    ∧ (readOk (evalAddr1 m s).addr 1 s → writeOk (evalAddr1 m s).addr 1 s →
        StoresTo (exec (.or8Addr1 m v) s) 1 ((oldByte s (evalAddr1 m s).addr 0 ||| v).setWidth 64) (evalAddr1 m s) s)
    ∧ (readOk (evalAddr1 m s).addr 1 s → writeOk (evalAddr1 m s).addr 1 s →
        StoresTo (exec (.and8Addr1 m v) s) 1 ((oldByte s (evalAddr1 m s).addr 0 &&& v).setWidth 64) (evalAddr1 m s) s)
    ∧ (readOk (evalAddr1 m s).addr 1 s → writeOk (evalAddr1 m s).addr 1 s →
        StoresTo (exec (.xor8Addr1 m v) s) 1 ((oldByte s (evalAddr1 m s).addr 0 ^^^ v).setWidth 64) (evalAddr1 m s) s)

/-- O25. A misaligned data access puts the CPU in the FAULT state and is not performed. Every load, store, read-modify-write and copy of
every form whose address is not a multiple of its width raises AddressingFault, where no fault was before; a load, a store, a read-
modify-write and a copy with a readable source leave memory alone. That the fault is the FAULT state is decision D15; that alignment
is tested before permission is the model's order (log entry 31). Rules: R130, R506, R372. -/
def Obligations.MisalignedAccessFaults : Prop :=
  ∀ (s : State) (r : Reg) (x : XReg) (q : StatusReg) (h : Half) (v : Byte) (d m : Addr1) (k j : Addr3) (g : Addr2)
    (a : Word) (b : Fin 16) (off : BitVec 28), s.cur.fault = none →
    (∀ p ∈ registerLoads r x m g a b off s ++ systemLoads q m a s, p.operand.addr.toNat % p.width ≠ 0 → FaultsWith (exec p.instr s) .addressingFault s)
    ∧ (∀ p ∈ allStores r x q h v m g a b off s ++ allUpdates h v m s, p.operand.addr.toNat % p.width ≠ 0 →
      FaultsWith (exec p.instr s) .addressingFault s)
    ∧ (∀ p ∈ allCopies d m k j s,
      (p.src.addr.toNat % p.width ≠ 0 → RaisesIn (exec p.instr s) .addressingFault)
      ∧ (readOk p.src.addr p.width s → p.dst.addr.toNat % p.width ≠ 0 → FaultsWith (exec p.instr s) .addressingFault s))

/-- O26. An access the SSU does not permit faults and reports an error, and what it denies a store leaves memory alone; an unmapped one
stops the model. Every aligned load, store, read-modify-write and copy of every form at an address whose access-protection range
does not permit the LINK raises ProtectionViolation and gives an error event. A denied load, a denied store, and a denied write of a
read-modify-write or copy whose read is in order leave memory alone; nothing is said of memory where the read of a read-modify-write
or the source of a copy is denied. A permitted access to an unmapped address stops the model. The outcome is decision D26, the order
of checks log entry 31, the stop decision D11 (log entry 32). Rules: R160, R163, R515, R166. -/
def Obligations.ForbiddenAccessFaults : Prop :=
  ∀ (s : State) (r : Reg) (x : XReg) (q : StatusReg) (h : Half) (v : Byte) (d m : Addr1) (k j : Addr3) (g : Addr2)
    (a : Word) (b : Fin 16) (off : BitVec 28), s.cur.fault = none →
    (∀ p ∈ registerLoads r x m g a b off s ++ systemLoads q m a s, p.operand.addr.toNat % p.width = 0 →
      (apAllows s.cfg false s.pre.ists.currlink s.pre.dsts.clink p.operand.addr = false → Denied (exec p.instr s) p.operand.addr s)
      ∧ (apAllows s.cfg false s.pre.ists.currlink s.pre.dsts.clink p.operand.addr = true → regionOf s.cfg p.operand.addr = none → exec p.instr s = .fault (.unmapped p.operand.addr.toNat)))
    ∧ (∀ p ∈ allStores r x q h v m g a b off s, p.operand.addr.toNat % p.width = 0 →
      (apAllows s.cfg true s.pre.ists.currlink s.pre.dsts.clink p.operand.addr = false → Denied (exec p.instr s) p.operand.addr s)
      ∧ (apAllows s.cfg true s.pre.ists.currlink s.pre.dsts.clink p.operand.addr = true → regionOf s.cfg p.operand.addr = none → exec p.instr s = .fault (.unmapped p.operand.addr.toNat)))
    ∧ (∀ p ∈ allUpdates h v m s, p.operand.addr.toNat % p.width = 0 →
      (apAllows s.cfg false s.pre.ists.currlink s.pre.dsts.clink p.operand.addr = false →
        ∃ t, exec p.instr s = .next t ∧ t.cur.fault = some .protectionViolation ∧ Output.accessError p.operand.addr.toNat ∈ t.outputs)
      ∧ (readOk p.operand.addr p.width s → apAllows s.cfg true s.pre.ists.currlink s.pre.dsts.clink p.operand.addr = false → Denied (exec p.instr s) p.operand.addr s)
      ∧ (apAllows s.cfg false s.pre.ists.currlink s.pre.dsts.clink p.operand.addr = true → regionOf s.cfg p.operand.addr = none → exec p.instr s = .fault (.unmapped p.operand.addr.toNat)))
    ∧ (∀ p ∈ allCopies d m k j s, p.src.addr.toNat % p.width = 0 → p.dst.addr.toNat % p.width = 0 →
      (apAllows s.cfg false s.pre.ists.currlink s.pre.dsts.clink p.src.addr = false →
        ∃ t, exec p.instr s = .next t ∧ t.cur.fault = some .protectionViolation ∧ Output.accessError p.src.addr.toNat ∈ t.outputs)
      ∧ (readOk p.src.addr p.width s → apAllows s.cfg true s.pre.ists.currlink s.pre.dsts.clink p.dst.addr = false → Denied (exec p.instr s) p.dst.addr s)
      ∧ (apAllows s.cfg false s.pre.ists.currlink s.pre.dsts.clink p.src.addr = true → regionOf s.cfg p.src.addr = none → exec p.instr s = .fault (.unmapped p.src.addr.toNat))
      ∧ (readOk p.src.addr p.width s → apAllows s.cfg true s.pre.ists.currlink s.pre.dsts.clink p.dst.addr = true → regionOf s.cfg p.dst.addr = none →
        exec p.instr s = .fault (.unmapped p.dst.addr.toNat)))

/-- O27. ADD.U16, SUB.U16, ADD and SUB wrap; on Dx only an overflow may set D.OV and D.OVNEG. The immediate and register forms wrap
modulo 2^32; SUB Rz,Ry,Rx takes the order SUB_RRR_ORDER says. On Ax no flag changes. On Dx D.OV and D.OVNEG are unchanged unless the
signed result does not fit; then they may be set, both or neither, never cleared, never changed once D.OV is set: R453 leaves them
unspecified and this is the model's reading within R73 (log entry 18). That the immediate of ADD and SUB is 16 bits and zero-
extended is the model's choice (log entry 24). Rules: R451, R452, R453, R454, R73, R77. -/
def Obligations.AddAndSub : Prop :=
  (∀ (s : State) (z y x : Fin 16) (u : Half),
    SetsReg (exec (.addU16 z y u) s) (.a z) (BitVec.ofNat 32 (s.pre.a[y].toNat + u.toNat)) s
    ∧ SetsReg (exec (.subU16 z y u) s) (.a z) (BitVec.ofNat 32 (s.pre.a[y].toNat + 4294967296 - u.toNat)) s
    ∧ SetsReg (exec (.addImm .a z y u) s) (.a z) (BitVec.ofNat 32 (s.pre.a[y].toNat + u.toNat)) s
    ∧ SetsReg (exec (.subImm .a z y u) s) (.a z) (BitVec.ofNat 32 (s.pre.a[y].toNat + 4294967296 - u.toNat)) s
    ∧ SetsReg (exec (.addReg .a z y x) s) (.a z) (BitVec.ofNat 32 (s.pre.a[y].toNat + s.pre.a[x].toNat)) s
    ∧ (s.cfg.subOrder = .yMinusX →
      SetsReg (exec (.subReg .a z y x) s) (.a z) (BitVec.ofNat 32 (s.pre.a[y].toNat + 4294967296 - s.pre.a[x].toNat)) s)
    ∧ (s.cfg.subOrder = .xMinusY →
      SetsReg (exec (.subReg .a z y x) s) (.a z) (BitVec.ofNat 32 (s.pre.a[x].toNat + 4294967296 - s.pre.a[y].toNat)) s))
  ∧ (∀ (s : State) (z y x : Fin 16) (u : Half),
    SumDone (exec (.addImm .d z y u) s) z (s.pre.d[y].toInt + (u.toNat : Int)) s
    ∧ SumDone (exec (.subImm .d z y u) s) z (s.pre.d[y].toInt - (u.toNat : Int)) s
    ∧ SumDone (exec (.addReg .d z y x) s) z (s.pre.d[y].toInt + s.pre.d[x].toInt) s
    ∧ (s.cfg.subOrder = .yMinusX → SumDone (exec (.subReg .d z y x) s) z (s.pre.d[y].toInt - s.pre.d[x].toInt) s)
    ∧ (s.cfg.subOrder = .xMinusY → SumDone (exec (.subReg .d z y x) s) z (s.pre.d[x].toInt - s.pre.d[y].toInt) s))

/-- O28. What each ADDR2, ADDR3 and DIRM mode computes: its address and its side effect. The eight ADDR2 modes for an access of 2^g
bytes on the base A(4+z), the ADDR3 mode and the two DIRM forms. That z = 0 to 3 name A4 to A7 is R200, which marks it as derived.
Rules: R200, R322, R323, R326, R327, R330, R331, R335, R336, R337, R339, R343. -/
def Obligations.Addr2Addr3AndDirectModes : Prop :=
  (∀ (s : State) (z : Fin 4) (g : Nat), g < 4 →
    evalAddr2 (.plain z) (2 ^ g) s = ⟨s.pre.a[4 + z.val], none⟩
    ∧ evalAddr2 (.idxA0 z) (2 ^ g) s = ⟨s.pre.a[4 + z.val] + (s.pre.a[0] <<< g), none⟩
    ∧ evalAddr2 (.idxA1 z) (2 ^ g) s = ⟨s.pre.a[4 + z.val] + (s.pre.a[1] <<< g), none⟩
    ∧ evalAddr2 (.postInc z) (2 ^ g) s = ⟨s.pre.a[4 + z.val], some (baseReg z, s.pre.a[4 + z.val] + BitVec.ofNat 32 (2 ^ g))⟩
    ∧ evalAddr2 (.postDec z) (2 ^ g) s = ⟨s.pre.a[4 + z.val], some (baseReg z, s.pre.a[4 + z.val] - BitVec.ofNat 32 (2 ^ g))⟩
    ∧ evalAddr2 (.preDec z) (2 ^ g) s = ⟨s.pre.a[4 + z.val] - BitVec.ofNat 32 (2 ^ g),
        some (baseReg z, s.pre.a[4 + z.val] - BitVec.ofNat 32 (2 ^ g))⟩
    ∧ evalAddr2 (.postA0 z) (2 ^ g) s = ⟨s.pre.a[4 + z.val], some (baseReg z, s.pre.a[4 + z.val] + s.pre.a[0])⟩
    ∧ evalAddr2 (.postA1 z) (2 ^ g) s = ⟨s.pre.a[4 + z.val], some (baseReg z, s.pre.a[4 + z.val] + s.pre.a[1])⟩
    ∧ (baseReg z).val = 4 + z.val)
  ∧ (∀ (s : State) (h : Addr3), evalAddr3 h s = ⟨s.pre.a[h.x] + 4 * h.imm.setWidth 32, none⟩)
  ∧ (∀ (s : State) (a : Word) (x : Fin 16) (off : BitVec 28),
    evalDirect a = ⟨a, none⟩ ∧ evalIndexed x off s = ⟨s.pre.a[x] + off.setWidth 32, none⟩)

/-- O29. MV of an immediate, of a register and of a pair, and MOV Ax,RPC. Each completes in every state and changes only its
destination. That MV moves a register and a pair is the spec's derived reading, which a model may provide (R456, N37). Rules: R455,
R456, R300. -/
def Obligations.RegisterMoves : Prop :=
  ∀ (s : State) (r q : Reg) (x y : XReg) (i : Word) (k : Fin 16),
    SetsReg (exec (.mvImm r i) s) r i s
    ∧ SetsReg (exec (.mvReg (.word r q)) s) r (readReg q s) s
    ∧ SetsReg (exec (.movRpc k) s) (.a k) s.pre.rpc s
    ∧ ∃ t, exec (.mvReg (.pair x y)) s = .next t ∧ curReg t (lowReg x) = readReg (lowReg y) s
        ∧ curReg t (highReg x) = readReg (highReg y) s ∧ onlyRegs [lowReg x, highReg x] s t

/-- O30. CMP writes the flags of its bank as one field; TBIT and TFLG write the one flag they name. In every state they complete. CMP
makes the compare flags of its bank the configuration function of the operands; the flag of a TBIT or TFLG takes some value (which
one the spec leaves open, the operand forms are log entry 17). Every other flag and register is unchanged. Rules: R457, R458, R459,
R77. -/
def Obligations.ComparesAndTestsWriteOneFlagField : Prop :=
  (∀ (s : State) (y x : Fin 16) (v w : Fin 32),
    (∃ t, exec (.cmp (.a y x)) s = .next t ∧ t.cur.dsts = { s.cur.dsts with flags := compareFlags false s.pre.a[y] s.pre.a[x] }
      ∧ t.cur.ests = s.cur.ests ∧ keepsAllButStatus s t)
    ∧ (∃ t, exec (.cmp (.d y x)) s = .next t ∧ t.cur.ests = { s.cur.ests with flags := compareFlags true s.pre.d[y] s.pre.d[x] }
      ∧ t.cur.dsts = s.cur.dsts ∧ keepsAllButStatus s t)
    ∧ (∃ t, exec (.cmp (.m v w)) s = .next t
      ∧ t.cur.ests = { s.cur.ests with zf := (compareFlagsM s.pre.m[v] s.pre.m[w]).1, nf := (compareFlagsM s.pre.m[v] s.pre.m[w]).2 }
      ∧ t.cur.dsts = s.cur.dsts ∧ keepsAllButStatus s t))
  ∧ (∀ (s : State) (f : TestFlag),
    (∃ t, exec (.tflg f) s = .next t ∧ keepsAllButStatus s t ∧ FlagFrame f s t)
    ∧ (∃ t, exec (.tbit (.flag f)) s = .next t ∧ keepsAllButStatus s t ∧ FlagFrame f s t)
    ∧ (∃ t b, exec (.tbit .az) s = .next t ∧ keepsAllButStatus s t ∧ t.cur.ests = s.cur.ests
        ∧ t.cur.dsts = { s.cur.dsts with flags := { s.cur.dsts.flags with z := b } })
    ∧ (∃ t b, exec (.tbit .dz) s = .next t ∧ keepsAllButStatus s t ∧ t.cur.dsts = s.cur.dsts
        ∧ t.cur.ests = { s.cur.ests with flags := { s.cur.ests.flags with z := b } })
    ∧ (∃ t b, exec (.tbit .mzf) s = .next t ∧ keepsAllButStatus s t ∧ t.cur.dsts = s.cur.dsts
        ∧ t.cur.ests = { s.cur.ests with zf := b }))

/-- O31. INC.CIRC and DEC.CIRC step an index around its limit; ADD.BITREV carries from bit i to bit i-1. With both registers below 2^31
the index steps by one or wraps at the limit; otherwise the result is some value (decision D23, log entry 21). Only Ay changes. Bit
i of rev32 is bit 31-i, and ADD.BITREV gives the reversal of the sum of the reversals; only Az changes. Rules: R462, R463, R464,
R465, R11. -/
def Obligations.CircularAndBitReversedUpdates : Prop :=
  (∀ (s : State) (y : Fin 4) (x : Fin 16),
    (s.pre.a[y.val].toNat < 2147483648 → s.pre.a[x].toNat < 2147483648 →
      SetsReg (exec (.incCirc y x) s) (.a (indexReg y))
        (if s.pre.a[x].toNat ≤ s.pre.a[y.val].toNat then 0 else BitVec.ofNat 32 (s.pre.a[y.val].toNat + 1)) s
      ∧ SetsReg (exec (.decCirc y x) s) (.a (indexReg y))
        (if s.pre.a[y.val].toNat = 0 then s.pre.a[x] else BitVec.ofNat 32 (s.pre.a[y.val].toNat - 1)) s)
    ∧ (∃ v, SetsReg (exec (.incCirc y x) s) (.a (indexReg y)) v s)
    ∧ (∃ v, SetsReg (exec (.decCirc y x) s) (.a (indexReg y)) v s))
  ∧ ((∀ (v : Word) (i : Nat), i < 32 → (rev32 v).getLsbD i = v.getLsbD (31 - i))
    ∧ ∀ (s : State) (z y x : Fin 16),
      SetsReg (exec (.addBitrev z y x) s) (.a z) (rev32 (rev32 s.pre.a[y] + rev32 s.pre.a[x])) s)

/-- O32. An asserted line sets its latch and its ISTS flag; a latch keeps the first instance. For every batch of events: the NMI latch
and NMIF are set exactly where the batch holds an NMI or they were set before; the RTINT and INT latches keep what they hold, else
take the first request of the batch, and RTINTF and INTF are set with them. That the first instance is the one kept outside debug
halt too is the model's reading (log entry 51). That nothing is latched in the FAULT state is the spec's decision D5 (R500) as the
model reads it (log entry 34, DESIGN CHOICE), not a word of R52, R101 or R520. Rules: R52, R101, R520, R500. -/
def Obligations.EventsSetLatches : Prop :=
  ∀ s : State,
    (s.cur.fault = none →
      (deliver s).cur.nmiPending = (s.cur.nmiPending || (nextBatch s).contains .nmi)
      ∧ (deliver s).cur.ists.nmif = (s.cur.ists.nmif || (nextBatch s).contains .nmi)
      ∧ (deliver s).cur.rtintPending = s.cur.rtintPending.or (firstRtint (nextBatch s))
      ∧ (deliver s).cur.ists.rtintf = (s.cur.ists.rtintf || (firstRtint (nextBatch s)).isSome)
      ∧ (deliver s).cur.intPending = s.cur.intPending.or (firstInt (nextBatch s))
      ∧ (deliver s).cur.ists.intf = (s.cur.ists.intf || (firstInt (nextBatch s)).isSome))
    ∧ (s.cur.fault ≠ none → (deliver s).cur = s.cur)

/-- O33. An IDLE CPU executes nothing until an interrupt enters. A packet of IDLE leaves the CPU idle with the program counter after it.
While idle, with no interrupt to take, a step changes nothing. A step that takes an interrupt ends the wait. All of it is decision
D43 from general knowledge (log entry 54 PRESUMED); a debug halt ends it too (DebugStates). Rules: R295. -/
def Obligations.IdleWaitsForInterrupt : Prop :=
  ∀ s : State,
    (∀ fin, runsPacket [.idle] fin s → staysInLink fin s →
      ∃ t, step s = .next t ∧ t.cur.idle = true ∧ t.cur.pc = BitVec.ofNat 32 fin ∧ t.cur.fault = none)
    ∧ (running s → s.cur.idle = true → choose s.cur = .packet →
      ∃ t, step s = .next t ∧ t.cur = s.cur ∧ t.outputs = s.outputs ∧ t.dbg = s.dbg)
    ∧ (running s → s.cur.idle = true → choose s.cur ≠ .packet → ∀ t, step s = .next t → t.cur.fault = none → t.cur.idle = false)

/-- O34. SMPYF, SADDF, ADDF, CRC and FTOS16 write one register with their configured result. In every state each completes. Mz of the
floating-point ones is the product or sum the configuration fixes (D46, log entry 22); CRC and FTOS16 write Dz with an open function
of their operands (log entry 23). After the floating-point ones and FTOS16 M.LUF and M.LVF may be set and are never cleared (log
entry 19). No other flag or register changes. That FTOS16 may set
M.LUF and M.LVF while CRC leaves them, and that none of the five changes D.OV or D.OVNEG, is the model's choice (log entry 19, DESIGN
CHOICE): R466 rules out the Z, N group alone, R467 names no flag, and R73 does not say which instructions can overflow. Rules: R466,
R467, R468, R469, R470, R73. -/
def Obligations.ConfiguredArithmetic : Prop :=
  (∀ (s : State) (z y x : Fin 32),
    FpDone (exec (.smpyf z y x) s) (.m z) (fmul32 s.cfg.fp s.pre.m[y] s.pre.m[x]) s
    ∧ FpDone (exec (.saddf z y x) s) (.m z) (fadd32 s.cfg.fp s.pre.m[y] s.pre.m[x]) s
    ∧ FpDone (exec (.addf z y x) s) (.m z) (fadd32 s.cfg.fp s.pre.m[y] s.pre.m[x]) s)
  ∧ (∀ (s : State) (z y x w : Fin 16) (v : Fin 32),
    SetsReg (exec (.crc z y x w) s) (.d z) (Config.crc s.pre.d[y] s.pre.d[x] s.pre.d[w]) s
    ∧ FpDone (exec (.ftos16 z v) s) (.d z) (Config.ftos16 s.pre.m[v]) s)

/-- O35. CALL{D} pushes RPC, steps SP by 8 and goes to its target; RET{D} goes to RPC and pops the previous one. With SP a multiple of
8, the stack writable and the target even and on the same STACK, CALL completes: the word at SP is the old RPC, SP grows by 8, RPC
is the address after the packet and control goes to the target; CALLD sets the delay and leaves RPC to the end of its slots. That
CALLD writes RPC at the end of its slots is D31 (log entry 40); nothing is said of SP+4 to SP+7, which are free (D39, log entry 39);
a target no EXE range covers passes the STACK check (log entry 41). With SP a multiple of 8, the slot readable and RPC even and on
the same STACK, RET completes: control goes to the old RPC, RPC is the word at SP-8, SP shrinks by 8, nothing else changes. The
delay is an operand (D31, log entry 40). Rules: R230, R232, R233, R234, R262. -/
def Obligations.CallsAndReturns : Prop :=
  (∀ (s : State) (target : Word) (x : Fin 16) (delay : Fin 8),
    s.cur.fault = none → s.pre.a[15].toNat % 8 = 0 → writeOk s.pre.a[15] 4 s → transferOk target s →
    CallDone (exec (.callLabel target delay) s) target delay s
    ∧ (s.pre.a[x] = target → CallDone (exec (.callReg x delay) s) target delay s))
  ∧ (∀ (s : State) (delay : Fin 8),
    s.cur.fault = none → s.pre.a[15].toNat % 8 = 0 → readOk (s.pre.a[15] - 8) 4 s → transferOk s.pre.rpc s →
    ∃ t, exec (.ret delay) s = .next t ∧ t.cur.rpc = oldWord s (s.pre.a[15] - 8) ∧ t.cur.a[15] = s.pre.a[15] - 8
      ∧ keepsRegs [.a 15] s t ∧ keepsMemory s t ∧ keepsStatus s t ∧ t.cur.ists = s.cur.ists ∧ keepsSystem s t
      ∧ FlowsTo s.pre.rpc delay .nothing s t)

/-- O36. Every step keeps CURRSP at the STACK of the code at the program counter. Outside the FAULT state CURRSP is the STACK of the
LINK of the program counter, where an EXE range covers it, and the target of a pending discontinuity lies on the STACK that CURRSP
will then name; a CPU in debug halt or waiting for a synchronous run has no discontinuity pending. If these hold they hold after
every step that answers a next state. The rule is the spec's inference (R55); that RETI.INT to another STACK faults, that a delayed
RETI.RTINT changes CURRSP with its jump and that CURRSP follows a program counter the debugger writes are the model's choices that
keep it (log entries 75, 71 and 55). Rules: R55, R237, R512. -/
def Obligations.StepKeepsStackOfLink : Prop :=
  ∀ s t : State, stackFollowsLink s → step s = .next t → stackFollowsLink t

/-- O37. CALL{D}, RET{D}, CALL.PROT, RET.PROT, RETI.INT and INT entry fault on a misaligned stack pointer. With SP not a multiple of 8
each raises StackMisaligned where no fault was before: CALL and RET whatever the target, CALL.PROT with room for its frame, RET.PROT
with its frame and RETI.INT, plain and delayed, in a handler (where they are not refused), and an INT entry to the current STACK.
The delayed form of RETI.INT is log entry 71 (DESIGN CHOICE: R260 has one, R287 leaves it unstated). Which instructions check is
D32; that this check is the first, but for IntWrongStack and a full stack, is the model's order (log entries 34 and 52). Rules:
R505, R232, R234, R246, R250, R287, R260, R533. -/
def Obligations.MisalignedStackFaults : Prop :=
  ∀ (s : State) (target : Word) (x : Fin 16) (delay : Fin 8), s.cur.fault = none →
    (s.pre.a[15].toNat % 8 ≠ 0 →
      RaisesIn (exec (.callLabel target delay) s) .stackMisaligned
      ∧ RaisesIn (exec (.callReg x delay) s) .stackMisaligned
      ∧ RaisesIn (exec (.ret delay) s) .stackMisaligned
      ∧ (s.pre.protStack.length < s.cfg.maxPsp → RaisesIn (exec (.callProtLabel target) s) .stackMisaligned
        ∧ RaisesIn (exec (.callProtReg x) s) .stackMisaligned)
      ∧ (∀ f rest, s.pre.protStack = f :: rest → s.pre.rpc = f.ret → (linkOf s.cfg f.ret).map (stackOf s.cfg) = some f.stack →
        RaisesIn (exec .retProt s) .stackMisaligned)
      ∧ (s.pre.dsts.ints = .int → s.pre.intSaves ≠ [] → RaisesIn (exec .retiInt s) .stackMisaligned ∧ RaisesIn (exec (.retiIntD delay) s) .stackMisaligned))
    ∧ (∀ q, openBoundary s → choose s.cur = .int q → q.vector.toNat % 2 = 0 → s.cur.a[15].toNat % 8 ≠ 0 →
      (∀ l, linkOf s.cfg q.vector = some l → stackOf s.cfg l = s.cur.ists.currsp) → RaisesIn (step s) .stackMisaligned)

/-- O38. CALL{D}, RET{D}, RETI.INT and taken branches to another STACK fault, and so does an INT whose vector is there. A plain call by
label or register, a return, and a taken branch, generic or BCMPZ, by label or register, whose target lies on a different STACK
raises CrossStackTransfer. So does RETI.INT, plain or delayed, in a handler: the model's choice (log entry 75), since R237 and R512
do not list it and R55 lets no other transfer between STACKs survive. An INT entry whose vector lies on a STACK other than CURRSP
raises IntWrongStack (decision D20, log entry 52). Rules: R55, R237, R512, R513. -/
def Obligations.CrossStackTransferFaults : Prop :=
  ∀ (s : State) (target : Word) (x : Fin 16) (tgt : BrTarget) (c : Cond) (d : DCond) (delay : Fin 8) (l : LinkId), s.cur.fault = none →
    (linkOf s.cfg target = some l → stackOf s.cfg l ≠ stackOf s.cfg s.pre.ists.currlink →
      (brTarget tgt s = target → condHolds c s.pre.dsts s.pre.ests = true → RaisesIn (exec (.branch tgt c delay) s) .crossStackTransfer)
      ∧ (bcmpzHolds d s.pre.d[x] s.pre.ests = true → RaisesIn (exec (.bcmpz target d x delay) s) .crossStackTransfer)
      ∧ (s.pre.a[15].toNat % 8 = 0 →
        RaisesIn (exec (.callLabel target delay) s) .crossStackTransfer
        ∧ (s.pre.a[x] = target → RaisesIn (exec (.callReg x delay) s) .crossStackTransfer)
        ∧ (s.pre.rpc = target → RaisesIn (exec (.ret delay) s) .crossStackTransfer)
        ∧ (s.pre.rpc = target → s.pre.dsts.ints = .int → s.pre.intSaves ≠ [] →
          RaisesIn (exec .retiInt s) .crossStackTransfer ∧ RaisesIn (exec (.retiIntD delay) s) .crossStackTransfer)))
    ∧ (∀ q, openBoundary s → choose s.cur = .int q → q.vector.toNat % 2 = 0 → linkOf s.cfg q.vector = some l →
      stackOf s.cfg l ≠ s.cur.ists.currsp → RaisesIn (step s) .intWrongStack)

/-- O39. The generic branch and BCMPZ go to their target exactly when the condition holds; paired conditions are complements. A branch
completes in every state in which a taken one has a legal target. B changes nothing but the flow. BCMPZ tests its register against
zero; it may write the D flags (which is open) and nothing else. A target no EXE range covers passes the STACK check (log entry 41);
that BCMPZ has delay slots is the model's reading (log entry 40, D31), and its conditions other than EQ and NEQ are those of log
entry 20. For every flag value EQ/NEQ, GT/LEQ, GEQ/LT, HI/LOS, HIS/LO and EQANDNZ/NEQORZ are complements in both banks, TAx.NZ is
the complement of TAx.Z. That they are complements is the spec's inference from their names (R62, log entry 15). Rules: R238, R239,
R262, R62, R72, R65. -/
def Obligations.BranchesGoOrFallThrough : Prop :=
  (∀ (s : State) (target : BrTarget) (label : Word) (c : Cond) (d : DCond) (x : Fin 16) (delay : Fin 8),
    ((condHolds c s.pre.dsts s.pre.ests = true → transferOk (brTarget target s) s) →
      ∃ t, exec (.branch target c delay) s = .next t ∧ onlyFlow s t ∧ keepsStatus s t
        ∧ (condHolds c s.pre.dsts s.pre.ests = true → FlowsTo (brTarget target s) delay .nothing s t)
        ∧ (condHolds c s.pre.dsts s.pre.ests = false → t = s))
    ∧ ((bcmpzHolds d s.pre.d[x] s.pre.ests = true → transferOk label s) →
      ∃ t f, exec (.bcmpz label d x delay) s = .next t ∧ onlyFlow s t ∧ t.cur.dsts = s.cur.dsts
        ∧ t.cur.ests = { s.cur.ests with flags := f }
        ∧ (bcmpzHolds d s.pre.d[x] s.pre.ests = true → FlowsTo label delay .nothing s t)
        ∧ (bcmpzHolds d s.pre.d[x] s.pre.ests = false → keepsFlow s t))
    ∧ (bcmpzHolds (.rel .eq) s.pre.d[x] s.pre.ests = true ↔ s.pre.d[x] = 0)
    ∧ (bcmpzHolds (.rel .neq) s.pre.d[x] s.pre.ests = true ↔ s.pre.d[x] ≠ 0))
  ∧ (∀ (f : Flags) (ov neg : Bool) (ds : Dsts) (es : Ests),
    (∀ p ∈ [(RelCond.eq, RelCond.neq), (.gt, .leq), (.geq, .lt), (.hi, .los), (.his, .lo), (.eqandnz, .neqorz)],
      condA p.1 f = !condA p.2 f ∧ condD (.rel p.1) f ov neg = !condD (.rel p.2) f ov neg)
    ∧ ∀ i : Fin 4, condHolds (.taZ i) ds es = !condHolds (.taNZ i) ds es)

/-- O40. CALL.PROT pushes RPC and a frame, LB.PROT neither; both swap stacks and expect the entry pair. With SP aligned, room on the
protected call stack, the stack writable and an even target, CALL.PROT completes with every effect of R246. With an even target
LB.PROT completes with the stack swap, CURRSP, CLINK, the cleared ATOMIC counter and the entry expectation; memory, RPC and PSP are
unchanged, and within one STACK A15. The frame, the push before the swap, the identity swap within one STACK, and that LB.PROT
pushes nothing, leaves RPC and PSP and does not check SP are decision D40 (log entry 44), not the source's words. Working registers
other than A15 are not claimed (R254, D42). Rules: R245, R246, R249, R255. -/
def Obligations.ProtectedCallAndBranch : Prop :=
  (∀ (s : State) (target : Word) (x : Fin 16) (l : LinkId),
    s.cur.fault = none → s.pre.a[15].toNat % 8 = 0 → s.pre.protStack.length < s.cfg.maxPsp → writeOk s.pre.a[15] 4 s →
    target.toNat % 2 = 0 → linkOf s.cfg target = some l →
    ProtCallDone (exec (.callProtLabel target) s) target (stackOf s.cfg l) s
    ∧ (s.pre.a[x] = target → ProtCallDone (exec (.callProtReg x) s) target (stackOf s.cfg l) s))
  ∧ (∀ (s : State) (target : Word) (l : LinkId), target.toNat % 2 = 0 → linkOf s.cfg target = some l →
    ∃ t, exec (.lbProt target) s = .next t ∧ keepsMemory s t ∧ t.cur.rpc = s.cur.rpc ∧ t.cur.protStack = s.cur.protStack
      ∧ SwapsTo (stackOf s.cfg l) (if stackOf s.cfg l = stackOf s.cfg s.pre.ists.currlink then s.cur.a[15] else s.pre.a[15]) s t
      ∧ ProtFlow target (stackOf s.cfg l) s t)

/-- O41. An uncorrectable memory error puts the CPU in the FAULT state. When the environment reports a double-bit error with a packet, a
step that answers a next state is in FAULT with EccDoubleBit, reports it, and no software breakpoint or debugger undoes it. It does
answer at an odd pc, where the fetch or the formation would stop the model or finds no legal packet, and for a lone NOP and an
EMUSTOP0. That the error is an event of the environment is decision D37; that it goes before a refusal of the fetch is the model's
choice (log entry 35). Rules: R503, R500, R105. -/
def Obligations.DoubleBitErrorFaults : Prop :=
  ∀ s : State, s.cfg.wf = true → s.inputs.headD [] = [.eccDoubleBit] → s.cur.fault = none → s.dbg.mode = .run →
    s.dbg.haltPending = false → choose s.cur = .packet → s.cur.idle = false →
    (∀ t, step s = .next t → t.cur.fault = some .eccDoubleBit ∧ Output.faultEntered .eccDoubleBit ∈ t.outputs)
    ∧ (s.cur.pc.toNat % 2 = 1 → ∃ t, step s = .next t)
    ∧ (s.cur.pc.toNat % 2 = 0 →
      ((∀ is fin, formPacket 8 s.cur.pc.toNat 0 (openStep s) ≠ .next (.packet is fin)) → ∃ t, step s = .next t)
      ∧ ∀ fin, fin < 4294967296 →
        formPacket 8 s.cur.pc.toNat 0 (openStep s) = .next (.packet [.nop] fin)
          ∨ formPacket 8 s.cur.pc.toNat 0 (openStep s) = .next (.packet [.emustop0] fin) → ∃ t, step s = .next t)

/-- O42. RET.PROT pops its frame, swaps back and expects EXIT.PROT. With SP aligned, the frame's return address in RPC, its STACK that
of the target and the slot readable, RET.PROT completes with every effect of R250; CLINK and the working registers but A15 are open.
The frame, whose pointer is the caller's and which pointer is checked are decision D40 (log entries 44 and 45). Rules: R250, R255. -/
def Obligations.ProtectedReturn : Prop :=
  ∀ (s : State) (f : ProtFrame) (rest : List ProtFrame),
    s.cur.fault = none → s.pre.a[15].toNat % 8 = 0 → s.pre.protStack = f :: rest → s.pre.rpc = f.ret →
    (linkOf s.cfg f.ret).map (stackOf s.cfg) = some f.stack → f.ret.toNat % 2 = 0 →
    readOk ((if f.stack = stackOf s.cfg s.pre.ists.currlink then s.pre.a[15] else s.pre.secsp[f.stack]) - 8) 4 s →
    ProtReturnDone (exec .retProt s) f rest
      ((if f.stack = stackOf s.cfg s.pre.ists.currlink then s.pre.a[15] else s.pre.secsp[f.stack]) - 8) s

/-- O43. ENTRY1.PROT, ENTRY2.PROT, EXIT.PROT, ISR2.PROT, NOP have no effect, EMUSTOP0 only under a debugger. Each completes in every
state and changes nothing. EMUSTOP0 has no effect where no debugger is connected, under free-run and in the FAULT state; where one
is connected it halts with the state of before the packet. That the markers do nothing outside their check is decision D41 (log
entry 46), NOP is the model's to provide (R308), and the debugger clauses go beyond D27 (log entry 55). Rules: R248, R252, R291,
R308, R296. -/
def Obligations.MarkersDoNothing : Prop :=
  ∀ s : State, NoEffect (exec .entry1Prot s) s ∧ NoEffect (exec .entry2Prot s) s ∧ NoEffect (exec .exitProt s) s
    ∧ NoEffect (exec .isr2Prot s) s ∧ NoEffect (exec .nop s) s
    ∧ (s.dbg.connected = false ∨ s.dbg.mode = .freeRun ∨ s.cur.fault ≠ none → NoEffect (exec .emustop0 s) s)
    ∧ (s.dbg.connected = true → s.dbg.mode ≠ .freeRun → s.cur.fault = none →
      ∃ t, exec .emustop0 s = .next t ∧ t.cur = s.pre ∧ t.pkt.halted = true ∧ t.dbg.mode = .halt)

/-- O44. ATOMIC, ENINT, DISINT, IDLE and LD.32 RPC,@MEM change one thing each. ATOMIC loads the counter when it is 0 and clears it
otherwise; ENINT and DISINT write INTE; IDLE stops packets; LD.32 RPC loads RPC. Nothing else changes. IDLE is decision D43 from
general knowledge (log entry 54 PRESUMED) and the ATOMIC limit decision D6 (log entry 47). Rules: R280, R281, R283, R285, R286,
R295, R301. -/
def Obligations.SystemInstructions : Prop :=
  ∀ (s : State) (n : BitVec 8) (a : Word),
    (n.toNat ≤ s.cfg.atomicMax → ∃ t, exec (.atomic n) s = .next t
      ∧ t.cur = { s.cur with ists := { s.cur.ists with atomic := if s.pre.ists.atomic = 0 then n else 0 } }
      ∧ (t.pkt.atomicLoaded = true ↔ s.pre.ists.atomic = 0 ∨ s.pkt.atomicLoaded = true) ∧ t.cfg = s.cfg)
    ∧ (s.cfg.atomicMax < n.toNat → s.cur.fault = none → exec (.atomic n) s = .refused (.atomicCount n.toNat))
    ∧ (∃ t, exec .enint s = .next t ∧ t.cur = { s.cur with dsts := { s.cur.dsts with inte := true } } ∧ t.pre = s.pre)
    ∧ (∃ t, exec .disint s = .next t ∧ t.cur = { s.cur with dsts := { s.cur.dsts with inte := false } } ∧ t.pre = s.pre)
    ∧ (∃ t, exec .idle s = .next t ∧ t.cur = { s.cur with idle := true } ∧ t.pre = s.pre)
    ∧ (readOk a 4 s → ∃ t, exec (.ldRpc a) s = .next t ∧ t.cur = { s.cur with rpc := oldWord s a } ∧ t.pre = s.pre)

/-- O45. ISR1.PROT loads A15 from the SECSP that CURRSP names. In every state ISR1.PROT completes; A15 becomes SECSP[CURRSP] and nothing
else changes. Rules: R290. -/
def Obligations.Isr1LoadsStackPointer : Prop :=
  ∀ s : State, SetsReg (exec .isr1Prot s) (.a 15) s.pre.secsp[s.pre.ists.currsp] s

/-- O46. Odd targets and returns without their frame are refused by name. Where no fault was before: with an odd target, a taken branch
of every form, BCMPZ, CALL, RET, CALL.PROT, LB.PROT, RET.PROT, RETI.INT and RETI.RTINT, delayed or not, are refused, the unprotected
transfers and RETI.INT with the target on the same STACK or without a LINK, those that use the software stack with SP a multiple of
8 and the access in order; so is an interrupt entry to an odd vector. With SP a multiple of 8 RET.PROT is refused with an empty
stack, and where RPC is not the return address of its frame or lies on another STACK than the frame's. RETI.INT outside an INT
handler and RETI.RTINT with an empty stack are refused whatever SP is. The model's choices: that an odd target is refused at the
transfer is decision D4 (log entry 59); the refusals of RET.PROT are D40 (log entry 45); the delayed returns are log entry 71; that
a target without a LINK passes the STACK check is log entry 41; that RETI.INT outside a handler is refused before R287's check of SP
is log entry 75. Rules: R42, R133, R250, R287, R288. -/
def Obligations.IllegalReturnsAndTargetsRefused : Prop :=
  (∀ (s : State) (target : Word) (tgt : BrTarget) (c : Cond) (d : DCond) (x : Fin 16) (delay : Fin 8),
    s.cur.fault = none → target.toNat % 2 = 1 →
    ((∀ l, linkOf s.cfg target = some l → stackOf s.cfg l = stackOf s.cfg s.pre.ists.currlink) →
      (brTarget tgt s = target → condHolds c s.pre.dsts s.pre.ests = true →
        exec (.branch tgt c delay) s = .refused (.oddTarget target.toNat))
      ∧ (bcmpzHolds d s.pre.d[x] s.pre.ests = true → exec (.bcmpz target d x delay) s = .refused (.oddTarget target.toNat))
      ∧ (s.pre.a[15].toNat % 8 = 0 → writeOk s.pre.a[15] 4 s →
        exec (.callLabel target delay) s = .refused (.oddTarget target.toNat)
        ∧ (s.pre.a[x] = target → exec (.callReg x delay) s = .refused (.oddTarget target.toNat)))
      ∧ (s.pre.a[15].toNat % 8 = 0 → readOk (s.pre.a[15] - 8) 4 s → s.pre.rpc = target →
        exec (.ret delay) s = .refused (.oddTarget target.toNat))
      ∧ (∀ v rest, s.pre.dsts.ints = .int → s.pre.intSaves = v :: rest → s.pre.a[15].toNat % 8 = 0 → s.pre.rpc = target →
        readOk (s.pre.a[15] - BitVec.ofNat 32 s.cfg.intFrameBytes) 4 s →
        exec .retiInt s = .refused (.oddTarget target.toNat) ∧ exec (.retiIntD delay) s = .refused (.oddTarget target.toNat)))
    ∧ (s.pre.a[15].toNat % 8 = 0 → s.pre.protStack.length < s.cfg.maxPsp → writeOk s.pre.a[15] 4 s →
      exec (.callProtLabel target) s = .refused (.oddTarget target.toNat)
      ∧ (s.pre.a[x] = target → exec (.callProtReg x) s = .refused (.oddTarget target.toNat)))
    ∧ exec (.lbProt target) s = .refused (.oddTarget target.toNat)
    ∧ (∀ f rest, s.pre.protStack = f :: rest → s.pre.a[15].toNat % 8 = 0 → s.pre.rpc = target → f.ret = target →
      (linkOf s.cfg target).map (stackOf s.cfg) = some f.stack →
      readOk ((if f.stack = stackOf s.cfg s.pre.ists.currlink then s.pre.a[15] else s.pre.secsp[f.stack]) - 8) 4 s →
      exec .retProt s = .refused (.oddTarget target.toNat))
    ∧ (∀ f rest, s.pre.rtStack = f :: rest → f.ret = target →
      exec .retiRtint s = .refused (.oddTarget target.toNat) ∧ exec (.retiRtintD delay) s = .refused (.oddTarget target.toNat)))
  ∧ (∀ (s : State) (delay : Fin 8), s.cur.fault = none →
    (s.pre.a[15].toNat % 8 = 0 →
      (s.pre.protStack = [] → exec .retProt s = .refused .retProtEmpty)
      ∧ (∀ f rest, s.pre.protStack = f :: rest →
        (s.pre.rpc ≠ f.ret ∨ (linkOf s.cfg s.pre.rpc).map (stackOf s.cfg) ≠ some f.stack) → exec .retProt s = .refused .retProtMismatch))
    ∧ (s.pre.dsts.ints ≠ .int → exec .retiInt s = .refused .retiIntOutside ∧ exec (.retiIntD delay) s = .refused .retiIntOutside)
    ∧ (s.pre.rtStack = [] → exec .retiRtint s = .refused .retiRtintEmpty ∧ exec (.retiRtintD delay) s = .refused .retiRtintEmpty))
  ∧ (∀ s : State, openBoundary s →
    (∀ q, choose s.cur = .rtint q → q.vector.toNat % 2 = 1 → step s = .refused (.oddTarget q.vector.toNat))
    ∧ (∀ q, choose s.cur = .int q → q.vector.toNat % 2 = 1 → step s = .refused (.oddTarget q.vector.toNat)))

/-- O47. Loads, stores, moves and masks of DSTS and ESTS; a software write changes the bits of 0x0001F04F of DSTS, all defined bits of
ESTS. A read gives all 32 bits of the status before the packet; a write goes through the software write of the register; where
memory is used the access is in order. The operand forms are the model's (log entry 13). Writing v to DSTS leaves CLINK, RLINK, INTS
and ISR PRIORITY and takes the other defined bits from v; reading ESTS after writing v gives v with the reserved bits 0. Rules:
R305, R70, R78. -/
def Obligations.StatusRegisterAccess : Prop :=
  (∀ (s : State) (q : StatusReg) (m : Addr1) (r : Reg) (v : Word),
    SetsReg (exec (.statusOp (.toReg q r)) s) r (readStatus q s) s
    ∧ (writeOk (evalAddr1 m s).addr 4 s →
      StoresTo (exec (.statusOp (.store q m)) s) 4 ((readStatus q s).setWidth 64) (evalAddr1 m s) s)
    ∧ StatusWritten (exec (.statusOp (.ofReg q r)) s) q (readReg r s) s
    ∧ StatusWritten (exec (.statusOp (.andImm q v)) s) q (readStatus q s &&& v) s
    ∧ StatusWritten (exec (.statusOp (.orImm q v)) s) q (readStatus q s ||| v) s
    ∧ (readOk (evalAddr1 m s).addr 4 s → ∃ t, exec (.statusOp (.load q m)) s = .next t
        ∧ t.cur.dsts = (if q = .dsts then writeDstsWord s.cur.dsts (oldWord s (evalAddr1 m s).addr) else s.cur.dsts)
        ∧ t.cur.ests = (if q = .ests then writeEstsWord (oldWord s (evalAddr1 m s).addr) else s.cur.ests)
        ∧ sideDone (evalAddr1 m s) t ∧ keepsRegs (sideRegs (evalAddr1 m s)) s t ∧ keepsMemory s t ∧ t.cur.rpc = s.cur.rpc
        ∧ t.cur.ists = s.cur.ists ∧ keepsSystem s t ∧ keepsFlow s t))
  ∧ ((∀ (r : Dsts) (v : Word), dstsWord (writeDstsWord r v) = (dstsWord r &&& ~~~ 0x0001F04F#32) ||| (v &&& 0x0001F04F#32))
    ∧ ∀ v : Word, estsWord (writeEstsWord v) = v &&& 0x00FFFF3F#32)

/-- O48. RETI.INT goes to RPC, pops the frame and restores INTS and ISR PRIORITY. In an INT handler with SP aligned, the slot readable
and RPC even and on the same STACK or without a LINK (log entries 75 and 41), RETI.INT completes: RPC is the word at the frame base,
SP drops by INT_FRAME_BYTES, INTS and ISR PRIORITY are those of before the entry, INTF clears with the last handler, whatever is
latched; INTE is fixed only where the parameter fixes it. The frame with RPC at its base and the hidden INTS are decision D17; that
the value false keeps the present INTE is the model's reading (log entry 48), as is that the flags, CLINK and RLINK stay, which R287
leaves open too. Control goes to the old RPC at once, or for the delayed form (R260) after its slots, everything else happening at
once (the model's reading, log entry 71). Rules: R287, R533, R535, R260, R262. -/
def Obligations.ReturnFromInt : Prop :=
  ∀ (s : State) (v : IntSave) (rest : List IntSave) (i : Instr) (delay : Fin 8),
    (i = .retiInt ∧ delay = 0) ∨ i = .retiIntD delay → s.cur.fault = none → s.pre.dsts.ints = .int → s.pre.intSaves = v :: rest →
    s.pre.a[15].toNat % 8 = 0 → readOk (s.pre.a[15] - BitVec.ofNat 32 s.cfg.intFrameBytes) 4 s → transferOk s.pre.rpc s →
    ∃ t, exec i s = .next t ∧ FlowsTo s.pre.rpc delay .nothing s t
      ∧ t.cur.rpc = oldWord s (s.pre.a[15] - BitVec.ofNat 32 s.cfg.intFrameBytes)
      ∧ t.cur.a[15] = s.pre.a[15] - BitVec.ofNat 32 s.cfg.intFrameBytes ∧ keepsRegs [.a 15] s t ∧ keepsMemory s t
      ∧ t.cur.dsts = { s.cur.dsts with ints := v.ints, prio := v.prio, inte := t.cur.dsts.inte } ∧ t.cur.ests = s.cur.ests
      ∧ (∀ b, s.cfg.retiIntRestoresInte = some b → t.cur.dsts.inte = if b then v.inte else s.cur.dsts.inte)
      ∧ t.cur.intSaves = rest
      ∧ (rest = [] → t.cur.ists.intf = false)
      ∧ (rest ≠ [] → t.cur.ists.intf = s.cur.ists.intf)
      ∧ t.cur.secsp = s.cur.secsp ∧ t.cur.protStack = s.cur.protStack ∧ t.cur.rtStack = s.cur.rtStack ∧ keepsLatches s t

/-- O49. RETI.RTINT restores every saved register and continues at the saved address. With a frame on the real-time interrupt stack and
an even return address, RETI.RTINT completes: all of A, D, M, RPC, DSTS and ESTS are the frame's, A15 goes to SECSP[CURRSP], CURRSP
is the STACK of the return address, the flag of the line is cleared when nothing of it remains. SECSP at the return is decision D44
(log entry 49). NMIF stays while an NMI is pending (R552) and RTINTF while an RTINT is (R545), where the pseudocode of R288 says
less. The delayed form (R260) defers the jump, and CURRSP with it, whose new value the pending discontinuity holds: the model's
reading of R55 (log entry 71). Rules: R288, R544, R545, R552, R260, R262. -/
def Obligations.ReturnFromRealtime : Prop :=
  ∀ (s : State) (f : RtFrame) (rest : List RtFrame) (i : Instr) (delay : Fin 8),
    (i = .retiRtint ∧ delay = 0) ∨ i = .retiRtintD delay → s.pre.rtStack = f :: rest → f.ret.toNat % 2 = 0 →
    ∃ t, exec i s = .next t ∧ t.cur.a = f.a ∧ t.cur.d = f.d ∧ t.cur.m = f.m ∧ t.cur.rpc = f.rpc ∧ t.cur.dsts = f.dsts
      ∧ t.cur.ests = f.ests ∧ FlowsTo f.ret delay (.currsp (stackAt s.cfg f.ret s.cur.ists.currsp)) s t ∧ t.cur.rtStack = rest
      ∧ t.cur.secsp[s.pre.ists.currsp] = s.pre.a[15]
      ∧ (∀ i : Fin 16, i ≠ s.pre.ists.currsp → t.cur.secsp[i] = s.cur.secsp[i])
      ∧ (∀ l, delay = 0 → linkOf s.cfg f.ret = some l → t.cur.ists.currsp = stackOf s.cfg l)
      ∧ (delay ≠ 0 → t.cur.ists.currsp = s.cur.ists.currsp)
      ∧ (s.pre.dsts.ints = .nmi → t.cur.ists.nmif = (s.cur.ists.nmif && s.cur.nmiPending) ∧ t.cur.ists.rtintf = s.cur.ists.rtintf)
      ∧ (s.pre.dsts.ints = .rtint → s.cur.rtintPending ≠ none → t.cur.ists.rtintf = s.cur.ists.rtintf)
      ∧ (s.pre.dsts.ints = .rtint → f.dsts.ints ≠ .rtint → (∀ g ∈ rest, g.dsts.ints ≠ .rtint) → s.cur.rtintPending = none →
          t.cur.ists.rtintf = false)
      ∧ keepsMemory s t ∧ t.cur.protStack = s.cur.protStack ∧ t.cur.intSaves = s.cur.intSaves ∧ keepsLatches s t

/-- O50. The instructions the spec names without semantics are refused by name. RET{D} <addr1>, XC, XCP, PRESERVE, ECCSELFTEST and the
named-only memory-operand instructions are refused in every state, with every operand. Rules: R235, R254, R270, R297, R405, R412,
R421, R424, R433. -/
def Obligations.NamedOnlyInstructionsRefused : Prop :=
  ∀ (s : State) (m : Addr1) (g : Addr2) (d : Fin 8) (a : Word) (b : Fin 16) (off : BitVec 28),
    exec (.add32Addr1 m) s = .refused (.noSemantics "ADD.32_ADDR1")
    ∧ exec (.addS16Addr1 m) s = .refused (.noSemantics "ADD.S16_ADDR1")
    ∧ exec (.addS8Addr1 m) s = .refused (.noSemantics "ADD.S8_ADDR1")
    ∧ exec (.andU16Addr1 m) s = .refused (.noSemantics "AND.U16_ADDR1")
    ∧ exec (.andU8Addr1 m) s = .refused (.noSemantics "AND.U8_ADDR1")
    ∧ exec (.andorB0Addr1 m) s = .refused (.noSemantics "ANDOR.B0_ADDR1")
    ∧ exec (.andorW0Addr1 m) s = .refused (.noSemantics "ANDOR.W0_ADDR1")
    ∧ exec (.mvU16Addr1 m) s = .refused (.noSemantics "MV.U16_ADDR1")
    ∧ exec (.mvU8Addr1 m) s = .refused (.noSemantics "MV.U8_ADDR1")
    ∧ exec (.retAddr1 m d) s = .refused (.noSemantics "RET_D__ADDR1")
    ∧ exec (.s16tofAddr1 m) s = .refused (.noSemantics "S16TOF_ADDR1")
    ∧ exec (.sub32Addr1 m) s = .refused (.noSemantics "SUB.32_ADDR1")
    ∧ exec (.subS16Addr1 m) s = .refused (.noSemantics "SUB.S16_ADDR1")
    ∧ exec (.subS8Addr1 m) s = .refused (.noSemantics "SUB.S8_ADDR1")
    ∧ exec (.subr32Addr1 m) s = .refused (.noSemantics "SUBR.32_ADDR1")
    ∧ exec (.subrS16Addr1 m) s = .refused (.noSemantics "SUBR.S16_ADDR1")
    ∧ exec (.subrS8Addr1 m) s = .refused (.noSemantics "SUBR.S8_ADDR1")
    ∧ exec (.u16tofAddr1 m) s = .refused (.noSemantics "U16TOF_ADDR1")
    ∧ exec (.and32Addr2 g) s = .refused (.noSemantics "AND.32_ADDR2")
    ∧ exec (.andorAddr2 g) s = .refused (.noSemantics "ANDOR_ADDR2")
    ∧ exec (.mv16Addr2 g) s = .refused (.noSemantics "MV.16_ADDR2")
    ∧ exec (.mv32Addr2 g) s = .refused (.noSemantics "MV.32_ADDR2")
    ∧ exec (.mv64Addr2 g) s = .refused (.noSemantics "MV.64_ADDR2")
    ∧ exec (.mv8Addr2 g) s = .refused (.noSemantics "MV.8_ADDR2")
    ∧ exec (.or32Addr2 g) s = .refused (.noSemantics "OR.32_ADDR2")
    ∧ exec (.xor32Addr2 g) s = .refused (.noSemantics "XOR.32_ADDR2")
    ∧ exec (.s16tofDirm a) s = .refused (.noSemantics "S16TOF_DIRM___u32imm")
    ∧ exec (.s16tofDirmIx b off) s = .refused (.noSemantics "S16TOF_DIRM____Ax+_u28imm")
    ∧ exec (.u16tofDirm a) s = .refused (.noSemantics "U16TOF_DIRM___u32imm")
    ∧ exec (.u16tofDirmIx b off) s = .refused (.noSemantics "U16TOF_DIRM____Ax+_u28imm")
    ∧ exec (.preserve) s = .refused (.noSemantics "PRESERVE")
    ∧ exec (.xc) s = .refused (.noSemantics "XC")
    ∧ exec (.xcp) s = .refused (.noSemantics "XCP")
    ∧ exec (.eccselftest) s = .refused (.noSemantics "ECCSELFTEST")

/-- O51. NMI and RTINT are taken at an open boundary and save everything; an NMI clears the ATOMIC counter. At a boundary with an NMI
pending outside an NMI handler the step takes it, whatever ATOMIC, INTE and the other lines say: the frame is pushed, the working
registers are 0, INTS is 3, the counter 0, the pc NMI_VECTOR and the ISR pair is expected. With an RTINT pending, no NMI pending,
the counter 0 and INTS not 3, the step takes it; INTE and INTSP play no part; below the stack limit (the limit is
HardwareStackLimits) it leaves INTS 2 and the priority of the request. SECSP at entry is decision D44, CLINK and RLINK kept is D18
(log entry 49); CURRSP of the handler is an inference the spec marks (R541). Rules: R521, R540, R541, R543, R546, R550. -/
def Obligations.RealtimeEntries : Prop :=
  (∀ s : State, openBoundary s → s.cur.nmiPending = true → s.cur.dsts.ints ≠ .nmi → s.cfg.nmiVector.toNat % 2 = 0 →
    ∃ t, step s = .next t ∧ EntersRealtime s.cfg.nmiVector s t ∧ t.cur.dsts.ints = .nmi ∧ t.cur.ists.atomic = 0
      ∧ t.cur.nmiPending = false ∧ t.cur.rtintPending = s.cur.rtintPending)
  ∧ (∀ (s : State) (q : RtRequest), openBoundary s → s.cur.nmiPending = false → s.cur.rtintPending = some q →
    s.cur.ists.atomic = 0 → s.cur.dsts.ints ≠ .nmi → q.vector.toNat % 2 = 0 → s.cur.rtStack.length + 1 < s.cfg.maxRtisp →
    ∃ t, step s = .next t ∧ EntersRealtime q.vector s t ∧ t.cur.dsts.ints = .rtint ∧ t.cur.dsts.prio = q.prio
      ∧ t.cur.rtintPending = none ∧ t.cur.nmiPending = false)

/-- O52. The debugger halts, runs, steps and writes the CPU as R581 to R586 say. A halt request is honoured at a boundary of the run
state before any interrupt, unless DBGM holds it off (polarity open, R63), and ends an IDLE; one that meets the CPU in debug halt has
no effect, so that a run, free-run, step or synchronous-run command after it acts. Each of the four commands gives a halted CPU the
state it names and does nothing otherwise; the signal starts a synchronous run. In debug halt and in the wait for a synchronous run a
step changes nothing but what the events changed; reset is ignored there and in a step without DINT. A single step runs one packet to
the next boundary with no interrupt unless DINT. Free run ignores break events. A software breakpoint goes before an interrupt. A
connected debugger writes registers, PC, RPC, DSTS and ESTS in debug halt only, bytes of memory at any time, both only where the SSU
allows it, by a criterion that is open (R165). The debugger is beyond decision D27: log entry 55 (ending an IDLE, DBGM not gating
EMUSTOP0, the halt request in debug halt, the form of the register writes, CURRSP and a marker still expected after a write of PC,
and no write to a peripheral are the model's choices). Rules: R581, R582, R583, R584, R585, R586, R295, R12, R142, R165. -/
def Obligations.DebugStates : Prop :=
  ∀ s : State, s.cfg.wf = true → s.cur.fault = none →
    (s.inputs = [] → s.dbg.connected = true → s.dbg.haltPending = true → s.dbg.mode = .run → s.cur.pending = none → s.cur.expect = .none →
      Config.dbgmAllows s.cur.dsts.dbgm = false
        ∨ ∃ t, step s = .next t ∧ t.cur = { s.cur with idle := false } ∧ t.dbg = { s.dbg with mode := .halt, haltPending := false })
    ∧ ((deliver s).dbg.mode = .halt ∨ (deliver s).dbg.mode = .waitSync →
      ∃ t, step s = .next t ∧ t.cur = (deliver s).cur ∧ t.dbg = (deliver s).dbg ∧ t.outputs = s.outputs)
    ∧ ((deliver s).dbg.mode = .singleStep false → resetHonoured (deliver s) = false)
    ∧ (s.dbg.connected = true → s.dbg.mode = .waitSync → nextBatch s = [.dbgSync] → (deliver s).dbg.mode = .run)
    ∧ (s.inputs = [] → s.dbg.mode = .freeRun → ∀ t, step s = .next t → t.dbg = s.dbg)
    ∧ (s.inputs = [] → s.dbg.mode = .singleStep false → ∀ t, step s = .next t →
      keepsLatches s t ∧ (t.cur.fault = none → t.cur.pending = none → t.cur.expect = .none → t.dbg.mode = .halt ∧ t.cur.idle = false))
    ∧ (∀ fin, s.inputs = [] → s.dbg.mode = .singleStep false → s.cur.pending = none → s.cur.expect = .none →
      s.cur.idle = false → s.cur.xcCover = 0 → s.cur.pc.toNat % 2 = 0 → staysInLink fin s →
      formPacket 8 s.cur.pc.toNat 0 (openStep s) = .next (.packet [.nop] fin) →
      ∃ t, step s = .next t ∧ t.cur.pc = BitVec.ofNat 32 fin ∧ t.dbg.mode = .halt ∧ t.cur.fault = none)
    ∧ (∀ fin, s.inputs = [] → s.dbg.mode = .run → s.dbg.connected = true → s.dbg.haltPending = false → s.cur.pending = none →
      s.cur.expect = .none → s.cur.idle = false → s.cur.xcCover = 0 → s.cur.pc.toNat % 2 = 0 →
      formPacket 8 s.cur.pc.toNat 0 (openStep s) = .next (.packet [.emustop0] fin) →
      ∃ t, step s = .next t ∧ t.dbg.mode = .halt ∧ t.cur = (openStep s).cur)
    ∧ (∀ r v, nextBatch s = [.dbgWrite (.reg r) v] →
      (s.dbg.connected = true → s.dbg.mode = .halt →
        (debugAllowed none s = true ∧ curReg (deliver s) r = v ∧ keepsRegs [r] s (deliver s))
        ∨ (debugAllowed none s = false ∧ (deliver s).cur = s.cur))
      ∧ (s.dbg.connected = false ∨ s.dbg.mode ≠ .halt → (deliver s).cur = s.cur))
    ∧ (∀ v, s.dbg.connected = true → s.dbg.mode = .halt →
      (nextBatch s = [.dbgWrite .pc v] → v.toNat % 2 = 0 → IfAllowed none s (deliver s)
        ((deliver s).cur = { s.cur with pc := v, ists := { s.cur.ists with currsp := stackAt s.cfg v s.cur.ists.currsp } }))
      ∧ (nextBatch s = [.dbgWrite .pc v] → v.toNat % 2 = 1 → (deliver s).cur = s.cur)
      ∧ (nextBatch s = [.dbgWrite .rpc v] → IfAllowed none s (deliver s) ((deliver s).cur = { s.cur with rpc := v }))
      ∧ (nextBatch s = [.dbgWrite (.status .dsts) v] →
        IfAllowed none s (deliver s) ((deliver s).cur = { s.cur with dsts := writeDstsWord s.cur.dsts v }))
      ∧ (nextBatch s = [.dbgWrite (.status .ests) v] →
        IfAllowed none s (deliver s) ((deliver s).cur = { s.cur with ests := writeEstsWord v })))
    ∧ (∀ r v, nextBatch s = [.dbgWrite r v] → s.dbg.connected = false ∨ s.dbg.mode ≠ .halt → (deliver s).cur = s.cur)
    ∧ (∀ a v, nextBatch s = [.dbgWriteMem a v] →
      (s.dbg.connected = true → IfAllowed (some a) s (deliver s)
        ((∀ k, regionOf s.cfg a = some k → k ≠ .peripheral → memByte (deliver s).cur.mem a.toNat = v)
        ∧ (regionOf s.cfg a = none ∨ regionOf s.cfg a = some .peripheral → (deliver s).cur = s.cur)
        ∧ keepsMemoryBut a 1 s (deliver s) ∧ (deliver s).cur = { s.cur with mem := (deliver s).cur.mem }))
      ∧ (s.dbg.connected = false → (deliver s).cur = s.cur))
    ∧ (s.dbg.connected = true →
      (nextBatch s = [.dbgHalt] → s.dbg.mode = .run → (deliver s).dbg = { s.dbg with haltPending := true })
      ∧ (nextBatch s = [.dbgHalt] → s.dbg.mode = .halt → (deliver s).dbg = s.dbg)
      ∧ ∀ c m dint, (c, m) ∈ [(Event.dbgRun, DebugMode.run), (.dbgFreeRun, .freeRun), (.dbgStep dint, .singleStep dint), (.dbgSyncRun, .waitSync)] →
        (nextBatch s = [c] ∨ nextBatch s = [.dbgHalt, c] → s.dbg.mode = .halt → (deliver s).dbg = { s.dbg with mode := m })
        ∧ (nextBatch s = [c] → s.dbg.mode ≠ .halt → (deliver s).dbg = s.dbg))
    ∧ (s.dbg.connected = false → ∀ c ∈ [Event.dbgHalt, .dbgRun, .dbgFreeRun, .dbgStep true, .dbgStep false, .dbgSyncRun, .dbgSync],
      nextBatch s = [c] → (deliver s).dbg = s.dbg)

/-- O53. The limits of the two hardware stacks fault, and their warning levels give a signal. With SP aligned and the protected call
stack full, CALL.PROT raises ProtectedCallStackFull and pushes no frame (that it faults before pushing is decision D40, log entry
44); otherwise a completing CALL.PROT that makes PSP reach WARNPSP gives the warning. An RTINT entry that leaves RTISP at MAXRTISP
faults with RtintStackFull or asserts the NMI, as RTISP_MAX_OUTCOME says (decision D19, log entry 50); one past MAXRTISP faults
whatever the parameter (log entry 50). Every RTINT entry that leaves RTISP at WARNRTISP or above gives the warning, at and past
MAXRTISP too. That an NMI entry gives it too is the model's own choice (log entry 50, DESIGN CHOICE, unsafe), since R546 says of NMI
entry that there is no check. Rules: R253, R507, R508, R517, R546. -/
def Obligations.HardwareStackLimits : Prop :=
  (∀ (s : State) (target : Word) (x : Fin 16), s.cur.fault = none → s.pre.a[15].toNat % 8 = 0 →
    (s.cfg.maxPsp ≤ s.pre.protStack.length →
      (∃ t, exec (.callProtLabel target) s = .next t ∧ t.cur.fault = some .protectedCallStackFull ∧ t.cur.protStack = s.cur.protStack)
      ∧ ∃ t, exec (.callProtReg x) s = .next t ∧ t.cur.fault = some .protectedCallStackFull ∧ t.cur.protStack = s.cur.protStack)
    ∧ (s.pre.protStack.length < s.cfg.maxPsp → writeOk s.pre.a[15] 4 s → s.pre.a[x] = target → target.toNat % 2 = 0 →
      ∃ t u, exec (.callProtLabel target) s = .next t ∧ exec (.callProtReg x) s = .next u ∧ t.outputs = u.outputs
        ∧ t.outputs = if s.pre.warnPsp ≤ s.pre.protStack.length + 1 then .pspWarning :: s.outputs else s.outputs))
  ∧ (∀ (s : State) (q : RtRequest), openBoundary s → s.cur.nmiPending = false → s.cur.rtintPending = some q →
    s.cur.ists.atomic = 0 → s.cur.dsts.ints ≠ .nmi → q.vector.toNat % 2 = 0 →
    (s.cur.rtStack.length + 1 = s.cfg.maxRtisp → s.cfg.rtispMaxOutcome = .fault →
      ∃ t, step s = .next t ∧ t.cur.fault = some .rtintStackFull ∧ t.outputs = .faultEntered .rtintStackFull ::
        if s.cur.warnRtisp ≤ s.cur.rtStack.length + 1 then .rtispWarning :: s.outputs else s.outputs)
    ∧ (s.cfg.maxRtisp ≤ s.cur.rtStack.length →
      ∃ t, step s = .next t ∧ t.cur.fault = some .rtintStackFull ∧ t.outputs = .faultEntered .rtintStackFull ::
        if s.cur.warnRtisp ≤ s.cur.rtStack.length + 1 then .rtispWarning :: s.outputs else s.outputs)
    ∧ (s.cur.rtStack.length + 1 = s.cfg.maxRtisp → s.cfg.rtispMaxOutcome = .raiseNmi →
      ∃ t, step s = .next t ∧ t.cur.fault = none ∧ t.cur.nmiPending = true ∧ t.cur.ists.nmif = true
        ∧ t.outputs = if s.cur.warnRtisp ≤ s.cur.rtStack.length + 1 then .rtispWarning :: s.outputs else s.outputs)
    ∧ (s.cur.rtStack.length + 1 < s.cfg.maxRtisp →
      ∃ t, step s = .next t
        ∧ t.outputs = if s.cur.warnRtisp ≤ s.cur.rtStack.length + 1 then .rtispWarning :: s.outputs else s.outputs))
  ∧ (∀ s : State, openBoundary s → s.cur.nmiPending = true → s.cur.dsts.ints ≠ .nmi → s.cfg.nmiVector.toNat % 2 = 0 →
    ∃ t, step s = .next t
      ∧ t.outputs = if s.cur.warnRtisp ≤ s.cur.rtStack.length + 1 then .rtispWarning :: s.outputs else s.outputs)

/-- O54. An INT is taken when it is allowed, pushes RPC and disables further INTs. With INTE 1 or a Supervisor Interrupt, the counter 0,
CURRSP equal to INTSP, no handler above INT, SP aligned and the stack writable, the step takes the INT: old RPC at SP, SP up by
INT_FRAME_BYTES, RPC the interrupted pc, INTS 1, the request's priority, INTE 0. The frame and the hidden saves are decision D17
(log entry 48); that the SSU checks every byte of the frame as a store of the interrupted code is the model's choice (log entry 52).
Rules: R530, R531, R532, R533. -/
def Obligations.IntEntry : Prop :=
  ∀ (s : State) (q : IntRequest) (l : LinkId), openBoundary s → s.cur.nmiPending = false → s.cur.rtintPending = none →
    s.cur.intPending = some q → (s.cur.dsts.inte = true ∨ q.supervisor = true) → s.cur.ists.atomic = 0 →
    s.cur.ists.currsp = s.cur.ists.intsp → (s.cur.dsts.ints = .main ∨ s.cur.dsts.ints = .int) → q.vector.toNat % 2 = 0 →
    (∀ k, linkOf s.cfg q.vector = some k → stackOf s.cfg k = s.cur.ists.currsp) → s.cur.a[15].toNat % 8 = 0 →
    8 ≤ s.cfg.intFrameBytes → s.cur.a[15].toNat + s.cfg.intFrameBytes ≤ 4294967296 →
    linkOf s.cfg s.cur.pc = some l → frameOk s.cur.a[15] s.cfg.intFrameBytes l s →
    ∃ t, step s = .next t ∧ newWord t s.cur.a[15] = s.cur.rpc ∧ keepsMemoryBut s.cur.a[15] s.cfg.intFrameBytes s t
      ∧ t.cur.a[15] = s.cur.a[15] + BitVec.ofNat 32 s.cfg.intFrameBytes ∧ keepsRegs [.a 15] s t
      ∧ t.cur.rpc = s.cur.pc ∧ t.cur.pc = q.vector
      ∧ t.cur.dsts = { s.cur.dsts with ints := .int, prio := q.prio, inte := false } ∧ t.cur.ests = s.cur.ests
      ∧ t.cur.intSaves = ⟨s.cur.dsts.ints, s.cur.dsts.prio, s.cur.dsts.inte⟩ :: s.cur.intSaves ∧ t.cur.intPending = none
      ∧ t.cur.ists = { s.cur.ists with currlink := l } ∧ t.cur.secsp = s.cur.secsp
      ∧ t.cur.protStack = s.cur.protStack ∧ t.cur.rtStack = s.cur.rtStack ∧ t.cur.idle = false ∧ t.cur.fault = none

/-- O55. What holds an interrupt off, line by line. While a delay slot is owed, a marker packet is expected or the first packet of an
INT handler has not run (the spec's inference on row 6, C25, log entry 68), nothing is taken; in an NMI handler nothing is taken;
with the ATOMIC counter not 0 only an NMI is; an INT needs INTE or the supervisor bit, CURRSP = INTSP and INTS 0 or 1; NMI goes
before RTINT and RTINT before INT. At such a boundary the step runs the packet or idles, and keeps the latches. Rules: R521, R525,
R526, R530, R540, R550, R555. -/
def Obligations.InterruptsHeldOff : Prop :=
  (∀ (c : Arch),
    ((c.pending ≠ none ∨ c.expect ≠ .none) → choose c = .packet)
    ∧ (c.dsts.ints = .nmi → choose c = .packet)
    ∧ (c.ists.atomic ≠ 0 → choose c = .packet ∨ choose c = .nmi)
    ∧ (∀ q, choose c = .int q → c.nmiPending = false ∧ c.intPending = some q ∧ (c.dsts.inte = true ∨ q.supervisor = true)
        ∧ c.ists.currsp = c.ists.intsp ∧ (c.dsts.ints = .main ∨ c.dsts.ints = .int)
        ∧ (c.rtintPending = none ∨ rtintAllowed c = false))
    ∧ (∀ q, choose c = .rtint q → c.rtintPending = some q ∧ c.nmiPending = false)
    ∧ (c.pending = none → c.expect = .none → c.nmiPending = true → c.dsts.ints ≠ .nmi → choose c = .nmi))
  ∧ (∀ s : State, running s → choose s.cur = .packet →
    step s = (if s.cur.idle then .next (settle s) else runPacket false s) ∧ ∀ t, step s = .next t → keepsLatches s t)

/-- O56. A step runs the instruction the bytes at the program counter decode to. At a boundary where no interrupt is chosen, if the
bytes at an even pc form a packet of one instruction i that the packing rules and markers allow, the step opens the packet
(snapshot, CURRLINK, pc past the packet), runs exec of i, and closes the packet (delay slots, ATOMIC counter, fault, linear check).
A packet of several runs exec of each in the model's order (log entry 61) between the same opening and closing; beside a write of
ESTS the sticky flags a sum or a floating-point operation may set are then free (log entry 76). Rules: R13, R41, R175. -/
def Obligations.StepRunsDecodedInstruction : Prop :=
  (∀ (s : State) (i : Instr) (n : Nat), running s →
    choose s.cur = .packet → s.cur.idle = false → s.cur.pc.toNat % 2 = 0 →
    n = sizeWords (codeWord s.cur.mem s.cur.pc.toNat) →
    fetchable s.cur.pc.toNat 1 (openStep s) = .next none → fetchable s.cur.pc.toNat n (openStep s) = .next none →
    decode (codeBytes s.cur.mem s.cur.pc.toNat n) = .ok (i, []) →
    (fld (codeWord s.cur.mem s.cur.pc.toNat) 15 1 = 1 ↔ s.cfg.ilinkLast = true) →
    packetRefusal [i] (openStep s) = none → missingMarker s.cur.expect [i] = none →
    step s = andThen (exec i (openPacket (s.cur.pc.toNat + 2 * n) (openStep s))) closePacket)
  ∧ (∀ (s : State) (is : List Instr) (fin : Nat), runsPacket is fin s →
    step s = andThen (execAll (arrange is) (openPacket fin (openStep s))) fun t => closePacket (stickyLate is (scrambleLate is t)))

/-- O57. The end of a packet: delay slots, the ATOMIC counter and linear execution. Closing a packet without a fault counts a delay slot
down or goes to the pending target (writing RPC for a CALLD, D31, log entry 40, and CURRSP for a delayed RETI.RTINT, log entry 71),
decrements the ATOMIC counter unless this packet loaded it (D6, log entry 47), and faults when it runs on into a packet of another
LINK (the fault and its time are D21, log entry 42), or, when no packet can be formed there, with InstructionTimeout, or
ProtectionViolation where the fetch is denied (the order of R516; log entry 69). A packet whose discontinuity is still pending, a
delay slot that is not the last included, counts as linear (log entry 42). Rules: R262, R233, R282, R240, R516. -/
def Obligations.PacketEnd : Prop :=
  ∀ (s : State), s.pkt.halted = false → s.cur.fault = none → s.pkt.wraps = false →
    (s.pre.pending = none → (s.pkt.jumped = true ∨ linkOf s.cfg s.cur.pc = some s.cur.ists.currlink) →
      ∃ t, closePacket s = .next t ∧ t.cur = { s.cur with ists := { s.cur.ists with
        atomic := if s.pkt.atomicLoaded then s.cur.ists.atomic else BitVec.ofNat 8 (s.cur.ists.atomic.toNat - 1) } })
    ∧ (∀ p, s.pre.pending = some p → p.remaining ≤ 1 →
      ∃ t, closePacket s = .next t ∧ t.cur = { s.cur with
        pc := p.target
        pending := none
        rpc := if p.late = .rpc then s.pkt.seqPc else s.cur.rpc
        ists := { s.cur.ists with
          atomic := if s.pkt.atomicLoaded then s.cur.ists.atomic else BitVec.ofNat 8 (s.cur.ists.atomic.toNat - 1)
          currsp := lateStack p.late s.cur.ists.currsp } })
    ∧ (∀ p, s.pre.pending = some p → 1 < p.remaining → linkOf s.cfg s.cur.pc = some s.cur.ists.currlink →
      ∃ t, closePacket s = .next t ∧ t.cur = { s.cur with
        pending := some { p with remaining := p.remaining - 1 }
        ists := { s.cur.ists with
          atomic := if s.pkt.atomicLoaded then s.cur.ists.atomic else BitVec.ofNat 8 (s.cur.ists.atomic.toNat - 1) } })
    ∧ (∀ l, (s.pre.pending = none ∨ ∃ p, s.pre.pending = some p ∧ 1 < p.remaining) → s.pkt.jumped = false → linkOf s.cfg s.cur.pc = some l → l ≠ s.cur.ists.currlink →
      (∀ is fin, formPacket 8 s.cur.pc.toNat 0 s = .next (.packet is fin) →
        ∃ t, closePacket s = .next t ∧ t.cur.fault = some .linearLinkCrossing)
      ∧ (formPacket 8 s.cur.pc.toNat 0 s = .next .undecodable →
        ∃ t, closePacket s = .next t ∧ t.cur.fault = some .instructionTimeout)
      ∧ (∀ a, formPacket 8 s.cur.pc.toNat 0 s = .next (.denied a) →
        ∃ t, closePacket s = .next t ∧ t.cur.fault = some .protectionViolation ∧ Output.accessError a ∈ t.outputs))

/-- O58. A packet without the required entry, exit or ISR markers faults. After CALL.PROT or LB.PROT a packet that is not exactly the
entry pair, after RET.PROT one without EXIT.PROT, after a real-time entry one without the ISR pair: if the step answers a next state
it is the FAULT state with that cause; and a lone NOP or an undecodable stream there does answer. That the entry packet is exactly
the pair is decision D41, and that the marker cause goes before an unformable packet follows R516 (log entry 46). Rules: R247, R251,
R292, R509, R510, R511, R516. -/
def Obligations.MissingMarkerFaults : Prop :=
  ∀ (s : State) (c : Cause), s.cfg.wf = true → s.inputs = [] → s.cur.fault = none → s.dbg = Debug.off → s.cur.idle = false → s.cur.pc.toNat % 2 = 0 →
    s.cur.pending = none →
    (∀ is fin, formPacket 8 s.cur.pc.toNat 0 (openStep s) = .next (.packet is fin) → missingMarker s.cur.expect is = some c →
      (∀ t, step s = .next t → t.cur.fault = some c) ∧ (is = [.nop] → ∃ t, step s = .next t))
    ∧ (formPacket 8 s.cur.pc.toNat 0 (openStep s) = .next .undecodable → missingMarker s.cur.expect [] = some c →
      ∃ t, step s = .next t ∧ t.cur.fault = some c)

/-- O59. Where no legal packet can be formed the CPU faults, with InstructionTimeout or for a denied fetch ProtectionViolation, and
executes nothing. At a boundary where no interrupt is chosen and nothing is expected, if no legal packet can be formed at the pc the
step enters FAULT with InstructionTimeout; registers and memory are unchanged. That it does so at once is D36, and that an undefined
opcode is such a case D14 (log entry 58). Where the SSU denies the fetch (no EXE range) the cause is ProtectionViolation and an
error is reported: decision D26, where R161 derives the timeout (log entry 69). Rules: R175, R181, R504, R515. -/
def Obligations.UndecodableStreamTimesOut : Prop :=
  ∀ (s : State), s.cfg.wf = true → s.inputs = [] → s.cur.fault = none → s.dbg = Debug.off → s.cur.idle = false → s.cur.pc.toNat % 2 = 0 →
    choose s.cur = .packet → (s.cur.expect = .none ∨ s.cur.expect = .firstOfInt) →
    (formPacket 8 s.cur.pc.toNat 0 (openStep s) = .next .undecodable →
      ∃ t, step s = .next t ∧ t.cur.fault = some .instructionTimeout ∧ t.cur.mem = s.cur.mem ∧ keepsRegs [] s t ∧ t.cur.pc = s.cur.pc)
    ∧ (∀ a, formPacket 8 s.cur.pc.toNat 0 (openStep s) = .next (.denied a) →
      ∃ t, step s = .next t ∧ t.cur.fault = some .protectionViolation
        ∧ Output.accessError a ∈ t.outputs ∧ t.cur.mem = s.cur.mem ∧ keepsRegs [] s t ∧ t.cur.pc = s.cur.pc)

/-- O60. A packet whose destinations clash or that breaks a restriction is refused at the step. A formed packet that lacks no marker and
that the packing rules refuse makes the step a refusal by that name. Refused are: two clashing destinations, such as a load over the
pointer its own mode writes, or two discontinuities that go; more than two loads or one store; a discontinuity, an IDLE or an
EMUSTOP0 in a delay slot; MOV Ax,RPC and LD.32 RPC in a CALL delay slot; an IDLE with company; an ATOMIC beside a RET. Two
conditional branches of which at most one goes are accepted (R177), and so are a write of ESTS beside an instruction that may set
sticky flags (log entry 76), an LB.PROT within its STACK beside a write of A15, and an ENINT or DISINT beside a RETI.INT exactly
where the parameter has that leave INTE (log entry 48). That such packets are refused is decision D24 (log entry 28). Rules: R18,
R19, R177, R348, R220, R221, R263. -/
def Obligations.PacketRestrictions : Prop :=
  (∀ (s : State) (is : List Instr) (fin : Nat) (e : Refusal), running s → choose s.cur = .packet → s.cur.idle = false →
    s.cur.pc.toNat % 2 = 0 → formPacket 8 s.cur.pc.toNat 0 (openStep s) = .next (.packet is fin) → missingMarker s.cur.expect is = none →
    packetRefusal is (openStep s) = some e → step s = .refused e)
  ∧ (∀ (s : State) (is : List Instr) (x y : Dst) (l1 l2 l3 : List Dst),
    packetDsts is s = l1 ++ x :: (l2 ++ y :: l3) → x.clash y = true → packetRefusal is s = some .doubleWrite)
  ∧ (∀ (s : State) (is : List Instr), distinctDsts (packetDsts is s) = true →
    2 < (is.map fun i => (profile i).loads).sum ∨ 1 < (is.map fun i => (profile i).stores).sum →
    packetRefusal is s = some .tooManyAccesses)
  ∧ (∀ (s : State) (x : Fin 16) (i : BitVec 8), packetRefusal [.ld32Addr1 (.a x) (.postInc x i)] s = some .doubleWrite)
  ∧ (∀ (s : State) (i j : Instr) (t u : BrTarget) (c e : Cond) (w : Word) (d : DCond) (x : Fin 16) (m n k : Fin 8),
    i = .branch t c m → j = .branch u e n ∨ j = .bcmpz w d x k →
    (goes i s = true → goes j s = true → packetRefusal [i, j] s = some .doubleWrite ∧ packetRefusal [j, i] s = some .doubleWrite)
    ∧ (goes i s = false ∨ goes j s = false → s.cur.pending = none → s.cur.xcCover = 0 →
      packetRefusal [i, j] s = none ∧ packetRefusal [j, i] s = none))
  ∧ (∀ (s : State) (i j : Instr) (r : Reg) (m : Addr1) (w : Word), s.cur.pending = none → s.cur.xcCover = 0 →
    i = .statusOp (.ofReg .ests r) ∨ i = .statusOp (.load .ests m) ∨ i = .statusOp (.andImm .ests w) ∨ i = .statusOp (.orImm .ests w) →
    Dst.ovFlags ∈ (profile j).dests ∨ Dst.fpFlags ∈ (profile j).dests →
    packetRefusal [i, j] s = none ∧ packetRefusal [j, i] s = none)
  ∧ (∀ (s : State) (a : Word) (y : Fin 16) (u : Half), s.cur.pending = none → s.cur.xcCover = 0 →
    packetRefusal [.lbProt a, .addU16 15 y u] s
      = if targetStack a s = stackOf s.cfg s.pre.ists.currlink then none else some .doubleWrite)
  ∧ (∀ (s : State) (i j : Instr) (d : Fin 8), s.cur.pending = none → s.cur.xcCover = 0 → i = .retiInt ∨ i = .retiIntD d →
    j = .enint ∨ j = .disint →
    packetRefusal [i, j] s = if s.cfg.retiIntRestoresInte = some false then none else some .doubleWrite)
  ∧ (∀ (s : State) (p : Pending), s.cur.pending = some p →
    (∀ i : Instr, (profile i).disc = true → packetRefusal [i] s = some (.placement 1))
    ∧ packetRefusal [.idle] s = some (.placement 2) ∧ packetRefusal [.emustop0] s = some (.placement 6)
    ∧ ∀ (x : Fin 16) (a : Word), p.late = .rpc → s.cur.xcCover = 0 →
      packetRefusal [.movRpc x] s = some (.placement 9) ∧ packetRefusal [.ldRpc a] s = some (.placement 9))
  ∧ (∀ s : State, s.cur.pending = none → s.cur.xcCover = 0 →
    (∀ i : Instr, i ≠ .idle → distinctDsts (packetDsts [.idle, i] s) = true → (profile i).loads ≤ 2 → (profile i).stores ≤ 1 →
      packetRefusal [.idle, i] s = some (.placement 4))
    ∧ ∀ (n : BitVec 8) (d : Fin 8), packetRefusal [.atomic n, .ret d] s = some (.placement 21))
end

