-- ==== Sys2Proof/Laws/PerInstr.lean ====
section
/-! SUPPORT. One lemma per constructor of `Instr`: the encoder's words agree with the size the first word announces (R172). -/

namespace Sys2Proof.Laws

/-- A register number fits six bits. -/
theorem regCode_lt (r : Reg) : regCode r < 64 := by cases r <;> simp [regCode] <;> omega

/-- A pair number fits five bits. -/
theorem xregCode_lt (x : XReg) : xregCode x < 32 := by cases x <;> simp [xregCode] <;> omega

/-- An ADDR2 field fits five bits. -/
theorem addr2Code_lt (m : Addr2) : addr2Code m < 32 := by cases m <;> simp [addr2Code] <;> omega

/-- A condition number fits six bits. -/
theorem condCode_lt (c : Cond) : condCode c < 64 := by
  cases c with
  | a r => cases r <;> simp [condCode, relCode]
  | d d => cases d with
    | rel r => cases r <;> simp [condCode, dcondCode, relCode]
    | ov => simp [condCode, dcondCode]
    | ovneg => simp [condCode, dcondCode]
  | taZ i => simp [condCode]; omega
  | taNZ i => simp [condCode]; omega
  | always => simp [condCode]
  | taMap l => simp [condCode]

/-- A D condition number fits four bits. -/
theorem dcondCode_lt (c : DCond) : dcondCode c < 16 := by
  cases c with
  | rel r => cases r <;> simp [dcondCode, relCode]
  | ov => simp [dcondCode]
  | ovneg => simp [dcondCode]

/-- A flag number fits three bits. -/
theorem flagCode_lt (f : TestFlag) : flagCode f < 8 := by cases f <;> simp [flagCode] <;> omega

/-- A TBIT destination number fits six bits. -/
theorem testCode_lt (t : TestDst) : testCode t < 16 := by
  cases t with
  | flag f => have := flagCode_lt f; simp [testCode]; omega
  | az => simp [testCode]
  | dz => simp [testCode]
  | mzf => simp [testCode]

/-- The first word of a 16-bit instruction says one word. -/
theorem sizeWords_one (w : Nat) (h1 : 16384 ≤ w) (h2 : w < 32768) : sizeWords w = 1 := by
  have : fld w 14 1 = 1 := by simp only [fld]; omega
  simp [sizeWords, this]

/-- The first word of a 32-bit instruction says two words. -/
theorem sizeWords_two (w : Nat) (h1 : 8192 ≤ w) (h2 : w < 16384) : sizeWords w = 2 := by
  have a : fld w 14 1 = 0 := by simp only [fld]; omega
  have b : fld w 13 1 = 1 := by simp only [fld]; omega
  simp [sizeWords, a, b]

/-- The first word of a 48-bit instruction says three words. -/
theorem sizeWords_three (w : Nat) (h : w < 8192) : sizeWords w = 3 := by
  have a : fld w 14 1 = 0 := by simp only [fld]; omega
  have b : fld w 13 1 = 0 := by simp only [fld]; omega
  simp [sizeWords, a, b]

/-- One word. -/
theorem count_one (w : Nat) (h1 : 16384 ≤ w) (h2 : w < 32768) : sizeWords ([w].headD 0) = [w].length := sizeWords_one w h1 h2

/-- Two words. -/
theorem count_two (w v : Nat) (h1 : 8192 ≤ w) (h2 : w < 16384) : sizeWords ([w, v].headD 0) = [w, v].length :=
  sizeWords_two w h1 h2

/-- Three words. -/
theorem count_three (w v u : Nat) (h : w < 8192) : sizeWords ([w, v, u].headD 0) = [w, v, u].length := sizeWords_three w h

namespace WordCount

/-- An instruction has as many words as its first word announces. -/
def Statement (i : Instr) : Prop := sizeWords ((encode i).headD 0) = (encode i).length

/-- Word count of `ADD.32_ADDR1`. -/
theorem add32Addr1 (m : Addr1) : Statement (.add32Addr1 m) := by
  exact count_two _ _ (by omega) (by omega)

/-- Word count of `ADD.S16_ADDR1`. -/
theorem addS16Addr1 (m : Addr1) : Statement (.addS16Addr1 m) := by
  exact count_two _ _ (by omega) (by omega)

/-- Word count of `ADD.S8_ADDR1`. -/
theorem addS8Addr1 (m : Addr1) : Statement (.addS8Addr1 m) := by
  exact count_two _ _ (by omega) (by omega)

/-- Word count of `AND.16_ADDR1__x16`. -/
theorem and16Addr1 (m : Addr1) (imm : Half) : Statement (.and16Addr1 m imm) := by
  exact count_three _ _ _ (by omega)

/-- Word count of `AND.8_ADDR1`. -/
theorem and8Addr1 (m : Addr1) (imm : Byte) : Statement (.and8Addr1 m imm) := by
  exact count_three _ _ _ (by omega)

/-- Word count of `AND.U16_ADDR1`. -/
theorem andU16Addr1 (m : Addr1) : Statement (.andU16Addr1 m) := by
  exact count_two _ _ (by omega) (by omega)

/-- Word count of `AND.U8_ADDR1`. -/
theorem andU8Addr1 (m : Addr1) : Statement (.andU8Addr1 m) := by
  exact count_two _ _ (by omega) (by omega)

/-- Word count of `ANDOR.B0_ADDR1`. -/
theorem andorB0Addr1 (m : Addr1) : Statement (.andorB0Addr1 m) := by
  exact count_two _ _ (by omega) (by omega)

/-- Word count of `ANDOR.W0_ADDR1`. -/
theorem andorW0Addr1 (m : Addr1) : Statement (.andorW0Addr1 m) := by
  exact count_two _ _ (by omega) (by omega)

/-- Word count of `LD.32_ADDR1`. -/
theorem ld32Addr1 (r : Reg) (m : Addr1) : Statement (.ld32Addr1 r m) := by
  have := regCode_lt r
  exact count_two _ _ (by omega) (by omega)

/-- Word count of `LD.64_ADDR1`. -/
theorem ld64Addr1 (x : XReg) (m : Addr1) : Statement (.ld64Addr1 x m) := by
  have := xregCode_lt x
  exact count_two _ _ (by omega) (by omega)

/-- Word count of `LD.B0_ADDR1`. -/
theorem ldB0Addr1 (r : Reg) (m : Addr1) : Statement (.ldB0Addr1 r m) := by
  have := regCode_lt r
  exact count_two _ _ (by omega) (by omega)

/-- Word count of `LD.B1_ADDR1`. -/
theorem ldB1Addr1 (r : Reg) (m : Addr1) : Statement (.ldB1Addr1 r m) := by
  have := regCode_lt r
  exact count_two _ _ (by omega) (by omega)

/-- Word count of `LD.B2_ADDR1`. -/
theorem ldB2Addr1 (r : Reg) (m : Addr1) : Statement (.ldB2Addr1 r m) := by
  have := regCode_lt r
  exact count_two _ _ (by omega) (by omega)

/-- Word count of `LD.B3_ADDR1`. -/
theorem ldB3Addr1 (r : Reg) (m : Addr1) : Statement (.ldB3Addr1 r m) := by
  have := regCode_lt r
  exact count_two _ _ (by omega) (by omega)

/-- Word count of `LD.S16_ADDR1`. -/
theorem ldS16Addr1 (r : Reg) (m : Addr1) : Statement (.ldS16Addr1 r m) := by
  have := regCode_lt r
  exact count_two _ _ (by omega) (by omega)

/-- Word count of `LD.S8_ADDR1`. -/
theorem ldS8Addr1 (r : Reg) (m : Addr1) : Statement (.ldS8Addr1 r m) := by
  have := regCode_lt r
  exact count_two _ _ (by omega) (by omega)

/-- Word count of `LD.U16_ADDR1`. -/
theorem ldU16Addr1 (r : Reg) (m : Addr1) : Statement (.ldU16Addr1 r m) := by
  have := regCode_lt r
  exact count_two _ _ (by omega) (by omega)

/-- Word count of `LD.U8_ADDR1`. -/
theorem ldU8Addr1 (r : Reg) (m : Addr1) : Statement (.ldU8Addr1 r m) := by
  have := regCode_lt r
  exact count_two _ _ (by omega) (by omega)

/-- Word count of `LD.W0_ADDR1`. -/
theorem ldW0Addr1 (r : Reg) (m : Addr1) : Statement (.ldW0Addr1 r m) := by
  have := regCode_lt r
  exact count_two _ _ (by omega) (by omega)

/-- Word count of `LD.W1_ADDR1`. -/
theorem ldW1Addr1 (r : Reg) (m : Addr1) : Statement (.ldW1Addr1 r m) := by
  have := regCode_lt r
  exact count_two _ _ (by omega) (by omega)

/-- Word count of `MV.16_ADDR1_ADDR1`. -/
theorem mv16Addr1 (dst : Addr1) (src : Addr1) : Statement (.mv16Addr1 dst src) := by
  exact count_three _ _ _ (by omega)

/-- Word count of `MV.32_ADDR1_ADDR1`. -/
theorem mv32Addr1 (dst : Addr1) (src : Addr1) : Statement (.mv32Addr1 dst src) := by
  exact count_three _ _ _ (by omega)

/-- Word count of `MV.64_ADDR1_ADDR1`. -/
theorem mv64Addr1 (dst : Addr1) (src : Addr1) : Statement (.mv64Addr1 dst src) := by
  exact count_three _ _ _ (by omega)

/-- Word count of `MV.8_ADDR1_ADDR1`. -/
theorem mv8Addr1 (dst : Addr1) (src : Addr1) : Statement (.mv8Addr1 dst src) := by
  exact count_three _ _ _ (by omega)

/-- Word count of `MV.U16_ADDR1`. -/
theorem mvU16Addr1 (m : Addr1) : Statement (.mvU16Addr1 m) := by
  exact count_two _ _ (by omega) (by omega)

/-- Word count of `MV.U8_ADDR1`. -/
theorem mvU8Addr1 (m : Addr1) : Statement (.mvU8Addr1 m) := by
  exact count_two _ _ (by omega) (by omega)

/-- Word count of `OR.16_ADDR1__x16`. -/
theorem or16Addr1 (m : Addr1) (imm : Half) : Statement (.or16Addr1 m imm) := by
  exact count_three _ _ _ (by omega)

/-- Word count of `OR.8_ADDR1`. -/
theorem or8Addr1 (m : Addr1) (imm : Byte) : Statement (.or8Addr1 m imm) := by
  exact count_three _ _ _ (by omega)

/-- Word count of `RET_D__ADDR1`. -/
theorem retAddr1 (m : Addr1) (delay : Fin 8) : Statement (.retAddr1 m delay) := by
  exact count_two _ _ (by omega) (by omega)

/-- Word count of `S16TOF_ADDR1`. -/
theorem s16tofAddr1 (m : Addr1) : Statement (.s16tofAddr1 m) := by
  exact count_two _ _ (by omega) (by omega)

/-- Word count of `ST.16_ADDR1`. -/
theorem st16Addr1 (m : Addr1) (imm : Half) : Statement (.st16Addr1 m imm) := by
  exact count_three _ _ _ (by omega)

/-- Word count of `ST.32_ADDR1`. -/
theorem st32Addr1 (m : Addr1) (r : Reg) : Statement (.st32Addr1 m r) := by
  have := regCode_lt r
  exact count_two _ _ (by omega) (by omega)

/-- Word count of `ST.64_ADDR1`. -/
theorem st64Addr1 (m : Addr1) (x : XReg) : Statement (.st64Addr1 m x) := by
  have := xregCode_lt x
  exact count_two _ _ (by omega) (by omega)

/-- Word count of `ST.8_ADDR1`. -/
theorem st8Addr1 (m : Addr1) (imm : Byte) : Statement (.st8Addr1 m imm) := by
  exact count_three _ _ _ (by omega)

/-- Word count of `ST.B0_ADDR1`. -/
theorem stB0Addr1 (m : Addr1) (r : Reg) : Statement (.stB0Addr1 m r) := by
  have := regCode_lt r
  exact count_two _ _ (by omega) (by omega)

/-- Word count of `ST.B1_ADDR1`. -/
theorem stB1Addr1 (m : Addr1) (r : Reg) : Statement (.stB1Addr1 m r) := by
  have := regCode_lt r
  exact count_two _ _ (by omega) (by omega)

/-- Word count of `ST.B2_ADDR1`. -/
theorem stB2Addr1 (m : Addr1) (r : Reg) : Statement (.stB2Addr1 m r) := by
  have := regCode_lt r
  exact count_two _ _ (by omega) (by omega)

/-- Word count of `ST.B3_ADDR1`. -/
theorem stB3Addr1 (m : Addr1) (r : Reg) : Statement (.stB3Addr1 m r) := by
  have := regCode_lt r
  exact count_two _ _ (by omega) (by omega)

/-- Word count of `ST.W0_ADDR1`. -/
theorem stW0Addr1 (m : Addr1) (r : Reg) : Statement (.stW0Addr1 m r) := by
  have := regCode_lt r
  exact count_two _ _ (by omega) (by omega)

/-- Word count of `ST.W1_ADDR1`. -/
theorem stW1Addr1 (m : Addr1) (r : Reg) : Statement (.stW1Addr1 m r) := by
  have := regCode_lt r
  exact count_two _ _ (by omega) (by omega)

/-- Word count of `SUB.32_ADDR1`. -/
theorem sub32Addr1 (m : Addr1) : Statement (.sub32Addr1 m) := by
  exact count_two _ _ (by omega) (by omega)

/-- Word count of `SUB.S16_ADDR1`. -/
theorem subS16Addr1 (m : Addr1) : Statement (.subS16Addr1 m) := by
  exact count_two _ _ (by omega) (by omega)

/-- Word count of `SUB.S8_ADDR1`. -/
theorem subS8Addr1 (m : Addr1) : Statement (.subS8Addr1 m) := by
  exact count_two _ _ (by omega) (by omega)

/-- Word count of `SUBR.32_ADDR1`. -/
theorem subr32Addr1 (m : Addr1) : Statement (.subr32Addr1 m) := by
  exact count_two _ _ (by omega) (by omega)

/-- Word count of `SUBR.S16_ADDR1`. -/
theorem subrS16Addr1 (m : Addr1) : Statement (.subrS16Addr1 m) := by
  exact count_two _ _ (by omega) (by omega)

/-- Word count of `SUBR.S8_ADDR1`. -/
theorem subrS8Addr1 (m : Addr1) : Statement (.subrS8Addr1 m) := by
  exact count_two _ _ (by omega) (by omega)

/-- Word count of `U16TOF_ADDR1`. -/
theorem u16tofAddr1 (m : Addr1) : Statement (.u16tofAddr1 m) := by
  exact count_two _ _ (by omega) (by omega)

/-- Word count of `XOR.16_ADDR1__x16`. -/
theorem xor16Addr1 (m : Addr1) (imm : Half) : Statement (.xor16Addr1 m imm) := by
  exact count_three _ _ _ (by omega)

/-- Word count of `XOR.8_ADDR1`. -/
theorem xor8Addr1 (m : Addr1) (imm : Byte) : Statement (.xor8Addr1 m imm) := by
  exact count_three _ _ _ (by omega)

/-- Word count of `AND.32_ADDR2`. -/
theorem and32Addr2 (m : Addr2) : Statement (.and32Addr2 m) := by
  have := addr2Code_lt m
  exact count_two _ _ (by omega) (by omega)

/-- Word count of `ANDOR_ADDR2`. -/
theorem andorAddr2 (m : Addr2) : Statement (.andorAddr2 m) := by
  have := addr2Code_lt m
  exact count_two _ _ (by omega) (by omega)

/-- Word count of `LD.32_ADDR2`. -/
theorem ld32Addr2 (r : Reg) (m : Addr2) : Statement (.ld32Addr2 r m) := by
  have := regCode_lt r
  have := addr2Code_lt m
  exact count_one _ (by omega) (by omega)

/-- Word count of `LD.64_ADDR2`. -/
theorem ld64Addr2 (x : XReg) (m : Addr2) : Statement (.ld64Addr2 x m) := by
  have := xregCode_lt x
  have := addr2Code_lt m
  exact count_two _ _ (by omega) (by omega)

/-- Word count of `MV.16_ADDR2`. -/
theorem mv16Addr2 (m : Addr2) : Statement (.mv16Addr2 m) := by
  have := addr2Code_lt m
  exact count_two _ _ (by omega) (by omega)

/-- Word count of `MV.32_ADDR2`. -/
theorem mv32Addr2 (m : Addr2) : Statement (.mv32Addr2 m) := by
  have := addr2Code_lt m
  exact count_two _ _ (by omega) (by omega)

/-- Word count of `MV.64_ADDR2`. -/
theorem mv64Addr2 (m : Addr2) : Statement (.mv64Addr2 m) := by
  have := addr2Code_lt m
  exact count_two _ _ (by omega) (by omega)

/-- Word count of `MV.8_ADDR2`. -/
theorem mv8Addr2 (m : Addr2) : Statement (.mv8Addr2 m) := by
  have := addr2Code_lt m
  exact count_two _ _ (by omega) (by omega)

/-- Word count of `OR.32_ADDR2`. -/
theorem or32Addr2 (m : Addr2) : Statement (.or32Addr2 m) := by
  have := addr2Code_lt m
  exact count_two _ _ (by omega) (by omega)

/-- Word count of `ST.16_ADDR2`. -/
theorem st16Addr2 (m : Addr2) (imm : Half) : Statement (.st16Addr2 m imm) := by
  have := addr2Code_lt m
  exact count_two _ _ (by omega) (by omega)

/-- Word count of `ST.32_ADDR2`. -/
theorem st32Addr2 (m : Addr2) (r : Reg) : Statement (.st32Addr2 m r) := by
  have := addr2Code_lt m
  have := regCode_lt r
  exact count_two _ _ (by omega) (by omega)

/-- Word count of `ST.64_ADDR2`. -/
theorem st64Addr2 (m : Addr2) (x : XReg) : Statement (.st64Addr2 m x) := by
  have := addr2Code_lt m
  have := xregCode_lt x
  exact count_two _ _ (by omega) (by omega)

/-- Word count of `ST.8_ADDR2`. -/
theorem st8Addr2 (m : Addr2) (imm : Byte) : Statement (.st8Addr2 m imm) := by
  have := addr2Code_lt m
  exact count_two _ _ (by omega) (by omega)

/-- Word count of `XOR.32_ADDR2`. -/
theorem xor32Addr2 (m : Addr2) : Statement (.xor32Addr2 m) := by
  have := addr2Code_lt m
  exact count_two _ _ (by omega) (by omega)

/-- Word count of `MV.32_ADDR3_ADDR3`. -/
theorem mv32Addr3 (dst : Addr3) (src : Addr3) : Statement (.mv32Addr3 dst src) := by
  have := dst.imm.isLt
  have : addr3Code dst = dst.x.val * 256 + dst.imm.toNat := rfl
  exact count_two _ _ (by omega) (by omega)

/-- Word count of `LD.32_DIRM___u32imm`. -/
theorem ld32Dirm (r : Reg) (addr : Word) : Statement (.ld32Dirm r addr) := by
  have := regCode_lt r
  exact count_three _ _ _ (by omega)

/-- Word count of `LD.32_DIRM____Ax+_u28imm`. -/
theorem ld32DirmIx (r : Reg) (base : Fin 16) (off : BitVec 28) : Statement (.ld32DirmIx r base off) := by
  have := regCode_lt r
  exact count_three _ _ _ (by omega)

/-- Word count of `LD.64_DIRM___u32imm`. -/
theorem ld64Dirm (x : XReg) (addr : Word) : Statement (.ld64Dirm x addr) := by
  have := xregCode_lt x
  exact count_three _ _ _ (by omega)

/-- Word count of `LD.64_DIRM____Ax+_u28imm`. -/
theorem ld64DirmIx (x : XReg) (base : Fin 16) (off : BitVec 28) : Statement (.ld64DirmIx x base off) := by
  have := xregCode_lt x
  exact count_three _ _ _ (by omega)

/-- Word count of `LD.B0_DIRM___u32imm`. -/
theorem ldB0Dirm (r : Reg) (addr : Word) : Statement (.ldB0Dirm r addr) := by
  have := regCode_lt r
  exact count_three _ _ _ (by omega)

/-- Word count of `LD.B0_DIRM____Ax+_u28imm`. -/
theorem ldB0DirmIx (r : Reg) (base : Fin 16) (off : BitVec 28) : Statement (.ldB0DirmIx r base off) := by
  have := regCode_lt r
  exact count_three _ _ _ (by omega)

/-- Word count of `LD.B1_DIRM___u32imm`. -/
theorem ldB1Dirm (r : Reg) (addr : Word) : Statement (.ldB1Dirm r addr) := by
  have := regCode_lt r
  exact count_three _ _ _ (by omega)

/-- Word count of `LD.B1_DIRM____Ax+_u28imm`. -/
theorem ldB1DirmIx (r : Reg) (base : Fin 16) (off : BitVec 28) : Statement (.ldB1DirmIx r base off) := by
  have := regCode_lt r
  exact count_three _ _ _ (by omega)

/-- Word count of `LD.B2_DIRM___u32imm`. -/
theorem ldB2Dirm (r : Reg) (addr : Word) : Statement (.ldB2Dirm r addr) := by
  have := regCode_lt r
  exact count_three _ _ _ (by omega)

/-- Word count of `LD.B2_DIRM____Ax+_u28imm`. -/
theorem ldB2DirmIx (r : Reg) (base : Fin 16) (off : BitVec 28) : Statement (.ldB2DirmIx r base off) := by
  have := regCode_lt r
  exact count_three _ _ _ (by omega)

/-- Word count of `LD.B3_DIRM___u32imm`. -/
theorem ldB3Dirm (r : Reg) (addr : Word) : Statement (.ldB3Dirm r addr) := by
  have := regCode_lt r
  exact count_three _ _ _ (by omega)

/-- Word count of `LD.B3_DIRM____Ax+_u28imm`. -/
theorem ldB3DirmIx (r : Reg) (base : Fin 16) (off : BitVec 28) : Statement (.ldB3DirmIx r base off) := by
  have := regCode_lt r
  exact count_three _ _ _ (by omega)

/-- Word count of `LD.S16_DIRM___u32imm`. -/
theorem ldS16Dirm (r : Reg) (addr : Word) : Statement (.ldS16Dirm r addr) := by
  have := regCode_lt r
  exact count_three _ _ _ (by omega)

/-- Word count of `LD.S16_DIRM____Ax+_u28imm`. -/
theorem ldS16DirmIx (r : Reg) (base : Fin 16) (off : BitVec 28) : Statement (.ldS16DirmIx r base off) := by
  have := regCode_lt r
  exact count_three _ _ _ (by omega)

/-- Word count of `LD.S8_DIRM___u32imm`. -/
theorem ldS8Dirm (r : Reg) (addr : Word) : Statement (.ldS8Dirm r addr) := by
  have := regCode_lt r
  exact count_three _ _ _ (by omega)

/-- Word count of `LD.S8_DIRM____Ax+_u28imm`. -/
theorem ldS8DirmIx (r : Reg) (base : Fin 16) (off : BitVec 28) : Statement (.ldS8DirmIx r base off) := by
  have := regCode_lt r
  exact count_three _ _ _ (by omega)

/-- Word count of `LD.U16_DIRM___u32imm`. -/
theorem ldU16Dirm (r : Reg) (addr : Word) : Statement (.ldU16Dirm r addr) := by
  have := regCode_lt r
  exact count_three _ _ _ (by omega)

/-- Word count of `LD.U16_DIRM____Ax+_u28imm`. -/
theorem ldU16DirmIx (r : Reg) (base : Fin 16) (off : BitVec 28) : Statement (.ldU16DirmIx r base off) := by
  have := regCode_lt r
  exact count_three _ _ _ (by omega)

/-- Word count of `LD.U8_DIRM___u32imm`. -/
theorem ldU8Dirm (r : Reg) (addr : Word) : Statement (.ldU8Dirm r addr) := by
  have := regCode_lt r
  exact count_three _ _ _ (by omega)

/-- Word count of `LD.U8_DIRM____Ax+_u28imm`. -/
theorem ldU8DirmIx (r : Reg) (base : Fin 16) (off : BitVec 28) : Statement (.ldU8DirmIx r base off) := by
  have := regCode_lt r
  exact count_three _ _ _ (by omega)

/-- Word count of `LD.W0_DIRM___u32imm`. -/
theorem ldW0Dirm (r : Reg) (addr : Word) : Statement (.ldW0Dirm r addr) := by
  have := regCode_lt r
  exact count_three _ _ _ (by omega)

/-- Word count of `LD.W0_DIRM____Ax+_u28imm`. -/
theorem ldW0DirmIx (r : Reg) (base : Fin 16) (off : BitVec 28) : Statement (.ldW0DirmIx r base off) := by
  have := regCode_lt r
  exact count_three _ _ _ (by omega)

/-- Word count of `LD.W1_DIRM___u32imm`. -/
theorem ldW1Dirm (r : Reg) (addr : Word) : Statement (.ldW1Dirm r addr) := by
  have := regCode_lt r
  exact count_three _ _ _ (by omega)

/-- Word count of `LD.W1_DIRM____Ax+_u28imm`. -/
theorem ldW1DirmIx (r : Reg) (base : Fin 16) (off : BitVec 28) : Statement (.ldW1DirmIx r base off) := by
  have := regCode_lt r
  exact count_three _ _ _ (by omega)

/-- Word count of `S16TOF_DIRM___u32imm`. -/
theorem s16tofDirm (addr : Word) : Statement (.s16tofDirm addr) := by
  exact count_three _ _ _ (by omega)

/-- Word count of `S16TOF_DIRM____Ax+_u28imm`. -/
theorem s16tofDirmIx (base : Fin 16) (off : BitVec 28) : Statement (.s16tofDirmIx base off) := by
  exact count_three _ _ _ (by omega)

/-- Word count of `ST.32_DIRM___u32imm`. -/
theorem st32Dirm (addr : Word) (r : Reg) : Statement (.st32Dirm addr r) := by
  have := regCode_lt r
  exact count_three _ _ _ (by omega)

/-- Word count of `ST.32_DIRM____Ax+_u28imm`. -/
theorem st32DirmIx (base : Fin 16) (off : BitVec 28) (r : Reg) : Statement (.st32DirmIx base off r) := by
  have := regCode_lt r
  exact count_three _ _ _ (by omega)

/-- Word count of `ST.64_DIRM___u32imm`. -/
theorem st64Dirm (addr : Word) (x : XReg) : Statement (.st64Dirm addr x) := by
  have := xregCode_lt x
  exact count_three _ _ _ (by omega)

/-- Word count of `ST.64_DIRM____Ax+_u28imm`. -/
theorem st64DirmIx (base : Fin 16) (off : BitVec 28) (x : XReg) : Statement (.st64DirmIx base off x) := by
  have := xregCode_lt x
  exact count_three _ _ _ (by omega)

/-- Word count of `ST.B0_DIRM___u32imm`. -/
theorem stB0Dirm (addr : Word) (r : Reg) : Statement (.stB0Dirm addr r) := by
  have := regCode_lt r
  exact count_three _ _ _ (by omega)

/-- Word count of `ST.B0_DIRM____Ax+_u28imm`. -/
theorem stB0DirmIx (base : Fin 16) (off : BitVec 28) (r : Reg) : Statement (.stB0DirmIx base off r) := by
  have := regCode_lt r
  exact count_three _ _ _ (by omega)

/-- Word count of `ST.B1_DIRM___u32imm`. -/
theorem stB1Dirm (addr : Word) (r : Reg) : Statement (.stB1Dirm addr r) := by
  have := regCode_lt r
  exact count_three _ _ _ (by omega)

/-- Word count of `ST.B1_DIRM____Ax+_u28imm`. -/
theorem stB1DirmIx (base : Fin 16) (off : BitVec 28) (r : Reg) : Statement (.stB1DirmIx base off r) := by
  have := regCode_lt r
  exact count_three _ _ _ (by omega)

/-- Word count of `ST.B2_DIRM___u32imm`. -/
theorem stB2Dirm (addr : Word) (r : Reg) : Statement (.stB2Dirm addr r) := by
  have := regCode_lt r
  exact count_three _ _ _ (by omega)

/-- Word count of `ST.B2_DIRM____Ax+_u28imm`. -/
theorem stB2DirmIx (base : Fin 16) (off : BitVec 28) (r : Reg) : Statement (.stB2DirmIx base off r) := by
  have := regCode_lt r
  exact count_three _ _ _ (by omega)

/-- Word count of `ST.B3_DIRM___u32imm`. -/
theorem stB3Dirm (addr : Word) (r : Reg) : Statement (.stB3Dirm addr r) := by
  have := regCode_lt r
  exact count_three _ _ _ (by omega)

/-- Word count of `ST.B3_DIRM____Ax+_u28imm`. -/
theorem stB3DirmIx (base : Fin 16) (off : BitVec 28) (r : Reg) : Statement (.stB3DirmIx base off r) := by
  have := regCode_lt r
  exact count_three _ _ _ (by omega)

/-- Word count of `ST.W0_DIRM___u32imm`. -/
theorem stW0Dirm (addr : Word) (r : Reg) : Statement (.stW0Dirm addr r) := by
  have := regCode_lt r
  exact count_three _ _ _ (by omega)

/-- Word count of `ST.W0_DIRM____Ax+_u28imm`. -/
theorem stW0DirmIx (base : Fin 16) (off : BitVec 28) (r : Reg) : Statement (.stW0DirmIx base off r) := by
  have := regCode_lt r
  exact count_three _ _ _ (by omega)

/-- Word count of `ST.W1_DIRM___u32imm`. -/
theorem stW1Dirm (addr : Word) (r : Reg) : Statement (.stW1Dirm addr r) := by
  have := regCode_lt r
  exact count_three _ _ _ (by omega)

/-- Word count of `ST.W1_DIRM____Ax+_u28imm`. -/
theorem stW1DirmIx (base : Fin 16) (off : BitVec 28) (r : Reg) : Statement (.stW1DirmIx base off r) := by
  have := regCode_lt r
  exact count_three _ _ _ (by omega)

/-- Word count of `U16TOF_DIRM___u32imm`. -/
theorem u16tofDirm (addr : Word) : Statement (.u16tofDirm addr) := by
  exact count_three _ _ _ (by omega)

/-- Word count of `U16TOF_DIRM____Ax+_u28imm`. -/
theorem u16tofDirmIx (base : Fin 16) (off : BitVec 28) : Statement (.u16tofDirmIx base off) := by
  exact count_three _ _ _ (by omega)

/-- Word count of `CALL__label`. -/
theorem callLabel (label : Word) (delay : Fin 8) : Statement (.callLabel label delay) := by
  exact count_three _ _ _ (by omega)

/-- Word count of `CALL_Ax`. -/
theorem callReg (x : Fin 16) (delay : Fin 8) : Statement (.callReg x delay) := by
  exact count_two _ _ (by omega) (by omega)

/-- Word count of `RET`. -/
theorem ret (delay : Fin 8) : Statement (.ret delay) := by
  exact count_one _ (by omega) (by omega)

/-- Word count of `B__generic_branch`. -/
theorem branch (target : BrTarget) (cond : Cond) (delay : Fin 8) : Statement (.branch target cond delay) := by
  have := condCode_lt cond
  cases target <;> exact count_three _ _ _ (by omega)

/-- Word count of `BCMPZ__label_cond_Dx`. -/
theorem bcmpz (label : Word) (cond : DCond) (x : Fin 16) (delay : Fin 8) : Statement (.bcmpz label cond x delay) := by
  have := dcondCode_lt cond
  exact count_three _ _ _ (by omega)

/-- Word count of `CALL.PROT__label`. -/
theorem callProtLabel (label : Word) : Statement (.callProtLabel label) := by
  exact count_three _ _ _ (by omega)

/-- Word count of `CALL.PROT_Ax`. -/
theorem callProtReg (x : Fin 16) : Statement (.callProtReg x) := by
  exact count_two _ _ (by omega) (by omega)

/-- Word count of `ENTRY1.PROT`. -/
theorem entry1Prot : Statement .entry1Prot := by
  exact count_one _ (by omega) (by omega)

/-- Word count of `ENTRY2.PROT`. -/
theorem entry2Prot : Statement .entry2Prot := by
  exact count_one _ (by omega) (by omega)

/-- Word count of `LB.PROT`. -/
theorem lbProt (label : Word) : Statement (.lbProt label) := by
  exact count_three _ _ _ (by omega)

/-- Word count of `RET.PROT`. -/
theorem retProt : Statement .retProt := by
  exact count_one _ (by omega) (by omega)

/-- Word count of `EXIT.PROT`. -/
theorem exitProt : Statement .exitProt := by
  exact count_one _ (by omega) (by omega)

/-- Word count of `PRESERVE`. -/
theorem preserve : Statement .preserve := by
  exact count_one _ (by omega) (by omega)

/-- Word count of `XC`. -/
theorem xc : Statement .xc := by
  exact count_one _ (by omega) (by omega)

/-- Word count of `XCP`. -/
theorem xcp : Statement .xcp := by
  exact count_one _ (by omega) (by omega)

/-- Word count of `ATOMIC__u8`. -/
theorem atomic (n : BitVec 8) : Statement (.atomic n) := by
  have := n.isLt
  exact count_one _ (by omega) (by omega)

/-- Word count of `ENINT`. -/
theorem enint : Statement .enint := by
  exact count_one _ (by omega) (by omega)

/-- Word count of `DISINT`. -/
theorem disint : Statement .disint := by
  exact count_one _ (by omega) (by omega)

/-- Word count of `RETI.INT`. -/
theorem retiInt : Statement .retiInt := by
  exact count_one _ (by omega) (by omega)

/-- Word count of `RETI.RTINT`. -/
theorem retiRtint : Statement .retiRtint := by
  exact count_one _ (by omega) (by omega)

/-- Word count of `ISR1.PROT`. -/
theorem isr1Prot : Statement .isr1Prot := by
  exact count_one _ (by omega) (by omega)

/-- Word count of `ISR2.PROT`. -/
theorem isr2Prot : Statement .isr2Prot := by
  exact count_one _ (by omega) (by omega)

/-- Word count of `IDLE`. -/
theorem idle : Statement .idle := by
  exact count_one _ (by omega) (by omega)

/-- Word count of `EMUSTOP0`. -/
theorem emustop0 : Statement .emustop0 := by
  exact count_one _ (by omega) (by omega)

/-- Word count of `ECCSELFTEST`. -/
theorem eccselftest : Statement .eccselftest := by
  exact count_one _ (by omega) (by omega)

/-- Word count of `MOV_Ax_RPC`. -/
theorem movRpc (x : Fin 16) : Statement (.movRpc x) := by
  exact count_one _ (by omega) (by omega)

/-- Word count of `LD.32_RPC__MEM`. -/
theorem ldRpc (addr : Word) : Statement (.ldRpc addr) := by
  exact count_three _ _ _ (by omega)

/-- Word count of `LD_ST_of_DSTS_and_ESTS`. -/
theorem statusOp (op : StatusOp) : Statement (.statusOp op) := by
  cases op with
  | load r m => cases r <;> exact count_two _ _ (by omega) (by omega)
  | store r m => cases r <;> exact count_two _ _ (by omega) (by omega)
  | toReg r d => have := regCode_lt d; cases r <;> exact count_two _ _ (by omega) (by omega)
  | ofReg r d => have := regCode_lt d; cases r <;> exact count_two _ _ (by omega) (by omega)
  | andImm r v => cases r <;> exact count_three _ _ _ (by omega)
  | orImm r v => cases r <;> exact count_three _ _ _ (by omega)

/-- Word count of `NOP`. -/
theorem nop : Statement .nop := by
  exact count_one _ (by omega) (by omega)

/-- Word count of `ADD.U16_Az_Ay__u16`. -/
theorem addU16 (z : Fin 16) (y : Fin 16) (imm : Half) : Statement (.addU16 z y imm) := by
  exact count_two _ _ (by omega) (by omega)

/-- Word count of `SUB.U16_Az_Ay__u16`. -/
theorem subU16 (z : Fin 16) (y : Fin 16) (imm : Half) : Statement (.subU16 z y imm) := by
  exact count_two _ _ (by omega) (by omega)

/-- Word count of `ADD_Rz_Ry__imm__short`. -/
theorem addImm (bank : IBank) (z : Fin 16) (y : Fin 16) (imm : Half) : Statement (.addImm bank z y imm) := by
  simp only [Statement, encode, encImm]
  split
  · have : ibankCode bank ≤ 1 := by cases bank <;> simp [ibankCode]
    exact count_one _ (by omega) (by omega)
  · have : ibankCode bank ≤ 1 := by cases bank <;> simp [ibankCode]
    exact count_two _ _ (by omega) (by omega)

/-- Word count of `ADD_Rz_Ry_Rx`. -/
theorem addReg (bank : IBank) (z : Fin 16) (y : Fin 16) (x : Fin 16) : Statement (.addReg bank z y x) := by
  have : ibankCode bank ≤ 1 := by cases bank <;> simp [ibankCode]
  exact count_two _ _ (by omega) (by omega)

/-- Word count of `SUB_Rz_Ry__imm__short`. -/
theorem subImm (bank : IBank) (z : Fin 16) (y : Fin 16) (imm : Half) : Statement (.subImm bank z y imm) := by
  simp only [Statement, encode, encImm]
  split
  · have : ibankCode bank ≤ 1 := by cases bank <;> simp [ibankCode]
    exact count_one _ (by omega) (by omega)
  · have : ibankCode bank ≤ 1 := by cases bank <;> simp [ibankCode]
    exact count_two _ _ (by omega) (by omega)

/-- Word count of `SUB_Rz_Ry_Rx`. -/
theorem subReg (bank : IBank) (z : Fin 16) (y : Fin 16) (x : Fin 16) : Statement (.subReg bank z y x) := by
  have : ibankCode bank ≤ 1 := by cases bank <;> simp [ibankCode]
  exact count_two _ _ (by omega) (by omega)

/-- Word count of `MV_R__imm32___MV.32_Ax__label`. -/
theorem mvImm (r : Reg) (imm : Word) : Statement (.mvImm r imm) := by
  have := regCode_lt r
  exact count_three _ _ _ (by omega)

/-- Word count of `MV_Rz_Rx__register_move`. -/
theorem mvReg (op : MvRegs) : Statement (.mvReg op) := by
  cases op with
  | word d s => have := regCode_lt d; exact count_two _ _ (by omega) (by omega)
  | pair d s => have := xregCode_lt d; exact count_two _ _ (by omega) (by omega)

/-- Word count of `CMP_Ry_Rx`. -/
theorem cmp (op : CmpRegs) : Statement (.cmp op) := by
  cases op <;> exact count_two _ _ (by omega) (by omega)

/-- Word count of `TBIT`. -/
theorem tbit (dst : TestDst) : Statement (.tbit dst) := by
  have := testCode_lt dst
  exact count_two _ _ (by omega) (by omega)

/-- Word count of `TFLG`. -/
theorem tflg (dst : TestFlag) : Statement (.tflg dst) := by
  have := flagCode_lt dst
  exact count_two _ _ (by omega) (by omega)

/-- Word count of `INC.CIRC_Ay_Ax`. -/
theorem incCirc (y : Fin 4) (x : Fin 16) : Statement (.incCirc y x) := by
  exact count_one _ (by omega) (by omega)

/-- Word count of `DEC.CIRC_Ay_Ax`. -/
theorem decCirc (y : Fin 4) (x : Fin 16) : Statement (.decCirc y x) := by
  exact count_one _ (by omega) (by omega)

/-- Word count of `ADD.BITREV_Az_Ay_Ax`. -/
theorem addBitrev (z : Fin 16) (y : Fin 16) (x : Fin 16) : Statement (.addBitrev z y x) := by
  exact count_two _ _ (by omega) (by omega)

/-- Word count of `FTOS16_Dz_Mx`. -/
theorem ftos16 (z : Fin 16) (x : Fin 32) : Statement (.ftos16 z x) := by
  exact count_two _ _ (by omega) (by omega)

/-- Word count of `CRC_Dz_Dy_Dx_Dw`. -/
theorem crc (z : Fin 16) (y : Fin 16) (x : Fin 16) (w : Fin 16) : Statement (.crc z y x w) := by
  exact count_two _ _ (by omega) (by omega)

/-- Word count of `SMPYF_Mz_My_Mx`. -/
theorem smpyf (z : Fin 32) (y : Fin 32) (x : Fin 32) : Statement (.smpyf z y x) := by
  exact count_two _ _ (by omega) (by omega)

/-- Word count of `SADDF_Mz_My_Mx`. -/
theorem saddf (z : Fin 32) (y : Fin 32) (x : Fin 32) : Statement (.saddf z y x) := by
  exact count_two _ _ (by omega) (by omega)

/-- Word count of `ADDF_Mz_My_Mx`. -/
theorem addf (z : Fin 32) (y : Fin 32) (x : Fin 32) : Statement (.addf z y x) := by
  exact count_two _ _ (by omega) (by omega)

/-- Word count of `RETI.INT`. -/
theorem retiIntD (delay : Fin 8) : Statement (.retiIntD delay) := by
  exact count_one _ (by omega) (by omega)

/-- Word count of `RETI.RTINT`. -/
theorem retiRtintD (delay : Fin 8) : Statement (.retiRtintD delay) := by
  exact count_one _ (by omega) (by omega)

end WordCount

end Sys2Proof.Laws
end

