-- ==== Sys2Proof/Laws/Codec.lean ====
section
/-! SUPPORT. The fields of the encoding read back: one lemma per operand field, and one per instruction group. -/

namespace Sys2Proof.Laws

/-- A field read back into a bounded number. -/
theorem finOfNat_eq {n : Nat} [NeZero n] (i : Fin n) (k : Nat) (h : k = i.val) : Fin.ofNat n k = i := by
  subst h; apply Fin.ext; simp [Fin.ofNat, Nat.mod_eq_of_lt i.isLt]

/-- A field read back into bits. -/
theorem bvOfNat_eq {n : Nat} (v : BitVec n) (k : Nat) (h : k = v.toNat) : BitVec.ofNat n k = v := by
  subst h; simp

/-- The six-bit register field reads back. -/
theorem decodeReg_regCode (r : Reg) : decodeReg (regCode r) = r := by
  cases r <;> rename_i i <;> simp only [decodeReg, regCode] <;> revert i <;> decide

/-- The five-bit pair field reads back. -/
theorem decodeXReg_xregCode (x : XReg) : decodeXReg (xregCode x) = x := by
  cases x <;> rename_i i <;> simp only [decodeXReg, xregCode] <;> revert i <;> decide

/-- The ADDR2 field reads back. -/
theorem readAddr2_addr2Code (m : Addr2) : readAddr2 (addr2Code m) = m := by
  cases m <;> rename_i z <;> revert z <;> decide

/-- A well-formed ADDR1 field reads back. -/
theorem readAddr1_addr1Code (m : Addr1) (h : m.wf = true) : readAddr1 (addr1Code m) = m := by
  cases m with
  | off x imm =>
    have := imm.isLt
    have e : fld (addr1Code (.off x imm)) 14 2 = 0 := by simp only [fld, addr1Code]; omega
    simp only [readAddr1, e, if_true]
    rw [finOfNat_eq x _ (by simp only [fld, addr1Code]; omega), bvOfNat_eq imm _ (by simp only [fld, addr1Code]; omega)]
  | offScaled x imm =>
    have := imm.isLt
    have e : fld (addr1Code (.offScaled x imm)) 14 2 = 1 := by simp only [fld, addr1Code]; omega
    simp only [readAddr1, e]
    rw [finOfNat_eq x _ (by simp only [fld, addr1Code]; omega), bvOfNat_eq imm _ (by simp only [fld, addr1Code]; omega)]
    rfl
  | offPost x imm k =>
    have := imm.isLt
    have e : fld (addr1Code (.offPost x imm k)) 14 2 = 2 := by simp only [fld, addr1Code]; omega
    have e' : fld (addr1Code (.offPost x imm k)) 13 3 = 4 := by simp only [fld, addr1Code]; omega
    simp only [readAddr1, e, e']
    rw [finOfNat_eq x _ (by simp only [fld, addr1Code]; omega), finOfNat_eq k _ (by simp only [fld, addr1Code]; omega),
      bvOfNat_eq imm (fld (addr1Code (.offPost x imm k)) 6 7) (by simp only [fld, addr1Code]; omega)]
    rfl
  | spNeg f =>
    have := f.isLt
    have e : fld (addr1Code (.spNeg f)) 14 2 = 2 := by simp only [fld, addr1Code]; omega
    have e' : fld (addr1Code (.spNeg f)) 13 3 = 5 := by simp only [fld, addr1Code]; omega
    simp only [readAddr1, e, e']
    rw [bvOfNat_eq f (fld (addr1Code (.spNeg f)) 0 13) (by simp only [fld, addr1Code]; omega)]
    rfl
  | postInc x imm =>
    have := imm.isLt
    have e : fld (addr1Code (.postInc x imm)) 14 2 = 3 := by simp only [fld, addr1Code]; omega
    have e' : fld (addr1Code (.postInc x imm)) 13 3 = 6 := by simp only [fld, addr1Code]; omega
    have e2 : fld (addr1Code (.postInc x imm)) 12 4 = 12 := by simp only [fld, addr1Code]; omega
    simp only [readAddr1, e, e', e2]
    rw [finOfNat_eq x _ (by simp only [fld, addr1Code]; omega), bvOfNat_eq imm (fld (addr1Code (.postInc x imm)) 4 8) (by simp only [fld, addr1Code]; omega)]
    rfl
  | postDec x imm =>
    have := imm.isLt
    have e : fld (addr1Code (.postDec x imm)) 14 2 = 3 := by simp only [fld, addr1Code]; omega
    have e' : fld (addr1Code (.postDec x imm)) 13 3 = 6 := by simp only [fld, addr1Code]; omega
    have e2 : fld (addr1Code (.postDec x imm)) 12 4 = 13 := by simp only [fld, addr1Code]; omega
    simp only [readAddr1, e, e', e2]
    rw [finOfNat_eq x _ (by simp only [fld, addr1Code]; omega), bvOfNat_eq imm (fld (addr1Code (.postDec x imm)) 4 8) (by simp only [fld, addr1Code]; omega)]
    rfl
  | preDec x imm =>
    have := imm.isLt
    have e : fld (addr1Code (.preDec x imm)) 14 2 = 3 := by simp only [fld, addr1Code]; omega
    have e' : fld (addr1Code (.preDec x imm)) 13 3 = 7 := by simp only [fld, addr1Code]; omega
    have e2 : fld (addr1Code (.preDec x imm)) 12 4 = 14 := by simp only [fld, addr1Code]; omega
    simp only [readAddr1, e, e', e2]
    rw [finOfNat_eq x _ (by simp only [fld, addr1Code]; omega), bvOfNat_eq imm (fld (addr1Code (.preDec x imm)) 4 8) (by simp only [fld, addr1Code]; omega)]
    rfl
  | index x k sh =>
    have := sh.isLt
    have e : fld (addr1Code (.index x k sh)) 14 2 = 3 := by simp only [fld, addr1Code]; omega
    have e' : fld (addr1Code (.index x k sh)) 13 3 = 7 := by simp only [fld, addr1Code]; omega
    have e2 : fld (addr1Code (.index x k sh)) 12 4 = 15 := by simp only [fld, addr1Code]; omega
    have e3 : fld (addr1Code (.index x k sh)) 6 4 = 15 := by simp only [fld, addr1Code]; omega
    simp only [readAddr1, e, e', e2, e3]
    rw [finOfNat_eq x _ (by simp only [fld, addr1Code]; omega), finOfNat_eq k _ (by simp only [fld, addr1Code]; omega),
      bvOfNat_eq sh (fld (addr1Code (.index x k sh)) 10 2) (by simp only [fld, addr1Code]; omega)]
    rfl
  | indexSet j x k sh =>
    have := sh.isLt
    have hj : j.val ≠ 15 := by
      have hb := j.isLt
      simp [Addr1.wf, notSp] at h
      intro hc; exact h.1 (Fin.ext hc)
    have e : fld (addr1Code (.indexSet j x k sh)) 14 2 = 3 := by simp only [fld, addr1Code]; omega
    have e' : fld (addr1Code (.indexSet j x k sh)) 13 3 = 7 := by simp only [fld, addr1Code]; omega
    have e2 : fld (addr1Code (.indexSet j x k sh)) 12 4 = 15 := by simp only [fld, addr1Code]; omega
    have e3 : fld (addr1Code (.indexSet j x k sh)) 6 4 ≠ 15 := by simp only [fld, addr1Code]; omega
    simp only [readAddr1, e, e', e2, e3]
    rw [finOfNat_eq x _ (by simp only [fld, addr1Code]; omega), finOfNat_eq k _ (by simp only [fld, addr1Code]; omega),
      finOfNat_eq j (fld (addr1Code (.indexSet j x k sh)) 6 4) (by simp only [fld, addr1Code]; omega),
      bvOfNat_eq sh (fld (addr1Code (.indexSet j x k sh)) 10 2) (by simp only [fld, addr1Code]; omega)]
    rfl

/-- An ADDR1 field fits sixteen bits. -/
theorem addr1Code_lt (m : Addr1) : addr1Code m < 65536 := by
  cases m <;> simp [addr1Code] <;> omega

/-- The ADDR3 field reads back. -/
theorem readAddr3_addr3Code (h : Addr3) : readAddr3 (addr3Code h) = h := by
  cases h with
  | mk x imm =>
    have := imm.isLt
    simp only [readAddr3]
    rw [finOfNat_eq x _ (by simp only [fld, addr3Code]; omega), bvOfNat_eq imm _ (by simp only [fld, addr3Code]; omega)]

/-- A relation number reads back. -/
theorem readRel_relCode (c : RelCond) : readRel (relCode c) = c := by cases c <;> rfl

/-- A D condition number reads back. -/
theorem readDCond_dcondCode (c : DCond) : readDCond (dcondCode c) = some c := by
  cases c with
  | rel r => cases r <;> rfl
  | ov => rfl
  | ovneg => rfl

/-- A test flag number reads back. -/
theorem readFlag_flagCode (f : TestFlag) : readFlag (flagCode f) = f := by
  cases f <;> rename_i i <;> revert i <;> decide

/-- A TBIT destination number reads back. -/
theorem readTest_testCode (t : TestDst) : readTest (testCode t) = some t := by
  cases t with
  | flag f => cases f <;> rename_i i <;> revert i <;> decide
  | az => rfl
  | dz => rfl
  | mzf => rfl

/-- A 16-bit instruction of group `sub`. -/
theorem decodeWords_group16 (sub p w1 w2 : Nat) (hs : sub < 8) (hp : p < 2048) :
    decodeWords (16384 + sub * 2048 + p) w1 w2 = decode16 (16384 + sub * 2048 + p) := by
  rw [decodeWords, sizeWords_one _ (by omega) (by omega)]; rfl

/-- A 32-bit instruction of group `op`. -/
theorem decodeWords_group32 (op p w1 w2 : Nat) (h1 : 32 ≤ op) (h2 : op < 128) (hp : p < 64) :
    decodeWords (8192 + op * 64 + p) w1 w2 = decodeGroup32 op p w1 := by
  rw [decodeWords, sizeWords_two _ (by omega) (by omega)]
  have a : fld (8192 + op * 64 + p) 6 7 = op := by simp only [fld]; omega
  have b : fld (8192 + op * 64 + p) 0 6 = p := by simp only [fld]; omega
  have c : 8 ≤ fld (8192 + op * 64 + p) 8 5 := by simp only [fld]; omega
  simp only [decode32, a, b]
  generalize fld (8192 + op * 64 + p) 8 5 = k at c
  simp
  split <;> first | omega | rfl

/-- A 48-bit instruction of group `op`. -/
theorem decodeWords_group48 (op p v : Nat) (h1 : op < 40) (hp : p < 128) :
    decodeWords (op * 128 + p) (v % 65536) (v / 65536) = decodeGroup48 op p v := by
  rw [decodeWords, sizeWords_three _ (by omega)]
  have a : fld (op * 128 + p) 7 6 = op := by simp only [fld]; omega
  have b : fld (op * 128 + p) 0 7 = p := by simp only [fld]; omega
  have c : fld (op * 128 + p) 11 2 ≠ 3 := by simp only [fld]; omega
  have d : fld (op * 128 + p) 9 4 ≠ 10 := by simp only [fld]; omega
  have e : fld (op * 128 + p) 9 4 ≠ 11 := by simp only [fld]; omega
  have f : v % 65536 + 65536 * (v / 65536) = v := by omega
  simp [decode48, a, b, c, d, e, f]

end Sys2Proof.Laws
end

