-- ==== Sys2Proof/Laws/State.lean ====
section
/-! SUPPORT. One lemma per field and update of the state, true by `rfl`, so that no proof unfolds a record update. -/

namespace Sys2Proof.Laws

open Sys2Proof.Machine

@[simp] theorem spend_pre (n : Nat) (s : State) : (spend n s).pre = s.pre := rfl
@[simp] theorem spend_pkt (n : Nat) (s : State) : (spend n s).pkt = s.pkt := rfl
@[simp] theorem spend_cfg (n : Nat) (s : State) : (spend n s).cfg = s.cfg := rfl
@[simp] theorem spend_dbg (n : Nat) (s : State) : (spend n s).dbg = s.dbg := rfl
@[simp] theorem spend_inputs (n : Nat) (s : State) : (spend n s).inputs = s.inputs := rfl
@[simp] theorem spend_outputs (n : Nat) (s : State) : (spend n s).outputs = s.outputs := rfl
@[simp] theorem spend_cur (n : Nat) (s : State) : (spend n s).cur = s.cur := rfl
@[simp] theorem spend_free (n : Nat) (s : State) : (spend n s).free = s.free + n := rfl

@[simp] theorem emit_pre (x : Output) (s : State) : (emit x s).pre = s.pre := rfl
@[simp] theorem emit_pkt (x : Output) (s : State) : (emit x s).pkt = s.pkt := rfl
@[simp] theorem emit_free (x : Output) (s : State) : (emit x s).free = s.free := rfl
@[simp] theorem emit_cfg (x : Output) (s : State) : (emit x s).cfg = s.cfg := rfl
@[simp] theorem emit_dbg (x : Output) (s : State) : (emit x s).dbg = s.dbg := rfl
@[simp] theorem emit_inputs (x : Output) (s : State) : (emit x s).inputs = s.inputs := rfl
@[simp] theorem emit_cur (x : Output) (s : State) : (emit x s).cur = s.cur := rfl
@[simp] theorem emit_outputs (x : Output) (s : State) : (emit x s).outputs = x :: s.outputs := rfl

@[simp] theorem writeA_pre (i : Fin 16) (v : Word) (s : State) : (writeA i v s).pre = s.pre := rfl
@[simp] theorem writeA_pkt (i : Fin 16) (v : Word) (s : State) : (writeA i v s).pkt = s.pkt := rfl
@[simp] theorem writeA_free (i : Fin 16) (v : Word) (s : State) : (writeA i v s).free = s.free := rfl
@[simp] theorem writeA_cfg (i : Fin 16) (v : Word) (s : State) : (writeA i v s).cfg = s.cfg := rfl
@[simp] theorem writeA_dbg (i : Fin 16) (v : Word) (s : State) : (writeA i v s).dbg = s.dbg := rfl
@[simp] theorem writeA_inputs (i : Fin 16) (v : Word) (s : State) : (writeA i v s).inputs = s.inputs := rfl
@[simp] theorem writeA_outputs (i : Fin 16) (v : Word) (s : State) : (writeA i v s).outputs = s.outputs := rfl
@[simp] theorem writeA_cur_d (i : Fin 16) (v : Word) (s : State) : (writeA i v s).cur.d = s.cur.d := rfl
@[simp] theorem writeA_cur_m (i : Fin 16) (v : Word) (s : State) : (writeA i v s).cur.m = s.cur.m := rfl
@[simp] theorem writeA_cur_pc (i : Fin 16) (v : Word) (s : State) : (writeA i v s).cur.pc = s.cur.pc := rfl
@[simp] theorem writeA_cur_rpc (i : Fin 16) (v : Word) (s : State) : (writeA i v s).cur.rpc = s.cur.rpc := rfl
@[simp] theorem writeA_cur_ists (i : Fin 16) (v : Word) (s : State) : (writeA i v s).cur.ists = s.cur.ists := rfl
@[simp] theorem writeA_cur_dsts (i : Fin 16) (v : Word) (s : State) : (writeA i v s).cur.dsts = s.cur.dsts := rfl
@[simp] theorem writeA_cur_ests (i : Fin 16) (v : Word) (s : State) : (writeA i v s).cur.ests = s.cur.ests := rfl
@[simp] theorem writeA_cur_secsp (i : Fin 16) (v : Word) (s : State) : (writeA i v s).cur.secsp = s.cur.secsp := rfl
@[simp] theorem writeA_cur_protStack (i : Fin 16) (v : Word) (s : State) : (writeA i v s).cur.protStack = s.cur.protStack := rfl
@[simp] theorem writeA_cur_rtStack (i : Fin 16) (v : Word) (s : State) : (writeA i v s).cur.rtStack = s.cur.rtStack := rfl
@[simp] theorem writeA_cur_intSaves (i : Fin 16) (v : Word) (s : State) : (writeA i v s).cur.intSaves = s.cur.intSaves := rfl
@[simp] theorem writeA_cur_warnPsp (i : Fin 16) (v : Word) (s : State) : (writeA i v s).cur.warnPsp = s.cur.warnPsp := rfl
@[simp] theorem writeA_cur_warnRtisp (i : Fin 16) (v : Word) (s : State) : (writeA i v s).cur.warnRtisp = s.cur.warnRtisp := rfl
@[simp] theorem writeA_cur_mem (i : Fin 16) (v : Word) (s : State) : (writeA i v s).cur.mem = s.cur.mem := rfl
@[simp] theorem writeA_cur_stored (i : Fin 16) (v : Word) (s : State) : (writeA i v s).cur.stored = s.cur.stored := rfl
@[simp] theorem writeA_cur_nmiPending (i : Fin 16) (v : Word) (s : State) : (writeA i v s).cur.nmiPending = s.cur.nmiPending := rfl
@[simp] theorem writeA_cur_rtintPending (i : Fin 16) (v : Word) (s : State) : (writeA i v s).cur.rtintPending = s.cur.rtintPending := rfl
@[simp] theorem writeA_cur_intPending (i : Fin 16) (v : Word) (s : State) : (writeA i v s).cur.intPending = s.cur.intPending := rfl
@[simp] theorem writeA_cur_expect (i : Fin 16) (v : Word) (s : State) : (writeA i v s).cur.expect = s.cur.expect := rfl
@[simp] theorem writeA_cur_pending (i : Fin 16) (v : Word) (s : State) : (writeA i v s).cur.pending = s.cur.pending := rfl
@[simp] theorem writeA_cur_xcCover (i : Fin 16) (v : Word) (s : State) : (writeA i v s).cur.xcCover = s.cur.xcCover := rfl
@[simp] theorem writeA_cur_idle (i : Fin 16) (v : Word) (s : State) : (writeA i v s).cur.idle = s.cur.idle := rfl
@[simp] theorem writeA_cur_fault (i : Fin 16) (v : Word) (s : State) : (writeA i v s).cur.fault = s.cur.fault := rfl
@[simp] theorem writeA_cur_a (i : Fin 16) (v : Word) (s : State) : (writeA i v s).cur.a = s.cur.a.set i v := rfl

@[simp] theorem writeD_pre (i : Fin 16) (v : Word) (s : State) : (writeD i v s).pre = s.pre := rfl
@[simp] theorem writeD_pkt (i : Fin 16) (v : Word) (s : State) : (writeD i v s).pkt = s.pkt := rfl
@[simp] theorem writeD_free (i : Fin 16) (v : Word) (s : State) : (writeD i v s).free = s.free := rfl
@[simp] theorem writeD_cfg (i : Fin 16) (v : Word) (s : State) : (writeD i v s).cfg = s.cfg := rfl
@[simp] theorem writeD_dbg (i : Fin 16) (v : Word) (s : State) : (writeD i v s).dbg = s.dbg := rfl
@[simp] theorem writeD_inputs (i : Fin 16) (v : Word) (s : State) : (writeD i v s).inputs = s.inputs := rfl
@[simp] theorem writeD_outputs (i : Fin 16) (v : Word) (s : State) : (writeD i v s).outputs = s.outputs := rfl
@[simp] theorem writeD_cur_a (i : Fin 16) (v : Word) (s : State) : (writeD i v s).cur.a = s.cur.a := rfl
@[simp] theorem writeD_cur_m (i : Fin 16) (v : Word) (s : State) : (writeD i v s).cur.m = s.cur.m := rfl
@[simp] theorem writeD_cur_pc (i : Fin 16) (v : Word) (s : State) : (writeD i v s).cur.pc = s.cur.pc := rfl
@[simp] theorem writeD_cur_rpc (i : Fin 16) (v : Word) (s : State) : (writeD i v s).cur.rpc = s.cur.rpc := rfl
@[simp] theorem writeD_cur_ists (i : Fin 16) (v : Word) (s : State) : (writeD i v s).cur.ists = s.cur.ists := rfl
@[simp] theorem writeD_cur_dsts (i : Fin 16) (v : Word) (s : State) : (writeD i v s).cur.dsts = s.cur.dsts := rfl
@[simp] theorem writeD_cur_ests (i : Fin 16) (v : Word) (s : State) : (writeD i v s).cur.ests = s.cur.ests := rfl
@[simp] theorem writeD_cur_secsp (i : Fin 16) (v : Word) (s : State) : (writeD i v s).cur.secsp = s.cur.secsp := rfl
@[simp] theorem writeD_cur_protStack (i : Fin 16) (v : Word) (s : State) : (writeD i v s).cur.protStack = s.cur.protStack := rfl
@[simp] theorem writeD_cur_rtStack (i : Fin 16) (v : Word) (s : State) : (writeD i v s).cur.rtStack = s.cur.rtStack := rfl
@[simp] theorem writeD_cur_intSaves (i : Fin 16) (v : Word) (s : State) : (writeD i v s).cur.intSaves = s.cur.intSaves := rfl
@[simp] theorem writeD_cur_warnPsp (i : Fin 16) (v : Word) (s : State) : (writeD i v s).cur.warnPsp = s.cur.warnPsp := rfl
@[simp] theorem writeD_cur_warnRtisp (i : Fin 16) (v : Word) (s : State) : (writeD i v s).cur.warnRtisp = s.cur.warnRtisp := rfl
@[simp] theorem writeD_cur_mem (i : Fin 16) (v : Word) (s : State) : (writeD i v s).cur.mem = s.cur.mem := rfl
@[simp] theorem writeD_cur_stored (i : Fin 16) (v : Word) (s : State) : (writeD i v s).cur.stored = s.cur.stored := rfl
@[simp] theorem writeD_cur_nmiPending (i : Fin 16) (v : Word) (s : State) : (writeD i v s).cur.nmiPending = s.cur.nmiPending := rfl
@[simp] theorem writeD_cur_rtintPending (i : Fin 16) (v : Word) (s : State) : (writeD i v s).cur.rtintPending = s.cur.rtintPending := rfl
@[simp] theorem writeD_cur_intPending (i : Fin 16) (v : Word) (s : State) : (writeD i v s).cur.intPending = s.cur.intPending := rfl
@[simp] theorem writeD_cur_expect (i : Fin 16) (v : Word) (s : State) : (writeD i v s).cur.expect = s.cur.expect := rfl
@[simp] theorem writeD_cur_pending (i : Fin 16) (v : Word) (s : State) : (writeD i v s).cur.pending = s.cur.pending := rfl
@[simp] theorem writeD_cur_xcCover (i : Fin 16) (v : Word) (s : State) : (writeD i v s).cur.xcCover = s.cur.xcCover := rfl
@[simp] theorem writeD_cur_idle (i : Fin 16) (v : Word) (s : State) : (writeD i v s).cur.idle = s.cur.idle := rfl
@[simp] theorem writeD_cur_fault (i : Fin 16) (v : Word) (s : State) : (writeD i v s).cur.fault = s.cur.fault := rfl
@[simp] theorem writeD_cur_d (i : Fin 16) (v : Word) (s : State) : (writeD i v s).cur.d = s.cur.d.set i v := rfl

@[simp] theorem writeM_pre (i : Fin 32) (v : Word) (s : State) : (writeM i v s).pre = s.pre := rfl
@[simp] theorem writeM_pkt (i : Fin 32) (v : Word) (s : State) : (writeM i v s).pkt = s.pkt := rfl
@[simp] theorem writeM_free (i : Fin 32) (v : Word) (s : State) : (writeM i v s).free = s.free := rfl
@[simp] theorem writeM_cfg (i : Fin 32) (v : Word) (s : State) : (writeM i v s).cfg = s.cfg := rfl
@[simp] theorem writeM_dbg (i : Fin 32) (v : Word) (s : State) : (writeM i v s).dbg = s.dbg := rfl
@[simp] theorem writeM_inputs (i : Fin 32) (v : Word) (s : State) : (writeM i v s).inputs = s.inputs := rfl
@[simp] theorem writeM_outputs (i : Fin 32) (v : Word) (s : State) : (writeM i v s).outputs = s.outputs := rfl
@[simp] theorem writeM_cur_a (i : Fin 32) (v : Word) (s : State) : (writeM i v s).cur.a = s.cur.a := rfl
@[simp] theorem writeM_cur_d (i : Fin 32) (v : Word) (s : State) : (writeM i v s).cur.d = s.cur.d := rfl
@[simp] theorem writeM_cur_pc (i : Fin 32) (v : Word) (s : State) : (writeM i v s).cur.pc = s.cur.pc := rfl
@[simp] theorem writeM_cur_rpc (i : Fin 32) (v : Word) (s : State) : (writeM i v s).cur.rpc = s.cur.rpc := rfl
@[simp] theorem writeM_cur_ists (i : Fin 32) (v : Word) (s : State) : (writeM i v s).cur.ists = s.cur.ists := rfl
@[simp] theorem writeM_cur_dsts (i : Fin 32) (v : Word) (s : State) : (writeM i v s).cur.dsts = s.cur.dsts := rfl
@[simp] theorem writeM_cur_ests (i : Fin 32) (v : Word) (s : State) : (writeM i v s).cur.ests = s.cur.ests := rfl
@[simp] theorem writeM_cur_secsp (i : Fin 32) (v : Word) (s : State) : (writeM i v s).cur.secsp = s.cur.secsp := rfl
@[simp] theorem writeM_cur_protStack (i : Fin 32) (v : Word) (s : State) : (writeM i v s).cur.protStack = s.cur.protStack := rfl
@[simp] theorem writeM_cur_rtStack (i : Fin 32) (v : Word) (s : State) : (writeM i v s).cur.rtStack = s.cur.rtStack := rfl
@[simp] theorem writeM_cur_intSaves (i : Fin 32) (v : Word) (s : State) : (writeM i v s).cur.intSaves = s.cur.intSaves := rfl
@[simp] theorem writeM_cur_warnPsp (i : Fin 32) (v : Word) (s : State) : (writeM i v s).cur.warnPsp = s.cur.warnPsp := rfl
@[simp] theorem writeM_cur_warnRtisp (i : Fin 32) (v : Word) (s : State) : (writeM i v s).cur.warnRtisp = s.cur.warnRtisp := rfl
@[simp] theorem writeM_cur_mem (i : Fin 32) (v : Word) (s : State) : (writeM i v s).cur.mem = s.cur.mem := rfl
@[simp] theorem writeM_cur_stored (i : Fin 32) (v : Word) (s : State) : (writeM i v s).cur.stored = s.cur.stored := rfl
@[simp] theorem writeM_cur_nmiPending (i : Fin 32) (v : Word) (s : State) : (writeM i v s).cur.nmiPending = s.cur.nmiPending := rfl
@[simp] theorem writeM_cur_rtintPending (i : Fin 32) (v : Word) (s : State) : (writeM i v s).cur.rtintPending = s.cur.rtintPending := rfl
@[simp] theorem writeM_cur_intPending (i : Fin 32) (v : Word) (s : State) : (writeM i v s).cur.intPending = s.cur.intPending := rfl
@[simp] theorem writeM_cur_expect (i : Fin 32) (v : Word) (s : State) : (writeM i v s).cur.expect = s.cur.expect := rfl
@[simp] theorem writeM_cur_pending (i : Fin 32) (v : Word) (s : State) : (writeM i v s).cur.pending = s.cur.pending := rfl
@[simp] theorem writeM_cur_xcCover (i : Fin 32) (v : Word) (s : State) : (writeM i v s).cur.xcCover = s.cur.xcCover := rfl
@[simp] theorem writeM_cur_idle (i : Fin 32) (v : Word) (s : State) : (writeM i v s).cur.idle = s.cur.idle := rfl
@[simp] theorem writeM_cur_fault (i : Fin 32) (v : Word) (s : State) : (writeM i v s).cur.fault = s.cur.fault := rfl
@[simp] theorem writeM_cur_m (i : Fin 32) (v : Word) (s : State) : (writeM i v s).cur.m = s.cur.m.set i v := rfl

@[simp] theorem writeRpc_pre (v : Word) (s : State) : (writeRpc v s).pre = s.pre := rfl
@[simp] theorem writeRpc_pkt (v : Word) (s : State) : (writeRpc v s).pkt = s.pkt := rfl
@[simp] theorem writeRpc_free (v : Word) (s : State) : (writeRpc v s).free = s.free := rfl
@[simp] theorem writeRpc_cfg (v : Word) (s : State) : (writeRpc v s).cfg = s.cfg := rfl
@[simp] theorem writeRpc_dbg (v : Word) (s : State) : (writeRpc v s).dbg = s.dbg := rfl
@[simp] theorem writeRpc_inputs (v : Word) (s : State) : (writeRpc v s).inputs = s.inputs := rfl
@[simp] theorem writeRpc_outputs (v : Word) (s : State) : (writeRpc v s).outputs = s.outputs := rfl
@[simp] theorem writeRpc_cur_a (v : Word) (s : State) : (writeRpc v s).cur.a = s.cur.a := rfl
@[simp] theorem writeRpc_cur_d (v : Word) (s : State) : (writeRpc v s).cur.d = s.cur.d := rfl
@[simp] theorem writeRpc_cur_m (v : Word) (s : State) : (writeRpc v s).cur.m = s.cur.m := rfl
@[simp] theorem writeRpc_cur_pc (v : Word) (s : State) : (writeRpc v s).cur.pc = s.cur.pc := rfl
@[simp] theorem writeRpc_cur_ists (v : Word) (s : State) : (writeRpc v s).cur.ists = s.cur.ists := rfl
@[simp] theorem writeRpc_cur_dsts (v : Word) (s : State) : (writeRpc v s).cur.dsts = s.cur.dsts := rfl
@[simp] theorem writeRpc_cur_ests (v : Word) (s : State) : (writeRpc v s).cur.ests = s.cur.ests := rfl
@[simp] theorem writeRpc_cur_secsp (v : Word) (s : State) : (writeRpc v s).cur.secsp = s.cur.secsp := rfl
@[simp] theorem writeRpc_cur_protStack (v : Word) (s : State) : (writeRpc v s).cur.protStack = s.cur.protStack := rfl
@[simp] theorem writeRpc_cur_rtStack (v : Word) (s : State) : (writeRpc v s).cur.rtStack = s.cur.rtStack := rfl
@[simp] theorem writeRpc_cur_intSaves (v : Word) (s : State) : (writeRpc v s).cur.intSaves = s.cur.intSaves := rfl
@[simp] theorem writeRpc_cur_warnPsp (v : Word) (s : State) : (writeRpc v s).cur.warnPsp = s.cur.warnPsp := rfl
@[simp] theorem writeRpc_cur_warnRtisp (v : Word) (s : State) : (writeRpc v s).cur.warnRtisp = s.cur.warnRtisp := rfl
@[simp] theorem writeRpc_cur_mem (v : Word) (s : State) : (writeRpc v s).cur.mem = s.cur.mem := rfl
@[simp] theorem writeRpc_cur_stored (v : Word) (s : State) : (writeRpc v s).cur.stored = s.cur.stored := rfl
@[simp] theorem writeRpc_cur_nmiPending (v : Word) (s : State) : (writeRpc v s).cur.nmiPending = s.cur.nmiPending := rfl
@[simp] theorem writeRpc_cur_rtintPending (v : Word) (s : State) : (writeRpc v s).cur.rtintPending = s.cur.rtintPending := rfl
@[simp] theorem writeRpc_cur_intPending (v : Word) (s : State) : (writeRpc v s).cur.intPending = s.cur.intPending := rfl
@[simp] theorem writeRpc_cur_expect (v : Word) (s : State) : (writeRpc v s).cur.expect = s.cur.expect := rfl
@[simp] theorem writeRpc_cur_pending (v : Word) (s : State) : (writeRpc v s).cur.pending = s.cur.pending := rfl
@[simp] theorem writeRpc_cur_xcCover (v : Word) (s : State) : (writeRpc v s).cur.xcCover = s.cur.xcCover := rfl
@[simp] theorem writeRpc_cur_idle (v : Word) (s : State) : (writeRpc v s).cur.idle = s.cur.idle := rfl
@[simp] theorem writeRpc_cur_fault (v : Word) (s : State) : (writeRpc v s).cur.fault = s.cur.fault := rfl
@[simp] theorem writeRpc_cur_rpc (v : Word) (s : State) : (writeRpc v s).cur.rpc = v := rfl

@[simp] theorem markStored_pre (a : Word) (n : Nat) (s : State) : (markStored a n s).pre = s.pre := rfl
@[simp] theorem markStored_pkt (a : Word) (n : Nat) (s : State) : (markStored a n s).pkt = s.pkt := rfl
@[simp] theorem markStored_free (a : Word) (n : Nat) (s : State) : (markStored a n s).free = s.free := rfl
@[simp] theorem markStored_cfg (a : Word) (n : Nat) (s : State) : (markStored a n s).cfg = s.cfg := rfl
@[simp] theorem markStored_dbg (a : Word) (n : Nat) (s : State) : (markStored a n s).dbg = s.dbg := rfl
@[simp] theorem markStored_inputs (a : Word) (n : Nat) (s : State) : (markStored a n s).inputs = s.inputs := rfl
@[simp] theorem markStored_outputs (a : Word) (n : Nat) (s : State) : (markStored a n s).outputs = s.outputs := rfl
@[simp] theorem markStored_cur_a (a : Word) (n : Nat) (s : State) : (markStored a n s).cur.a = s.cur.a := rfl
@[simp] theorem markStored_cur_d (a : Word) (n : Nat) (s : State) : (markStored a n s).cur.d = s.cur.d := rfl
@[simp] theorem markStored_cur_m (a : Word) (n : Nat) (s : State) : (markStored a n s).cur.m = s.cur.m := rfl
@[simp] theorem markStored_cur_pc (a : Word) (n : Nat) (s : State) : (markStored a n s).cur.pc = s.cur.pc := rfl
@[simp] theorem markStored_cur_rpc (a : Word) (n : Nat) (s : State) : (markStored a n s).cur.rpc = s.cur.rpc := rfl
@[simp] theorem markStored_cur_ists (a : Word) (n : Nat) (s : State) : (markStored a n s).cur.ists = s.cur.ists := rfl
@[simp] theorem markStored_cur_dsts (a : Word) (n : Nat) (s : State) : (markStored a n s).cur.dsts = s.cur.dsts := rfl
@[simp] theorem markStored_cur_ests (a : Word) (n : Nat) (s : State) : (markStored a n s).cur.ests = s.cur.ests := rfl
@[simp] theorem markStored_cur_secsp (a : Word) (n : Nat) (s : State) : (markStored a n s).cur.secsp = s.cur.secsp := rfl
@[simp] theorem markStored_cur_protStack (a : Word) (n : Nat) (s : State) : (markStored a n s).cur.protStack = s.cur.protStack := rfl
@[simp] theorem markStored_cur_rtStack (a : Word) (n : Nat) (s : State) : (markStored a n s).cur.rtStack = s.cur.rtStack := rfl
@[simp] theorem markStored_cur_intSaves (a : Word) (n : Nat) (s : State) : (markStored a n s).cur.intSaves = s.cur.intSaves := rfl
@[simp] theorem markStored_cur_warnPsp (a : Word) (n : Nat) (s : State) : (markStored a n s).cur.warnPsp = s.cur.warnPsp := rfl
@[simp] theorem markStored_cur_warnRtisp (a : Word) (n : Nat) (s : State) : (markStored a n s).cur.warnRtisp = s.cur.warnRtisp := rfl
@[simp] theorem markStored_cur_mem (a : Word) (n : Nat) (s : State) : (markStored a n s).cur.mem = s.cur.mem := rfl
@[simp] theorem markStored_cur_nmiPending (a : Word) (n : Nat) (s : State) : (markStored a n s).cur.nmiPending = s.cur.nmiPending := rfl
@[simp] theorem markStored_cur_rtintPending (a : Word) (n : Nat) (s : State) : (markStored a n s).cur.rtintPending = s.cur.rtintPending := rfl
@[simp] theorem markStored_cur_intPending (a : Word) (n : Nat) (s : State) : (markStored a n s).cur.intPending = s.cur.intPending := rfl
@[simp] theorem markStored_cur_expect (a : Word) (n : Nat) (s : State) : (markStored a n s).cur.expect = s.cur.expect := rfl
@[simp] theorem markStored_cur_pending (a : Word) (n : Nat) (s : State) : (markStored a n s).cur.pending = s.cur.pending := rfl
@[simp] theorem markStored_cur_xcCover (a : Word) (n : Nat) (s : State) : (markStored a n s).cur.xcCover = s.cur.xcCover := rfl
@[simp] theorem markStored_cur_idle (a : Word) (n : Nat) (s : State) : (markStored a n s).cur.idle = s.cur.idle := rfl
@[simp] theorem markStored_cur_fault (a : Word) (n : Nat) (s : State) : (markStored a n s).cur.fault = s.cur.fault := rfl

@[simp] theorem storeBytes_pre (a : Word) (n : Nat) (v : DWord) (s : State) : (storeBytes a n v s).pre = s.pre := rfl
@[simp] theorem storeBytes_pkt (a : Word) (n : Nat) (v : DWord) (s : State) : (storeBytes a n v s).pkt = s.pkt := rfl
@[simp] theorem storeBytes_free (a : Word) (n : Nat) (v : DWord) (s : State) : (storeBytes a n v s).free = s.free := rfl
@[simp] theorem storeBytes_cfg (a : Word) (n : Nat) (v : DWord) (s : State) : (storeBytes a n v s).cfg = s.cfg := rfl
@[simp] theorem storeBytes_dbg (a : Word) (n : Nat) (v : DWord) (s : State) : (storeBytes a n v s).dbg = s.dbg := rfl
@[simp] theorem storeBytes_inputs (a : Word) (n : Nat) (v : DWord) (s : State) : (storeBytes a n v s).inputs = s.inputs := rfl
@[simp] theorem storeBytes_outputs (a : Word) (n : Nat) (v : DWord) (s : State) : (storeBytes a n v s).outputs = s.outputs := rfl
@[simp] theorem storeBytes_cur_a (a : Word) (n : Nat) (v : DWord) (s : State) : (storeBytes a n v s).cur.a = s.cur.a := rfl
@[simp] theorem storeBytes_cur_d (a : Word) (n : Nat) (v : DWord) (s : State) : (storeBytes a n v s).cur.d = s.cur.d := rfl
@[simp] theorem storeBytes_cur_m (a : Word) (n : Nat) (v : DWord) (s : State) : (storeBytes a n v s).cur.m = s.cur.m := rfl
@[simp] theorem storeBytes_cur_pc (a : Word) (n : Nat) (v : DWord) (s : State) : (storeBytes a n v s).cur.pc = s.cur.pc := rfl
@[simp] theorem storeBytes_cur_rpc (a : Word) (n : Nat) (v : DWord) (s : State) : (storeBytes a n v s).cur.rpc = s.cur.rpc := rfl
@[simp] theorem storeBytes_cur_ists (a : Word) (n : Nat) (v : DWord) (s : State) : (storeBytes a n v s).cur.ists = s.cur.ists := rfl
@[simp] theorem storeBytes_cur_dsts (a : Word) (n : Nat) (v : DWord) (s : State) : (storeBytes a n v s).cur.dsts = s.cur.dsts := rfl
@[simp] theorem storeBytes_cur_ests (a : Word) (n : Nat) (v : DWord) (s : State) : (storeBytes a n v s).cur.ests = s.cur.ests := rfl
@[simp] theorem storeBytes_cur_secsp (a : Word) (n : Nat) (v : DWord) (s : State) : (storeBytes a n v s).cur.secsp = s.cur.secsp := rfl
@[simp] theorem storeBytes_cur_protStack (a : Word) (n : Nat) (v : DWord) (s : State) : (storeBytes a n v s).cur.protStack = s.cur.protStack := rfl
@[simp] theorem storeBytes_cur_rtStack (a : Word) (n : Nat) (v : DWord) (s : State) : (storeBytes a n v s).cur.rtStack = s.cur.rtStack := rfl
@[simp] theorem storeBytes_cur_intSaves (a : Word) (n : Nat) (v : DWord) (s : State) : (storeBytes a n v s).cur.intSaves = s.cur.intSaves := rfl
@[simp] theorem storeBytes_cur_warnPsp (a : Word) (n : Nat) (v : DWord) (s : State) : (storeBytes a n v s).cur.warnPsp = s.cur.warnPsp := rfl
@[simp] theorem storeBytes_cur_warnRtisp (a : Word) (n : Nat) (v : DWord) (s : State) : (storeBytes a n v s).cur.warnRtisp = s.cur.warnRtisp := rfl
@[simp] theorem storeBytes_cur_nmiPending (a : Word) (n : Nat) (v : DWord) (s : State) : (storeBytes a n v s).cur.nmiPending = s.cur.nmiPending := rfl
@[simp] theorem storeBytes_cur_rtintPending (a : Word) (n : Nat) (v : DWord) (s : State) : (storeBytes a n v s).cur.rtintPending = s.cur.rtintPending := rfl
@[simp] theorem storeBytes_cur_intPending (a : Word) (n : Nat) (v : DWord) (s : State) : (storeBytes a n v s).cur.intPending = s.cur.intPending := rfl
@[simp] theorem storeBytes_cur_expect (a : Word) (n : Nat) (v : DWord) (s : State) : (storeBytes a n v s).cur.expect = s.cur.expect := rfl
@[simp] theorem storeBytes_cur_pending (a : Word) (n : Nat) (v : DWord) (s : State) : (storeBytes a n v s).cur.pending = s.cur.pending := rfl
@[simp] theorem storeBytes_cur_xcCover (a : Word) (n : Nat) (v : DWord) (s : State) : (storeBytes a n v s).cur.xcCover = s.cur.xcCover := rfl
@[simp] theorem storeBytes_cur_idle (a : Word) (n : Nat) (v : DWord) (s : State) : (storeBytes a n v s).cur.idle = s.cur.idle := rfl
@[simp] theorem storeBytes_cur_fault (a : Word) (n : Nat) (v : DWord) (s : State) : (storeBytes a n v s).cur.fault = s.cur.fault := rfl
@[simp] theorem storeBytes_cur_mem (a : Word) (n : Nat) (v : DWord) (s : State) : (storeBytes a n v s).cur.mem = writeLE s.cur.mem a.toNat n v.toNat := rfl

/-- Raising a fault changes the fault indicator and the outputs only. -/
@[simp] theorem raise_pre (c : Cause) (s : State) : (raise c s).pre = s.pre := by unfold raise; split <;> rfl

@[simp] theorem raise_pkt (c : Cause) (s : State) : (raise c s).pkt = s.pkt := by unfold raise; split <;> rfl
@[simp] theorem raise_free (c : Cause) (s : State) : (raise c s).free = s.free := by unfold raise; split <;> rfl
@[simp] theorem raise_cfg (c : Cause) (s : State) : (raise c s).cfg = s.cfg := by unfold raise; split <;> rfl
@[simp] theorem raise_dbg (c : Cause) (s : State) : (raise c s).dbg = s.dbg := by unfold raise; split <;> rfl
@[simp] theorem raise_inputs (c : Cause) (s : State) : (raise c s).inputs = s.inputs := by unfold raise; split <;> rfl
@[simp] theorem raise_cur_a (c : Cause) (s : State) : (raise c s).cur.a = s.cur.a := by unfold raise; split <;> rfl
@[simp] theorem raise_cur_d (c : Cause) (s : State) : (raise c s).cur.d = s.cur.d := by unfold raise; split <;> rfl
@[simp] theorem raise_cur_m (c : Cause) (s : State) : (raise c s).cur.m = s.cur.m := by unfold raise; split <;> rfl
@[simp] theorem raise_cur_pc (c : Cause) (s : State) : (raise c s).cur.pc = s.cur.pc := by unfold raise; split <;> rfl
@[simp] theorem raise_cur_rpc (c : Cause) (s : State) : (raise c s).cur.rpc = s.cur.rpc := by unfold raise; split <;> rfl
@[simp] theorem raise_cur_ists (c : Cause) (s : State) : (raise c s).cur.ists = s.cur.ists := by unfold raise; split <;> rfl
@[simp] theorem raise_cur_dsts (c : Cause) (s : State) : (raise c s).cur.dsts = s.cur.dsts := by unfold raise; split <;> rfl
@[simp] theorem raise_cur_ests (c : Cause) (s : State) : (raise c s).cur.ests = s.cur.ests := by unfold raise; split <;> rfl
@[simp] theorem raise_cur_secsp (c : Cause) (s : State) : (raise c s).cur.secsp = s.cur.secsp := by unfold raise; split <;> rfl
@[simp] theorem raise_cur_protStack (c : Cause) (s : State) : (raise c s).cur.protStack = s.cur.protStack := by unfold raise; split <;> rfl
@[simp] theorem raise_cur_rtStack (c : Cause) (s : State) : (raise c s).cur.rtStack = s.cur.rtStack := by unfold raise; split <;> rfl
@[simp] theorem raise_cur_intSaves (c : Cause) (s : State) : (raise c s).cur.intSaves = s.cur.intSaves := by unfold raise; split <;> rfl
@[simp] theorem raise_cur_warnPsp (c : Cause) (s : State) : (raise c s).cur.warnPsp = s.cur.warnPsp := by unfold raise; split <;> rfl
@[simp] theorem raise_cur_warnRtisp (c : Cause) (s : State) : (raise c s).cur.warnRtisp = s.cur.warnRtisp := by unfold raise; split <;> rfl
@[simp] theorem raise_cur_mem (c : Cause) (s : State) : (raise c s).cur.mem = s.cur.mem := by unfold raise; split <;> rfl
@[simp] theorem raise_cur_stored (c : Cause) (s : State) : (raise c s).cur.stored = s.cur.stored := by unfold raise; split <;> rfl
@[simp] theorem raise_cur_nmiPending (c : Cause) (s : State) : (raise c s).cur.nmiPending = s.cur.nmiPending := by unfold raise; split <;> rfl
@[simp] theorem raise_cur_rtintPending (c : Cause) (s : State) : (raise c s).cur.rtintPending = s.cur.rtintPending := by unfold raise; split <;> rfl
@[simp] theorem raise_cur_intPending (c : Cause) (s : State) : (raise c s).cur.intPending = s.cur.intPending := by unfold raise; split <;> rfl
@[simp] theorem raise_cur_expect (c : Cause) (s : State) : (raise c s).cur.expect = s.cur.expect := by unfold raise; split <;> rfl
@[simp] theorem raise_cur_pending (c : Cause) (s : State) : (raise c s).cur.pending = s.cur.pending := by unfold raise; split <;> rfl
@[simp] theorem raise_cur_xcCover (c : Cause) (s : State) : (raise c s).cur.xcCover = s.cur.xcCover := by unfold raise; split <;> rfl
@[simp] theorem raise_cur_idle (c : Cause) (s : State) : (raise c s).cur.idle = s.cur.idle := by unfold raise; split <;> rfl

/-- The first cause is kept (R500). -/
theorem raise_fault (c : Cause) (s : State) : (raise c s).cur.fault = some (s.cur.fault.getD c) := by
  unfold raise; split <;> simp_all

/-- A check that holds changes nothing. -/
@[simp] theorem raiseIf_false (c : Cause) (s : State) : raiseIf false c s = s := rfl

/-- A check that fails raises. -/
@[simp] theorem raiseIf_true (c : Cause) (s : State) : raiseIf true c s = raise c s := rfl

/-- `andThen` goes on from a next state. -/
@[simp] theorem andThen_next {α β : Type} (v : α) (f : α → Res β) : andThen (.next v) f = f v := rfl

/-- `andThen` keeps a fault. -/
@[simp] theorem andThen_fault {α β : Type} (r : Fault) (f : α → Res β) : andThen (.fault r) f = .fault r := rfl

/-- `andThen` keeps a refusal. -/
@[simp] theorem andThen_refused {α β : Type} (r : Refusal) (f : α → Res β) : andThen (.refused r) f = .refused r := rfl

/-- A sequence that answers went through its first part. -/
theorem andThen_eq_next {α β : Type} {o : Res α} {f : α → Res β} {t : β} (h : andThen o f = .next t) :
    ∃ v, o = .next v ∧ f v = .next t := by
  cases o with
  | next v => exact ⟨v, rfl, h⟩
  | fault r => cases h
  | refused r => cases h

@[simp] theorem writeReg_pre (r : Reg) (v : Word) (s : State) : (writeReg r v s).pre = s.pre := by cases r <;> rfl
@[simp] theorem writeReg_pkt (r : Reg) (v : Word) (s : State) : (writeReg r v s).pkt = s.pkt := by cases r <;> rfl
@[simp] theorem writeReg_free (r : Reg) (v : Word) (s : State) : (writeReg r v s).free = s.free := by cases r <;> rfl
@[simp] theorem writeReg_cfg (r : Reg) (v : Word) (s : State) : (writeReg r v s).cfg = s.cfg := by cases r <;> rfl
@[simp] theorem writeReg_dbg (r : Reg) (v : Word) (s : State) : (writeReg r v s).dbg = s.dbg := by cases r <;> rfl
@[simp] theorem writeReg_inputs (r : Reg) (v : Word) (s : State) : (writeReg r v s).inputs = s.inputs := by cases r <;> rfl
@[simp] theorem writeReg_outputs (r : Reg) (v : Word) (s : State) : (writeReg r v s).outputs = s.outputs := by cases r <;> rfl
@[simp] theorem writeReg_cur_pc (r : Reg) (v : Word) (s : State) : (writeReg r v s).cur.pc = s.cur.pc := by cases r <;> rfl
@[simp] theorem writeReg_cur_rpc (r : Reg) (v : Word) (s : State) : (writeReg r v s).cur.rpc = s.cur.rpc := by cases r <;> rfl
@[simp] theorem writeReg_cur_ists (r : Reg) (v : Word) (s : State) : (writeReg r v s).cur.ists = s.cur.ists := by cases r <;> rfl
@[simp] theorem writeReg_cur_dsts (r : Reg) (v : Word) (s : State) : (writeReg r v s).cur.dsts = s.cur.dsts := by cases r <;> rfl
@[simp] theorem writeReg_cur_ests (r : Reg) (v : Word) (s : State) : (writeReg r v s).cur.ests = s.cur.ests := by cases r <;> rfl
@[simp] theorem writeReg_cur_secsp (r : Reg) (v : Word) (s : State) : (writeReg r v s).cur.secsp = s.cur.secsp := by cases r <;> rfl
@[simp] theorem writeReg_cur_protStack (r : Reg) (v : Word) (s : State) : (writeReg r v s).cur.protStack = s.cur.protStack := by cases r <;> rfl
@[simp] theorem writeReg_cur_rtStack (r : Reg) (v : Word) (s : State) : (writeReg r v s).cur.rtStack = s.cur.rtStack := by cases r <;> rfl
@[simp] theorem writeReg_cur_intSaves (r : Reg) (v : Word) (s : State) : (writeReg r v s).cur.intSaves = s.cur.intSaves := by cases r <;> rfl
@[simp] theorem writeReg_cur_warnPsp (r : Reg) (v : Word) (s : State) : (writeReg r v s).cur.warnPsp = s.cur.warnPsp := by cases r <;> rfl
@[simp] theorem writeReg_cur_warnRtisp (r : Reg) (v : Word) (s : State) : (writeReg r v s).cur.warnRtisp = s.cur.warnRtisp := by cases r <;> rfl
@[simp] theorem writeReg_cur_mem (r : Reg) (v : Word) (s : State) : (writeReg r v s).cur.mem = s.cur.mem := by cases r <;> rfl
@[simp] theorem writeReg_cur_stored (r : Reg) (v : Word) (s : State) : (writeReg r v s).cur.stored = s.cur.stored := by cases r <;> rfl
@[simp] theorem writeReg_cur_nmiPending (r : Reg) (v : Word) (s : State) : (writeReg r v s).cur.nmiPending = s.cur.nmiPending := by cases r <;> rfl
@[simp] theorem writeReg_cur_rtintPending (r : Reg) (v : Word) (s : State) : (writeReg r v s).cur.rtintPending = s.cur.rtintPending := by cases r <;> rfl
@[simp] theorem writeReg_cur_intPending (r : Reg) (v : Word) (s : State) : (writeReg r v s).cur.intPending = s.cur.intPending := by cases r <;> rfl
@[simp] theorem writeReg_cur_expect (r : Reg) (v : Word) (s : State) : (writeReg r v s).cur.expect = s.cur.expect := by cases r <;> rfl
@[simp] theorem writeReg_cur_pending (r : Reg) (v : Word) (s : State) : (writeReg r v s).cur.pending = s.cur.pending := by cases r <;> rfl
@[simp] theorem writeReg_cur_xcCover (r : Reg) (v : Word) (s : State) : (writeReg r v s).cur.xcCover = s.cur.xcCover := by cases r <;> rfl
@[simp] theorem writeReg_cur_idle (r : Reg) (v : Word) (s : State) : (writeReg r v s).cur.idle = s.cur.idle := by cases r <;> rfl
@[simp] theorem writeReg_cur_fault (r : Reg) (v : Word) (s : State) : (writeReg r v s).cur.fault = s.cur.fault := by cases r <;> rfl
@[simp] theorem applySide_pre (e : EffAddr) (s : State) : (applySide e s).pre = s.pre := by unfold applySide; split <;> rfl
@[simp] theorem applySide_pkt (e : EffAddr) (s : State) : (applySide e s).pkt = s.pkt := by unfold applySide; split <;> rfl
@[simp] theorem applySide_free (e : EffAddr) (s : State) : (applySide e s).free = s.free := by unfold applySide; split <;> rfl
@[simp] theorem applySide_cfg (e : EffAddr) (s : State) : (applySide e s).cfg = s.cfg := by unfold applySide; split <;> rfl
@[simp] theorem applySide_dbg (e : EffAddr) (s : State) : (applySide e s).dbg = s.dbg := by unfold applySide; split <;> rfl
@[simp] theorem applySide_inputs (e : EffAddr) (s : State) : (applySide e s).inputs = s.inputs := by unfold applySide; split <;> rfl
@[simp] theorem applySide_outputs (e : EffAddr) (s : State) : (applySide e s).outputs = s.outputs := by unfold applySide; split <;> rfl
@[simp] theorem applySide_cur_d (e : EffAddr) (s : State) : (applySide e s).cur.d = s.cur.d := by unfold applySide; split <;> rfl
@[simp] theorem applySide_cur_m (e : EffAddr) (s : State) : (applySide e s).cur.m = s.cur.m := by unfold applySide; split <;> rfl
@[simp] theorem applySide_cur_pc (e : EffAddr) (s : State) : (applySide e s).cur.pc = s.cur.pc := by unfold applySide; split <;> rfl
@[simp] theorem applySide_cur_rpc (e : EffAddr) (s : State) : (applySide e s).cur.rpc = s.cur.rpc := by unfold applySide; split <;> rfl
@[simp] theorem applySide_cur_ists (e : EffAddr) (s : State) : (applySide e s).cur.ists = s.cur.ists := by unfold applySide; split <;> rfl
@[simp] theorem applySide_cur_dsts (e : EffAddr) (s : State) : (applySide e s).cur.dsts = s.cur.dsts := by unfold applySide; split <;> rfl
@[simp] theorem applySide_cur_ests (e : EffAddr) (s : State) : (applySide e s).cur.ests = s.cur.ests := by unfold applySide; split <;> rfl
@[simp] theorem applySide_cur_secsp (e : EffAddr) (s : State) : (applySide e s).cur.secsp = s.cur.secsp := by unfold applySide; split <;> rfl
@[simp] theorem applySide_cur_protStack (e : EffAddr) (s : State) : (applySide e s).cur.protStack = s.cur.protStack := by unfold applySide; split <;> rfl
@[simp] theorem applySide_cur_rtStack (e : EffAddr) (s : State) : (applySide e s).cur.rtStack = s.cur.rtStack := by unfold applySide; split <;> rfl
@[simp] theorem applySide_cur_intSaves (e : EffAddr) (s : State) : (applySide e s).cur.intSaves = s.cur.intSaves := by unfold applySide; split <;> rfl
@[simp] theorem applySide_cur_warnPsp (e : EffAddr) (s : State) : (applySide e s).cur.warnPsp = s.cur.warnPsp := by unfold applySide; split <;> rfl
@[simp] theorem applySide_cur_warnRtisp (e : EffAddr) (s : State) : (applySide e s).cur.warnRtisp = s.cur.warnRtisp := by unfold applySide; split <;> rfl
@[simp] theorem applySide_cur_mem (e : EffAddr) (s : State) : (applySide e s).cur.mem = s.cur.mem := by unfold applySide; split <;> rfl
@[simp] theorem applySide_cur_stored (e : EffAddr) (s : State) : (applySide e s).cur.stored = s.cur.stored := by unfold applySide; split <;> rfl
@[simp] theorem applySide_cur_nmiPending (e : EffAddr) (s : State) : (applySide e s).cur.nmiPending = s.cur.nmiPending := by unfold applySide; split <;> rfl
@[simp] theorem applySide_cur_rtintPending (e : EffAddr) (s : State) : (applySide e s).cur.rtintPending = s.cur.rtintPending := by unfold applySide; split <;> rfl
@[simp] theorem applySide_cur_intPending (e : EffAddr) (s : State) : (applySide e s).cur.intPending = s.cur.intPending := by unfold applySide; split <;> rfl
@[simp] theorem applySide_cur_expect (e : EffAddr) (s : State) : (applySide e s).cur.expect = s.cur.expect := by unfold applySide; split <;> rfl
@[simp] theorem applySide_cur_pending (e : EffAddr) (s : State) : (applySide e s).cur.pending = s.cur.pending := by unfold applySide; split <;> rfl
@[simp] theorem applySide_cur_xcCover (e : EffAddr) (s : State) : (applySide e s).cur.xcCover = s.cur.xcCover := by unfold applySide; split <;> rfl
@[simp] theorem applySide_cur_idle (e : EffAddr) (s : State) : (applySide e s).cur.idle = s.cur.idle := by unfold applySide; split <;> rfl
@[simp] theorem applySide_cur_fault (e : EffAddr) (s : State) : (applySide e s).cur.fault = s.cur.fault := by unfold applySide; split <;> rfl

end Sys2Proof.Laws
end

