-- ==== Sys2Proof/Laws/Ops.lean ====
section
/-! SUPPORT. For each shared operation, once, what it can do: memory and its canonical form, checked accesses, control transfer, the
entries and returns, the end of a packet. -/

namespace Sys2Proof.Laws

open Sys2Proof.Machine

/-! ### Memory as a list -/

/-- The byte just set is found. -/
theorem find_put_same (m : Memory) (a : Nat) (v : Byte) : (m.put a v).find a = some v := by
  induction m with
  | nil => simp [Memory.put, Memory.find]
  | cons c m ih => simp only [Memory.put]; split_ifs <;> simp_all [Memory.find]; omega

/-- Setting one byte leaves the others. -/
theorem find_put_other (m : Memory) (a b : Nat) (v : Byte) (h : b ≠ a) : (m.put a v).find b = m.find b := by
  induction m with
  | nil => simp [Memory.put, Memory.find, Ne.symm h]
  | cons c m ih =>
    have h' : ¬ a = b := fun e => h e.symm
    simp only [Memory.put]
    split_ifs with h1 h2
    · simp [Memory.find, h']
    · subst h2; simp [Memory.find, h']
    · simp [Memory.find, ih]

/-- Setting a byte keeps the canonical form above a bound. -/
theorem wfFrom_put (m : Memory) (lo a : Nat) (v : Byte) (hl : lo ≤ a) (ha : a < 4294967296) (w : Memory.wfFrom lo m = true) :
    Memory.wfFrom lo (m.put a v) = true := by
  induction m generalizing lo with
  | nil => simp [Memory.put, Memory.wfFrom, hl, ha]
  | cons c m ih =>
    simp only [Memory.wfFrom, Bool.and_eq_true, decide_eq_true_eq] at w
    simp only [Memory.put]
    split_ifs with h1 h2
    · simp [Memory.wfFrom, hl, ha, w.1.2, w.2]; omega
    · subst h2; simpa [Memory.wfFrom, hl, ha] using w.2
    · simp only [Memory.wfFrom, Bool.and_eq_true, decide_eq_true_eq]
      exact ⟨w.1, ih (c.1 + 1) (by omega) w.2⟩

/-- Setting a byte keeps the canonical form. -/
theorem wf_put (m : Memory) (a : Nat) (v : Byte) (ha : a < 4294967296) (w : m.wf = true) : (m.put a v).wf = true :=
  wfFrom_put m 0 a v (Nat.zero_le a) ha w

/-- A little-endian write keeps the canonical form. -/
theorem wf_writeLE (m : Memory) (a n v : Nat) (w : m.wf = true) : (writeLE m a n v).wf = true := by
  induction n generalizing m a v with
  | zero => exact w
  | succ n ih => exact ih _ _ _ (wf_put _ _ _ (Nat.mod_lt _ (by decide)) w)

/-- The byte just set reads back. -/
theorem memByte_put_same (m : Memory) (a : Nat) (v : Byte) : memByte (m.put (a % 4294967296) v) a = v := by
  simp [memByte, find_put_same]

/-- Setting one byte leaves what the others read as. -/
theorem memByte_put_other (m : Memory) (a b : Nat) (v : Byte) (h : b % 4294967296 ≠ a % 4294967296) :
    memByte (m.put (a % 4294967296) v) b = memByte m b := by
  simp [memByte, find_put_other _ _ _ _ h]

/-- Which addresses an `n`-byte access at `a` covers. -/
theorem mem_byteAddrs (a n b : Nat) : b ∈ byteAddrs a n ↔ ∃ i, i < n ∧ b = (a + i) % 4294967296 := by
  simp [byteAddrs, eq_comm]

/-- A little-endian write leaves every byte outside its own. -/
theorem memByte_writeLE_other (m : Memory) (a n v b : Nat) (h : b % 4294967296 ∉ byteAddrs a n) :
    memByte (writeLE m a n v) b = memByte m b := by
  induction n generalizing m a v with
  | zero => rfl
  | succ n ih =>
    rw [mem_byteAddrs] at h
    rw [writeLE, ih, memByte_put_other]
    · intro e; exact h ⟨0, by omega, by simpa using e⟩
    · rw [mem_byteAddrs]; rintro ⟨i, hi, e⟩
      exact h ⟨i + 1, by omega, by rw [e]; congr 1; omega⟩

/-- Byte `k` of a little-endian write that does not wrap. -/
theorem memByte_writeLE_same (m : Memory) (a n v k : Nat) (h : a + n ≤ 4294967296) (hk : k < n) :
    memByte (writeLE m a n v) (a + k) = BitVec.ofNat 8 (v / 256 ^ k) := by
  induction n generalizing m a v k with
  | zero => omega
  | succ n ih =>
    cases k with
    | zero =>
      rw [writeLE, memByte_writeLE_other]
      · simp [memByte_put_same]
      · rw [mem_byteAddrs]; rintro ⟨i, hi, e⟩; omega
    | succ k =>
      rw [writeLE, show a + (k + 1) = a + 1 + k by omega, ih _ _ _ _ (by omega) (by omega), Nat.div_div_eq_div_mul,
        pow_succ, Nat.mul_comm]

/-- Byte `k` of the number read little-endian. -/
theorem readLE_byte (m : Memory) (a n k : Nat) (hk : k < n) : readLE m a n / 256 ^ k % 256 = (memByte m (a + k)).toNat := by
  induction n generalizing a k with
  | zero => omega
  | succ n ih =>
    have hb := (memByte m a).isLt
    cases k with
    | zero => simp only [readLE, pow_zero, Nat.div_one, Nat.add_zero]; omega
    | succ k =>
      rw [readLE, pow_succ', ← Nat.div_div_eq_div_mul,
        show ((memByte m a).toNat + 256 * readLE m (a + 1) n) / 256 = readLE m (a + 1) n by omega, ih _ _ (by omega),
        show a + 1 + k = a + (k + 1) by omega]

/-- A number read from `n` bytes is below `256 ^ n`. -/
theorem readLE_lt (m : Memory) (a n : Nat) : readLE m a n < 256 ^ n := by
  induction n generalizing a with
  | zero => simp [readLE]
  | succ n ih =>
    have hb := (memByte m a).isLt
    have := ih (a + 1)
    rw [readLE, pow_succ]; omega

/-- What is in the list of stored addresses after one is added. -/
theorem mem_insertAddr (a b : Nat) (l : List Nat) : b ∈ insertAddr a l ↔ b = a ∨ b ∈ l := by
  induction l with
  | nil => simp [insertAddr]
  | cons c l ih => simp only [insertAddr]; split_ifs <;> simp_all; tauto

/-- What is in the list of stored addresses after several are added. -/
theorem mem_insertAddrs (l l' : List Nat) (b : Nat) :
    b ∈ l'.foldl (fun l x => insertAddr x l) l ↔ b ∈ l ∨ b ∈ l' := by
  induction l' generalizing l with
  | nil => simp
  | cons c l' ih => rw [List.foldl_cons, ih, mem_insertAddr, List.mem_cons]; tauto

/-- What a store adds to the list of stored addresses. -/
theorem mem_stored_storeBytes (a : Word) (n : Nat) (v : DWord) (s : State) (b : Nat) :
    b ∈ (storeBytes a n v s).cur.stored ↔ b ∈ s.cur.stored ∨ b ∈ byteAddrs a.toNat n := mem_insertAddrs _ _ _

/-! ### Free values and signals -/

/-- The FAULT state after `raise`: the first cause is kept (R502). -/
theorem raise_cur_fault (c : Cause) (s : State) : (raise c s).cur.fault = some (s.cur.fault.getD c) := by
  unfold raise; split <;> simp_all

/-- A check that holds changes nothing; one that fails raises. -/
theorem raiseIf_eq (b : Bool) (c : Cause) (s : State) : raiseIf b c s = if b then raise c s else s := rfl

/-- `raise` changes nothing but the fault and the reports. -/
theorem raise_cur (c : Cause) (s : State) : (raise c s).cur = { s.cur with fault := some (s.cur.fault.getD c) } := by
  unfold raise; split <;> rename_i h <;> simp [h]; rw [← h]

/-! ### Checked accesses -/

/-- A read that is in order gives the bytes of before the packet and changes nothing. -/
theorem memRead_of_readOk (a : Word) (n : Nat) (s : State) (h : readOk a n s) :
    memRead a n s = .next (BitVec.ofNat 64 (readLE s.pre.mem a.toNat n), s) := by
  obtain ⟨h1, h2, k, h3, h4⟩ := h
  unfold memRead
  rw [if_neg (by simp [isAligned, h1]), if_neg (by simp [h2]), h3]
  cases k <;> simp_all

/-- A write that is in order stores its bytes and changes nothing else. -/
theorem memWrite_of_writeOk (a : Word) (n : Nat) (v : DWord) (s : State) (h : writeOk a n s) :
    memWrite a n v s = .next (storeBytes a n v s) := by
  obtain ⟨h1, h2, h3⟩ := h
  unfold memWrite
  rw [if_neg (by simp [isAligned, h1]), if_neg (by simp [h2])]
  rcases h3 with h3 | h3 | h3 <;> rw [h3]

/-- The parts of the machine that no access to memory touches. -/
def sameRest (s t : State) : Prop := t.pre = s.pre ∧ t.pkt = s.pkt ∧ t.cfg = s.cfg ∧ t.dbg = s.dbg ∧ t.inputs = s.inputs

/-- An access may store, mark addresses as stored and raise a fault, keeping an earlier one; nothing else of the CPU changes. -/
def memoryOnly (s t : State) : Prop :=
  (∃ m l f, t.cur = { s.cur with mem := m, stored := l, fault := f }) ∧ (s.cur.fault ≠ none → t.cur.fault = s.cur.fault) ∧ sameRest s t

/-- What two accesses leave alone. -/
theorem memoryOnly_trans (s t u : State) (h : memoryOnly s t) (k : memoryOnly t u) : memoryOnly s u := by
  obtain ⟨⟨m, l, f, e⟩, h1, h2, h3, h4, h5, h6⟩ := h
  obtain ⟨⟨m', l', f', e'⟩, k1, k2, k3, k4, k5, k6⟩ := k
  refine ⟨⟨m', l', f', by rw [e', e]⟩, fun n => ?_, ?_⟩
  · rw [k1 (by rw [h1 n]; exact n), h1 n]
  · simp only [sameRest, *, and_self]

/-- Everything a read can do to the machine: spend a free value, raise a fault, report. -/
theorem memRead_next (a : Word) (n : Nat) (s : State) (v : DWord) (t : State) (h : memRead a n s = .next (v, t)) :
    t.cur = { s.cur with fault := t.cur.fault } ∧ (s.cur.fault ≠ none → t.cur.fault = s.cur.fault)
      ∧ t.pre = s.pre ∧ t.pkt = s.pkt ∧ t.cfg = s.cfg ∧ t.dbg = s.dbg ∧ t.inputs = s.inputs := by
  unfold memRead at h
  repeat' split at h
  all_goals cases h
  all_goals (cases hc : s.cur.fault <;> simp_all [raise_cur])
  all_goals rw [← hc]

/-- Everything a write can do to the machine: store its bytes, mark their addresses only, raise a fault; spend a free value, report. -/
theorem memWrite_next (a : Word) (n : Nat) (v : DWord) (s t : State) (h : memWrite a n v s = .next t) :
    (t.cur = { s.cur with fault := t.cur.fault } ∨ t.cur = (markStored a n s).cur ∨ t.cur = (storeBytes a n v s).cur)
      ∧ (s.cur.fault ≠ none → t.cur.fault = s.cur.fault) ∧ sameRest s t := by
  unfold memWrite at h
  repeat' split at h
  all_goals cases h
  all_goals (unfold sameRest; cases hc : s.cur.fault <;> simp_all [raise_cur, storeFree, markStored])
  all_goals first
    | (left; rw [← hc])
    | (split <;> simp_all)

/-- A write touches memory, the marks and the fault indicator only. -/
theorem memWrite_memoryOnly (a : Word) (n : Nat) (v : DWord) (s t : State) (h : memWrite a n v s = .next t) : memoryOnly s t := by
  obtain ⟨h1, h2, h3⟩ := memWrite_next a n v s t h
  refine ⟨?_, h2, h3⟩
  rcases h1 with e | e | e
  · exact ⟨_, _, _, e⟩
  · exact ⟨_, _, _, e⟩
  · exact ⟨_, _, _, e⟩

/-- A write keeps the canonical form of memory. -/
theorem wf_memWrite (a : Word) (n : Nat) (v : DWord) (s t : State) (w : s.cur.mem.wf = true) (h : memWrite a n v s = .next t) :
    t.cur.mem.wf = true := by
  rcases (memWrite_next a n v s t h).1 with e | e | e <;> rw [e]
  · exact w
  · exact w
  · exact wf_writeLE _ _ _ _ w

/-- A write leaves every byte outside its own. -/
theorem memByte_memWrite_other (a : Word) (n : Nat) (v : DWord) (s t : State) (b : Nat) (hb : b % 4294967296 ∉ byteAddrs a.toNat n)
    (h : memWrite a n v s = .next t) : memByte t.cur.mem b = memByte s.cur.mem b := by
  rcases (memWrite_next a n v s t h).1 with e | e | e <;> rw [e]
  · rfl
  · exact memByte_writeLE_other _ _ _ _ _ hb

/-- A read keeps memory. -/
theorem mem_memRead (a : Word) (n : Nat) (s : State) (v : DWord) (t : State) (h : memRead a n s = .next (v, t)) :
    t.cur.mem = s.cur.mem := by rw [(memRead_next a n s v t h).1]

/-- The free bytes of a stack frame touch memory, the marks and the fault indicator only. -/
theorem scribble_memoryOnly (a : Word) (n : Nat) (s t : State) (h : scribble a n s = .next t) : memoryOnly s t := by
  induction n generalizing a s with
  | zero => cases h; exact ⟨⟨_, _, _, rfl⟩, fun _ => rfl, rfl, rfl, rfl, rfl, rfl⟩
  | succ n ih =>
    simp only [scribble] at h
    split at h
    · cases h
      refine ⟨⟨s.cur.mem, s.cur.stored, _, raise_cur _ _⟩, fun k => ?_, by simp, by simp, by simp, by simp, by simp⟩
      cases hc : s.cur.fault <;> simp_all [raise_cur_fault]
    · split at h
      · split at h
        · cases h; exact ⟨⟨_, _, _, rfl⟩, fun _ => rfl, rfl, rfl, rfl, rfl, rfl⟩
        · cases h
      · refine memoryOnly_trans _ _ _ ?_ (ih _ _ h)
        exact ⟨⟨_, _, _, rfl⟩, fun _ => rfl, rfl, rfl, rfl, rfl, rfl⟩
      · refine memoryOnly_trans _ _ _ ?_ (ih _ _ h)
        exact ⟨⟨_, _, _, rfl⟩, fun _ => rfl, rfl, rfl, rfl, rfl, rfl⟩

/-- The free bytes of a stack frame keep the canonical form. -/
theorem wf_scribble (a : Word) (n : Nat) (s t : State) (w : s.cur.mem.wf = true) (h : scribble a n s = .next t) :
    t.cur.mem.wf = true := by
  induction n generalizing a s with
  | zero => cases h; exact w
  | succ n ih =>
    simp only [scribble] at h
    split at h
    · cases h; simpa using w
    · split at h
      · split at h <;> cases h; exact w
      · exact ih (a + 1) _ (by simpa using w) h
      · exact ih (a + 1) _ (by simpa using wf_writeLE _ _ _ _ w) h

/-- The addresses above the first of a run. -/
theorem not_mem_byteAddrs_succ (a : Word) (n b : Nat) (h : b ∉ byteAddrs a.toNat (n + 1)) :
    b ∉ byteAddrs (a + 1).toNat n ∧ b ∉ byteAddrs a.toNat 1 := by
  simp only [mem_byteAddrs] at *
  constructor
  · rintro ⟨i, hi, e⟩
    exact h ⟨i + 1, by omega, by rw [e, BitVec.toNat_add]; simp; omega⟩
  · rintro ⟨i, hi, e⟩
    exact h ⟨i, by omega, e⟩

/-- The free bytes of a stack frame leave every byte outside it. -/
theorem memByte_scribble_other (a : Word) (n : Nat) (s t : State) (b : Nat) (hb : b % 4294967296 ∉ byteAddrs a.toNat n)
    (h : scribble a n s = .next t) : memByte t.cur.mem b = memByte s.cur.mem b := by
  induction n generalizing a s with
  | zero => cases h; rfl
  | succ n ih =>
    obtain ⟨h1, h2⟩ := not_mem_byteAddrs_succ _ _ _ hb
    simp only [scribble] at h
    split at h
    · cases h; simp
    · split at h
      · split at h <;> cases h; rfl
      · simpa using ih (a + 1) _ h1 h
      · rw [ih (a + 1) _ h1 h]
        simpa using memByte_writeLE_other _ _ _ _ _ h2

/-- Where each byte may be written the free bytes of a stack frame raise nothing. -/
theorem scribble_of_ok (a : Word) (n : Nat) (s : State)
    (h : ∀ k < n, apAllows s.cfg true s.pre.ists.currlink s.pre.dsts.clink (a + BitVec.ofNat 32 k) = true
      ∧ writable s.cfg (a + BitVec.ofNat 32 k)) :
    ∃ t, scribble a n s = .next t ∧ t.cur.fault = s.cur.fault := by
  induction n generalizing a s with
  | zero => exact ⟨s, rfl, rfl⟩
  | succ n ih =>
    have h0 := h 0 (by omega)
    simp only [BitVec.add_zero] at h0
    have hr : ∀ k < n, apAllows s.cfg true s.pre.ists.currlink s.pre.dsts.clink (a + 1 + BitVec.ofNat 32 k) = true
        ∧ writable s.cfg (a + 1 + BitVec.ofNat 32 k) := by
      intro k hk
      have e : a + 1 + BitVec.ofNat 32 k = a + BitVec.ofNat 32 (k + 1) := by
        apply BitVec.eq_of_toNat_eq; simp [BitVec.toNat_add]; omega
      rw [e]; exact h (k + 1) (by omega)
    simp only [scribble]
    rw [if_neg (by simp [h0.1])]
    rcases h0.2 with e | e | e <;> simp only [e] <;>
      (obtain ⟨t, ht, hf⟩ := ih (a + 1) (spend 1 (storeBytes a 1 (drawData s) s)) hr; exact ⟨t, ht, by simpa using hf⟩)

/-- Everything the push of a frame can do: write it, mark it, or raise a fault; no byte outside it changes. -/
theorem pushFrame_next (sp : Word) (n : Nat) (v : Word) (s t : State) (hn : 4 ≤ n) (h : pushFrame sp n v s = .next t) :
    memoryOnly s t ∧ (s.cur.mem.wf = true → t.cur.mem.wf = true)
      ∧ ∀ b, b % 4294967296 ∉ byteAddrs sp.toNat n → memByte t.cur.mem b = memByte s.cur.mem b := by
  obtain ⟨u, hu, ht⟩ := andThen_eq_next h
  have hb : ∀ b, b % 4294967296 ∉ byteAddrs sp.toNat n →
      b % 4294967296 ∉ byteAddrs sp.toNat 4 ∧ b % 4294967296 ∉ byteAddrs (sp + 4).toNat (n - 4) := by
    intro b hb
    simp only [mem_byteAddrs] at *
    exact ⟨fun ⟨i, hi, e⟩ => hb ⟨i, by omega, e⟩,
      fun ⟨i, hi, e⟩ => hb ⟨i + 4, by omega, by rw [e, BitVec.toNat_add]; simp; omega⟩⟩
  split at ht
  · exact ⟨memoryOnly_trans _ _ _ (memWrite_memoryOnly _ _ _ _ _ hu) (scribble_memoryOnly _ _ _ _ ht),
      fun w => wf_scribble _ _ _ _ (wf_memWrite _ _ _ _ _ w hu) ht,
      fun b k => (memByte_scribble_other _ _ _ _ _ (hb b k).2 ht).trans (memByte_memWrite_other _ _ _ _ _ _ (hb b k).1 hu)⟩
  · cases ht
    exact ⟨memWrite_memoryOnly _ _ _ _ _ hu, fun w => wf_memWrite _ _ _ _ _ w hu,
      fun b k => memByte_memWrite_other _ _ _ _ _ _ (hb b k).1 hu⟩

/-- An 8-byte aligned frame lies in one page, so in one range of each kind (R162). -/
theorem pageOf_frame (a : Word) (k : Nat) (ha : a.toNat % 8 = 0) (hk : k < 8) : pageOf (a + BitVec.ofNat 32 k) = pageOf a := by
  have := a.isLt
  simp only [pageOf, BitVec.toNat_add, BitVec.toNat_ofNat]; omega

/-- The SSU and the memory map answer alike inside one page. -/
theorem ranges_of_page (c : Params) (l k : LinkId) (w : Bool) (a b : Word) (h : pageOf a = pageOf b) :
    apAllows c w l k a = apAllows c w l k b ∧ regionOf c a = regionOf c b ∧ linkOf c a = linkOf c b := by
  simp [apAllows, regionOf, linkOf, h]

/-- The number a concatenation stands for. -/
theorem toNat_concat {m n : Nat} (x : BitVec m) (y : BitVec n) : (x ++ y).toNat = x.toNat * 2 ^ n + y.toNat := by
  rw [BitVec.toNat_append, ← Nat.shiftLeft_add_eq_or_of_lt y.isLt, Nat.shiftLeft_eq]

/-- A little-endian word that is in order reads back. -/
theorem newWord_writeLE (m : Memory) (a v : Word) (t : State) (ha : a.toNat % 4 = 0)
    (h : ∀ k < 4, memByte t.cur.mem (a.toNat + k) = memByte (writeLE m a.toNat 4 v.toNat) (a.toNat + k)) : newWord t a = v := by
  have := a.isLt
  have hk : ∀ k < 4, newByte t a k = BitVec.ofNat 8 (v.toNat / 256 ^ k) := fun k hk => by
    rw [newByte, h k hk, memByte_writeLE_same _ _ _ _ _ (by omega) hk]
  simp only [newWord, hk 0 (by decide), hk 1 (by decide), hk 2 (by decide), hk 3 (by decide)]
  have := v.isLt
  apply BitVec.eq_of_toNat_eq
  simp only [toNat_concat, BitVec.toNat_ofNat]
  omega

/-- A call frame that is in order: RPC lies at its base and nothing outside its eight bytes changes (R232). -/
theorem pushFrame_of_ok (sp v : Word) (s : State) (ha : sp.toNat % 8 = 0) (h : writeOk sp 4 s) :
    ∃ t, pushFrame sp 8 v s = .next t ∧ newWord t sp = v ∧ keepsMemoryBut sp 8 s t ∧ memoryOnly s t ∧ t.cur.fault = s.cur.fault := by
  have hw := memWrite_of_writeOk sp 4 (v.setWidth 64) s h
  obtain ⟨t, ht, hf⟩ := scribble_of_ok (sp + 4) 4 (storeBytes sp 4 (v.setWidth 64) s) (by
    intro k hk
    have e : sp + 4 + BitVec.ofNat 32 k = sp + BitVec.ofNat 32 (k + 4) := by
      apply BitVec.eq_of_toNat_eq; simp [BitVec.toNat_add]; omega
    have p := pageOf_frame sp (k + 4) ha (by omega)
    have r := ranges_of_page s.cfg s.pre.ists.currlink s.pre.dsts.clink true _ _ p
    rw [e]
    refine ⟨r.1.trans h.2.1, ?_⟩
    have := h.2.2
    simp only [writable, storeBytes_cfg, r.2.1] at *
    exact this)
  have hp : pushFrame sp 8 v s = .next t := by
    simp only [pushFrame, hw, andThen_next]
    rw [if_pos (by simp [isAligned, h.1, h.2.1])]
    exact ht
  obtain ⟨hm, -, hb⟩ := pushFrame_next sp 8 v s t (by decide) hp
  refine ⟨t, hp, ?_, hb, hm, by simpa using hf⟩
  have := sp.isLt
  refine newWord_writeLE s.cur.mem sp v t h.1 fun k hk => ?_
  rw [memByte_scribble_other _ _ _ _ _ ?_ ht]
  · rw [storeBytes_cur_mem]; simp [BitVec.toNat_setWidth, Nat.mod_eq_of_lt (show v.toNat < 18446744073709551616 by have := v.isLt; omega)]
  · rw [mem_byteAddrs]; rintro ⟨i, hi, e⟩
    rw [BitVec.toNat_add] at e; simp at e; omega

/-! ### Control transfer -/

/-- Everything a transfer can do: go there at once, later, or (in the FAULT state) nowhere. -/
theorem jumpTo_next (delay : Fin 8) (late : Late) (target : Word) (s t : State) (h : jumpTo delay late target s = .next t) :
    (target.toNat % 2 = 1 ∧ t = s ∧ s.cur.fault ≠ none)
      ∨ (target.toNat % 2 = 0 ∧ delay = 0 ∧ t = { s with cur := { s.cur with pc := target }, pkt := { s.pkt with jumped := true } })
      ∨ (target.toNat % 2 = 0 ∧ delay ≠ 0 ∧ t = { s with cur := { s.cur with pending := some ⟨target, delay.val, late⟩ } }) := by
  unfold jumpTo stopUnlessFaulted at h
  split_ifs at h with h1 h2
  · left; split at h <;> simp_all
  · right; left; simp_all
  · right; right; simp_all

/-- A check that holds leaves the machine. -/
theorem checkSp_of_aligned (s : State) (h : s.pre.a[15].toNat % 8 = 0) : checkSp s = s := by
  simp [checkSp, raiseIf, isAligned, readSp, readA, h]

/-- A transfer inside one STACK passes its check. -/
theorem checkTransfer_of_ok (target : Word) (s : State)
    (h : ∀ l, linkOf s.cfg target = some l → stackOf s.cfg l = stackOf s.cfg s.pre.ists.currlink) : checkTransfer target s = s := by
  unfold checkTransfer; split
  · rfl
  · rename_i l e; simp [raiseIf, h l e]

/-- The STACK of code that an EXE range covers. -/
theorem stackAt_of_link (c : Params) (a : Word) (old : StackId) (l : LinkId) (h : linkOf c a = some l) : stackAt c a old = stackOf c l := by
  simp [stackAt, h]

/-- Code that no EXE range covers leaves the STACK as it was. -/
theorem stackAt_of_none (c : Params) (a : Word) (old : StackId) (h : linkOf c a = none) : stackAt c a old = old := by
  simp [stackAt, h]

/-- Everything the end of a delayed discontinuity can write besides the program counter: nothing, RPC or CURRSP. -/
theorem writeLate_cases (late : Late) (s : State) :
    (late = .nothing ∧ writeLate late s = s)
      ∨ (late = .rpc ∧ writeLate late s = { s with cur := { s.cur with rpc := s.pkt.seqPc } })
      ∨ ∃ k, late = .currsp k ∧ writeLate late s = { s with cur := { s.cur with ists := { s.cur.ists with currsp := k } } } := by
  cases late with
  | nothing => exact .inl ⟨rfl, rfl⟩
  | rpc => exact .inr (.inl ⟨rfl, rfl⟩)
  | currsp k => exact .inr (.inr ⟨k, rfl, rfl⟩)

/-- The last delay slot goes to its target; any other counts down. -/
theorem countDelay_cases (s : State) :
    (s.pre.pending = none ∧ countDelay s = s)
      ∨ (∃ p, s.pre.pending = some p ∧ p.remaining ≤ 1 ∧ countDelay s
          = writeLate p.late { s with cur := { s.cur with pc := p.target, pending := none }, pkt := { s.pkt with jumped := true } })
      ∨ ∃ p, s.pre.pending = some p ∧ 1 < p.remaining
          ∧ countDelay s = { s with cur := { s.cur with pending := some { p with remaining := p.remaining - 1 } } } := by
  unfold countDelay
  cases hp : s.pre.pending with
  | none => exact .inl ⟨rfl, rfl⟩
  | some p =>
    refine .inr ?_
    by_cases h : p.remaining ≤ 1
    · exact .inl ⟨p, rfl, h, by simp [h]⟩
    · exact .inr ⟨p, rfl, by omega, by simp [h]⟩

/-- An instruction writes what its profile names, where it goes and does not spare it. -/
theorem mem_destsOf (x : Dst) (i : Instr) (s : State) :
    x ∈ destsOf i s ↔ goes i s = true ∧ x ∈ (profile i).dests ∧ spares i s x = false := by
  unfold destsOf
  cases h : goes i s <;> simp

/-- A stack swap loads the pointer of another STACK and saves the one left; within one STACK it writes A15 only after a push. -/
theorem swapStacks_cases (src dst : StackId) (pushed : Option Word) (s : State) :
    (dst = src ∧ pushed = none ∧ swapStacks src dst pushed s = s)
      ∨ (∃ sp, dst = src ∧ pushed = some sp ∧ swapStacks src dst pushed s = writeSp sp s)
      ∨ (dst ≠ src ∧ swapStacks src dst pushed s
          = writeSp s.pre.secsp[dst] { s with cur := { s.cur with secsp := s.cur.secsp.set src (pushed.getD (readSp s)) } }) := by
  unfold swapStacks
  by_cases h : dst = src
  · cases pushed <;> simp [h]
  · simp [h]

/-- A packet that does not write ESTS as a whole, or before which EMUSTOP0 halted, leaves the sticky flags as its instructions did. -/
theorem stickyLate_of_no_write (is : List Instr) (s : State)
    (h : (∀ i ∈ is, Dst.ests ∉ (profile i).dests) ∨ s.pkt.halted = true) : stickyLate is s = s := by
  unfold stickyLate
  rcases h with h | h
  · rw [if_neg]; simpa using fun i hi hd => (h i hi hd).elim
  · simp [h]

/-- The end of a packet may change the sticky flags and the draw counter, and nothing else: D.OV and D.OVNEG beside a sum that does not
fit, M.LUF and M.LVF beside a floating-point operation. -/
theorem stickyLate_cases (is : List Instr) (s : State) :
    ∃ ov ovneg luf lvf n, stickyLate is s = { s with
        free := n
        cur := { s.cur with ests := { s.cur.ests with ov := ov, ovneg := ovneg, luf := luf, lvf := lvf } } }
      ∧ ((∀ i ∈ is, overflows i s = false) → ov = s.cur.ests.ov ∧ ovneg = s.cur.ests.ovneg)
      ∧ ((∀ i ∈ is, Dst.fpFlags ∉ (profile i).dests) → luf = s.cur.ests.luf ∧ lvf = s.cur.ests.lvf) := by
  have hf : (is.any fun i => (profile i).dests.contains .fpFlags) = true → ¬ ∀ i ∈ is, Dst.fpFlags ∉ (profile i).dests := by
    intro h; simpa using h
  unfold stickyLate
  split
  · by_cases ho : (is.any fun i => overflows i s) = true
    · have ho' : ¬ ∀ i ∈ is, overflows i s = false := by simpa using ho
      by_cases hp : (is.any fun i => (profile i).dests.contains .fpFlags) = true
      · exact ⟨_, _, _, _, _, by simp only [if_pos ho, if_pos hp]; rfl, fun h => (ho' h).elim, fun h => (hf hp h).elim⟩
      · exact ⟨_, _, s.cur.ests.luf, s.cur.ests.lvf, _, by simp only [if_pos ho, if_neg hp]; rfl, fun h => (ho' h).elim, fun _ => ⟨rfl, rfl⟩⟩
    · by_cases hp : (is.any fun i => (profile i).dests.contains .fpFlags) = true
      · exact ⟨s.cur.ests.ov, s.cur.ests.ovneg, _, _, _, by simp only [if_neg ho, if_pos hp]; rfl, fun _ => ⟨rfl, rfl⟩, fun h => (hf hp h).elim⟩
      · exact ⟨s.cur.ests.ov, s.cur.ests.ovneg, s.cur.ests.luf, s.cur.ests.lvf, s.free, by simp only [if_neg ho, if_neg hp], fun _ => ⟨rfl, rfl⟩, fun _ => ⟨rfl, rfl⟩⟩
  · exact ⟨s.cur.ests.ov, s.cur.ests.ovneg, s.cur.ests.luf, s.cur.ests.lvf, s.free, rfl, fun _ => ⟨rfl, rfl⟩, fun _ => ⟨rfl, rfl⟩⟩

/-- What the words at an address form depends on memory, on the bytes stored so far and on the configuration only. -/
theorem fetchable_congr (a n : Nat) (s t : State) (hs : t.cur.stored = s.cur.stored) (hc : t.cfg = s.cfg) :
    fetchable a n t = fetchable a n s := by
  induction n generalizing a with
  | zero => rfl
  | succ n ih => simp only [fetchable, hs, hc, ih]

/-- The same of the whole packet. -/
theorem formPacket_congr (fuel a bits : Nat) (s t : State) (hm : t.cur.mem = s.cur.mem) (hs : t.cur.stored = s.cur.stored)
    (hc : t.cfg = s.cfg) : formPacket fuel a bits t = formPacket fuel a bits s := by
  induction fuel generalizing a bits with
  | zero => rfl
  | succ n ih => simp only [formPacket, hm, hc, fetchable_congr _ _ _ _ hs hc, ih]

/-- What `commit` leaves between packets (R13). -/
theorem commit_settled (s : State) : (commit s).pre = (commit s).cur ∧ (commit s).pkt = PacketCtx.empty ∧ (commit s).cfg = s.cfg
    ∧ (commit s).dbg = s.dbg ∧ (commit s).cur.fault = s.cur.fault := by
  unfold commit; split <;> simp [blur, *]

/-- Outside the FAULT state a packet lands whole. -/
theorem commit_of_no_fault (s : State) (h : s.cur.fault = none) : commit s = { s with pre := s.cur, pkt := PacketCtx.empty } := by
  simp [commit, h]

/-- The parts of the state that a faulting packet may or may not have changed hold one of the two values. -/
theorem pick_cases {α : Type} (k : Nat) (x y : α) : pick k x y = x ∨ pick k x y = y := by
  unfold pick; split <;> simp

/-- The memory a faulting packet leaves is that of before or after it. -/
theorem blur_mem (k : Nat) (p c : Arch) : (blur k p c).mem = p.mem ∨ (blur k p c).mem = c.mem := pick_cases _ _ _

/-- A halt request changes nothing but whether one is held, and nothing at all in the debug-halt state. -/
theorem requestHalt_cases (s : State) :
    requestHalt s = s ∨ (s.dbg.mode ≠ .halt ∧ requestHalt s = { s with dbg := { s.dbg with haltPending := true } }) := by
  unfold requestHalt
  split
  · rename_i h
    simp only [Bool.and_eq_true, bne_iff_ne] at h
    exact .inr ⟨h.2, rfl⟩
  · exact .inl rfl

/-- The sticky flags of the floating-point unit: a set one stays, nothing else of the architectural state changes. -/
theorem setStickyFp_cur (s : State) :
    ∃ u v : Bool, (setStickyFp s).cur
        = { s.cur with ests := { s.cur.ests with luf := s.cur.ests.luf || u, lvf := s.cur.ests.lvf || v } } :=
  ⟨_, _, rfl⟩

/-- A packet that has faulted ends in a next state with that fault; any other ends as told. -/
theorem unlessFaulted_cases (s : State) (o : Res State) :
    (s.cur.fault = none ∧ unlessFaulted s o = o) ∨ (s.cur.fault ≠ none ∧ unlessFaulted s o = .next (commit s)) := by
  unfold unlessFaulted
  split <;> simp_all

/-- A packet in flight at a reset is one that the CPU would have executed to its end. -/
theorem inFlight_eq_some {s t : State} :
    inFlight s = some t ↔ s.cur.fault = none ∧ s.cur.idle = false ∧ runPacket false s = .next t := by
  unfold inFlight
  cases s.cur.fault <;> cases s.cur.idle <;> cases runPacket false s <;> simp

/-- Memory at a reset is that of before, or that of the packet in flight; then every value drawn later is one the packet has not drawn. -/
theorem takeReset_cases (s : State) :
    (takeReset s).cur = { Arch.reset s.cfg with mem := s.cur.mem }
      ∨ ∃ t, inFlight s = some t ∧ (takeReset s).cur = { Arch.reset s.cfg with mem := t.cur.mem } ∧ t.free < (takeReset s).free := by
  cases h : inFlight s with
  | none => exact .inl (by simp [takeReset, memAtReset, h])
  | some t =>
    cases hb : drawBit 0 t with
    | false => exact .inl (by simp [takeReset, memAtReset, h, hb])
    | true => exact .inr ⟨t, rfl, by simp [takeReset, memAtReset, h, hb], by simp [takeReset, freeAtReset, h]⟩

/-- A debug access is performed, or changes nothing but the draw counter, or is not possible: no debugger, or a register of a CPU
that runs. -/
theorem dbgAccess_cases (a : Option Word) (f : State → State) (s : State) :
    dbgAccess a f s = s ∨ dbgAccess a f s = spend 1 s
      ∨ (s.dbg.connected = true ∧ (a = none → s.dbg.mode = .halt) ∧ debugAllowed a s = true ∧ dbgAccess a f s = spend 1 (f s)) := by
  unfold dbgAccess
  split
  · rename_i h
    simp only [Bool.and_eq_true, Bool.or_eq_true, beq_iff_eq] at h
    split
    · exact .inr (.inr ⟨h.1, fun e => by simpa [e] using h.2, ‹_›, rfl⟩)
    · exact .inr (.inl rfl)
  · exact .inl rfl

end Sys2Proof.Laws
end

