-- ==== Sys2Proof/Laws/Exec.lean ====
section
/-! SUPPORT. What no instruction of a packet touches: the state before the packet, the configuration, the inputs still to come, and where
the packet ends. One lemma for each shared operation, one for all of `exec`, one for the whole packet. -/

namespace Sys2Proof.Laws

open Sys2Proof.Machine

/-- The state before the packet, the configuration, the inputs and the end of the packet are as they were. -/
def keepsContext (s t : State) : Prop :=
  t.pre = s.pre ∧ t.cfg = s.cfg ∧ t.inputs = s.inputs ∧ t.pkt.seqPc = s.pkt.seqPc ∧ t.pkt.wraps = s.pkt.wraps

theorem keepsContext_refl (s : State) : keepsContext s s := ⟨rfl, rfl, rfl, rfl, rfl⟩

theorem keepsContext_trans {s t u : State} (h : keepsContext s t) (k : keepsContext t u) : keepsContext s u := by
  simp only [keepsContext] at *; simp [h, k]

/-- What leaves the packet's marks alone keeps its end. -/
theorem keepsContext_of_sameRest {s t : State} (h : sameRest s t) : keepsContext s t := by
  obtain ⟨h1, h2, h3, -, h5⟩ := h
  exact ⟨h1, h3, h5, by rw [h2], by rw [h2]⟩

/-- Building on the current state alone keeps the rest. -/
theorem keepsContext_writeCur (s : State) (c : Arch) : keepsContext s { s with cur := c } := keepsContext_refl _

/-! ### Operations that always answer -/

theorem raise_keepsContext (c : Cause) (s : State) : keepsContext s (raise c s) := by unfold raise; split <;> exact ⟨rfl, rfl, rfl, rfl, rfl⟩

theorem raiseIf_keepsContext (b : Bool) (c : Cause) (s : State) : keepsContext s (raiseIf b c s) := by
  unfold raiseIf; split
  · exact raise_keepsContext _ _
  · exact ⟨rfl, rfl, rfl, rfl, rfl⟩

theorem checkSp_keepsContext (s : State) : keepsContext s (checkSp s) := raiseIf_keepsContext _ _ _

theorem checkTransfer_keepsContext (target : Word) (s : State) : keepsContext s (checkTransfer target s) := by
  unfold checkTransfer; split
  · exact ⟨rfl, rfl, rfl, rfl, rfl⟩
  · exact raiseIf_keepsContext _ _ _

theorem writeReg_keepsContext (r : Reg) (v : Word) (s : State) : keepsContext s (writeReg r v s) := by
  cases r <;> exact ⟨rfl, rfl, rfl, rfl, rfl⟩

theorem writeRpc_keepsContext (v : Word) (s : State) : keepsContext s (writeRpc v s) := ⟨rfl, rfl, rfl, rfl, rfl⟩

theorem scrambleWork_keepsContext (s : State) : keepsContext s (scrambleWork s) := ⟨rfl, rfl, rfl, rfl, rfl⟩

theorem writeX_keepsContext (x : XReg) (v : DWord) (s : State) : keepsContext s (writeX x v s) :=
  keepsContext_trans (writeReg_keepsContext _ _ _) (writeReg_keepsContext _ _ _)

theorem applySide_keepsContext (e : EffAddr) (s : State) : keepsContext s (applySide e s) := by
  unfold applySide; split <;> exact ⟨rfl, rfl, rfl, rfl, rfl⟩

theorem writeStatus_keepsContext (q : StatusReg) (v : Word) (s : State) : keepsContext s (writeStatus q v s) := by
  cases q <;> exact ⟨rfl, rfl, rfl, rfl, rfl⟩

theorem writeSum_keepsContext (b : IBank) (z : Fin 16) (v : Word) (o neg : Bool) (s : State) :
    keepsContext s (writeSum b z v o neg s) := by
  unfold writeSum; repeat' split
  all_goals exact ⟨rfl, rfl, rfl, rfl, rfl⟩

theorem writeTestDst_keepsContext (d : TestDst) (b : Bool) (s : State) : keepsContext s (spend 1 (writeTestDst d b s)) := by
  rcases d with f | _ | _ | _
  · cases f <;> exact ⟨rfl, rfl, rfl, rfl, rfl⟩
  all_goals exact ⟨rfl, rfl, rfl, rfl, rfl⟩

theorem swapStacks_keepsContext (src dst : StackId) (pushed : Option Word) (s : State) :
    keepsContext s (swapStacks src dst pushed s) := by
  rcases swapStacks_cases src dst pushed s with ⟨-, -, e⟩ | ⟨_, -, -, e⟩ | ⟨-, e⟩ <;> rw [e] <;> exact ⟨rfl, rfl, rfl, rfl, rfl⟩

theorem pushProt_keepsContext (f : ProtFrame) (s : State) : keepsContext s (pushProt f s) := by
  unfold pushProt; split
  · split <;> exact ⟨rfl, rfl, rfl, rfl, rfl⟩
  · exact ⟨rfl, rfl, rfl, rfl, rfl⟩

/-! ### Operations that may stop -/

theorem stopUnlessFaulted_keepsContext {r : Refusal} {s t : State} (h : stopUnlessFaulted r s = .next t) : keepsContext s t := by
  unfold stopUnlessFaulted at h; split at h <;> cases h; exact ⟨rfl, rfl, rfl, rfl, rfl⟩

theorem memRead_keepsContext {a : Word} {n : Nat} {s t : State} {v : DWord} (h : memRead a n s = .next (v, t)) : keepsContext s t := by
  obtain ⟨-, -, h1, h2, h3, h4, h5⟩ := memRead_next a n s v t h
  exact keepsContext_of_sameRest ⟨h1, h2, h3, h4, h5⟩

theorem memWrite_keepsContext {a : Word} {n : Nat} {v : DWord} {s t : State} (h : memWrite a n v s = .next t) : keepsContext s t :=
  keepsContext_of_sameRest (memWrite_next a n v s t h).2.2

theorem pushFrame_keepsContext {sp v : Word} {n : Nat} {s t : State} (h : pushFrame sp n v s = .next t) : keepsContext s t := by
  obtain ⟨u, hu, ht⟩ := andThen_eq_next h
  refine keepsContext_trans (memWrite_keepsContext hu) ?_
  split at ht
  · exact keepsContext_of_sameRest (scribble_memoryOnly _ _ _ _ ht).2.2
  · cases ht; exact ⟨rfl, rfl, rfl, rfl, rfl⟩

theorem jumpTo_keepsContext {delay : Fin 8} {late : Late} {target : Word} {s t : State} (h : jumpTo delay late target s = .next t) :
    keepsContext s t := by
  rcases jumpTo_next _ _ _ _ _ h with ⟨-, e, -⟩ | ⟨-, -, e⟩ | ⟨-, -, e⟩ <;> rw [e] <;> exact ⟨rfl, rfl, rfl, rfl, rfl⟩

theorem loadReg_keepsContext {n : Nat} {f : Word → DWord → Word} {r : Reg} {e : EffAddr} {s t : State}
    (h : loadReg n f r e s = .next t) : keepsContext s t := by
  obtain ⟨v, hv, ht⟩ := andThen_eq_next h
  cases ht
  exact keepsContext_trans (memRead_keepsContext hv) (keepsContext_trans (writeReg_keepsContext _ _ _) (applySide_keepsContext _ _))

theorem loadPair_keepsContext {x : XReg} {e : EffAddr} {s t : State} (h : loadPair x e s = .next t) : keepsContext s t := by
  obtain ⟨v, hv, ht⟩ := andThen_eq_next h
  cases ht
  exact keepsContext_trans (memRead_keepsContext hv) (keepsContext_trans (writeX_keepsContext _ _ _) (applySide_keepsContext _ _))

theorem storeVal_keepsContext {n : Nat} {v : DWord} {e : EffAddr} {s t : State} (h : storeVal n v e s = .next t) :
    keepsContext s t := by
  obtain ⟨u, hu, ht⟩ := andThen_eq_next h
  cases ht
  exact keepsContext_trans (memWrite_keepsContext hu) (applySide_keepsContext _ _)

theorem moveMem_keepsContext {n : Nat} {dst src : EffAddr} {s t : State} (h : moveMem n dst src s = .next t) : keepsContext s t := by
  obtain ⟨v, hv, ht⟩ := andThen_eq_next h
  obtain ⟨u, hu, ht⟩ := andThen_eq_next ht
  cases ht
  exact keepsContext_trans (memRead_keepsContext hv) (keepsContext_trans (memWrite_keepsContext hu)
    (keepsContext_trans (applySide_keepsContext _ _) (applySide_keepsContext _ _)))

theorem modifyMem_keepsContext {n : Nat} {f : DWord → DWord} {e : EffAddr} {s t : State} (h : modifyMem n f e s = .next t) :
    keepsContext s t := by
  obtain ⟨v, hv, ht⟩ := andThen_eq_next h
  obtain ⟨u, hu, ht⟩ := andThen_eq_next ht
  cases ht
  exact keepsContext_trans (memRead_keepsContext hv) (keepsContext_trans (memWrite_keepsContext hu) (applySide_keepsContext _ _))

theorem callTo_keepsContext {target : Word} {delay : Fin 8} {s t : State} (h : callTo target delay s = .next t) : keepsContext s t := by
  obtain ⟨u, hu, ht⟩ := andThen_eq_next h
  refine keepsContext_trans (keepsContext_trans (checkSp_keepsContext s) (checkTransfer_keepsContext target _)) ?_
  refine keepsContext_trans (pushFrame_keepsContext hu) (keepsContext_trans ?_ (jumpTo_keepsContext ht))
  split <;> exact ⟨rfl, rfl, rfl, rfl, rfl⟩

theorem returnTo_keepsContext {delay : Fin 8} {s t : State} (h : returnTo delay s = .next t) : keepsContext s t := by
  obtain ⟨v, hv, ht⟩ := andThen_eq_next h
  have h1 := keepsContext_trans (checkSp_keepsContext s) (checkTransfer_keepsContext s.pre.rpc (checkSp s))
  have h2 := jumpTo_keepsContext ht
  exact keepsContext_trans h1 (keepsContext_trans (memRead_keepsContext hv) (keepsContext_trans ⟨rfl, rfl, rfl, rfl, rfl⟩ h2))

theorem branchTo_keepsContext {target : Word} {delay : Fin 8} {s t : State} (h : branchTo target delay s = .next t) :
    keepsContext s t :=
  keepsContext_trans (checkTransfer_keepsContext target s) (jumpTo_keepsContext h)

theorem enterProtected_keepsContext {target : Word} {pushed : Option Word} {s t : State}
    (h : enterProtected target pushed s = .next t) : keepsContext s t :=
  keepsContext_trans (keepsContext_trans (scrambleWork_keepsContext s) (swapStacks_keepsContext _ _ _ _))
    (keepsContext_trans (keepsContext_writeCur _ _) (jumpTo_keepsContext h))

theorem callProt_keepsContext {target : Word} {s t : State} (h : callProt target s = .next t) : keepsContext s t := by
  obtain ⟨u, hu, ht⟩ := andThen_eq_next h
  have h1 : keepsContext s _ := keepsContext_trans (checkSp_keepsContext s)
    (raiseIf_keepsContext (decide (s.cfg.maxPsp ≤ s.pre.protStack.length)) .protectedCallStackFull (checkSp s))
  exact keepsContext_trans h1 (keepsContext_trans (pushFrame_keepsContext hu)
    (keepsContext_trans (writeRpc_keepsContext _ u) (keepsContext_trans (pushProt_keepsContext _ _) (enterProtected_keepsContext ht))))

theorem returnProt_keepsContext {s t : State} (h : returnProt s = .next t) : keepsContext s t := by
  unfold returnProt at h
  split at h
  · exact keepsContext_trans (checkSp_keepsContext s) (stopUnlessFaulted_keepsContext h)
  · simp only at h
    split at h
    · exact keepsContext_trans (checkSp_keepsContext s) (stopUnlessFaulted_keepsContext h)
    · obtain ⟨v, hv, ht⟩ := andThen_eq_next h
      have h1 := keepsContext_trans (checkSp_keepsContext s) (memRead_keepsContext hv)
      have h2 : keepsContext v.2 (writeRpc (lowWord v.1) (scrambleWork v.2)) :=
        keepsContext_trans (scrambleWork_keepsContext v.2) (writeRpc_keepsContext _ _)
      generalize writeRpc (lowWord v.1) (scrambleWork v.2) = u at h2 ht
      refine keepsContext_trans h1 (keepsContext_trans h2 (keepsContext_trans ?_ (jumpTo_keepsContext ht)))
      split <;> exact keepsContext_refl _

theorem returnInt_keepsContext {delay : Fin 8} {s t : State} (h : returnInt delay s = .next t) : keepsContext s t := by
  unfold returnInt at h
  split at h
  · obtain ⟨v, hv, ht⟩ := andThen_eq_next h
    have h1 := keepsContext_trans (checkSp_keepsContext s) (checkTransfer_keepsContext s.pre.rpc (checkSp s))
    have h2 := jumpTo_keepsContext ht
    exact keepsContext_trans h1 (keepsContext_trans (memRead_keepsContext hv) (keepsContext_trans ⟨rfl, rfl, rfl, rfl, rfl⟩ h2))
  · exact stopUnlessFaulted_keepsContext h

theorem returnRealtime_keepsContext {delay : Fin 8} {s t : State} (h : returnRealtime delay s = .next t) : keepsContext s t := by
  unfold returnRealtime at h
  split at h
  · exact stopUnlessFaulted_keepsContext h
  · exact keepsContext_trans (keepsContext_writeCur _ _) (jumpTo_keepsContext h)

/-! ### Instructions whose meaning branches -/

theorem execAtomic_keepsContext {n : BitVec 8} {s t : State} (h : execAtomic n s = .next t) : keepsContext s t := by
  unfold execAtomic at h
  split_ifs at h
  · exact stopUnlessFaulted_keepsContext h
  all_goals cases h; exact ⟨rfl, rfl, rfl, rfl, rfl⟩

theorem execEmustop0_keepsContext {s t : State} (h : execEmustop0 s = .next t) : keepsContext s t := by
  unfold execEmustop0 at h
  split_ifs at h
  all_goals cases h; exact ⟨rfl, rfl, rfl, rfl, rfl⟩

theorem execBranch_keepsContext {target : BrTarget} {c : Cond} {delay : Fin 8} {s t : State} (h : execBranch target c delay s = .next t) :
    keepsContext s t := by
  unfold execBranch at h
  split_ifs at h
  · exact branchTo_keepsContext h
  · cases h; exact ⟨rfl, rfl, rfl, rfl, rfl⟩

theorem execBcmpz_keepsContext {label : Word} {c : DCond} {x : Fin 16} {delay : Fin 8} {s t : State}
    (h : execBcmpz label c x delay s = .next t) : keepsContext s t := by
  unfold execBcmpz at h
  split_ifs at h
  · exact keepsContext_trans (t := bcmpzFlags (readD x s) s) (keepsContext_refl _) (branchTo_keepsContext h)
  · cases h; exact ⟨rfl, rfl, rfl, rfl, rfl⟩

theorem execLdRpc_keepsContext {a : Word} {s t : State} (h : execLdRpc a s = .next t) : keepsContext s t := by
  obtain ⟨v, hv, ht⟩ := andThen_eq_next h
  cases ht
  exact keepsContext_trans (memRead_keepsContext hv) ⟨rfl, rfl, rfl, rfl, rfl⟩

theorem execStatusOp_keepsContext {op : StatusOp} {s t : State} (h : execStatusOp op s = .next t) : keepsContext s t := by
  cases op with
  | load r m =>
    obtain ⟨v, hv, ht⟩ := andThen_eq_next h
    cases ht
    exact keepsContext_trans (memRead_keepsContext hv) (keepsContext_trans (writeStatus_keepsContext _ _ _) (applySide_keepsContext _ _))
  | store r m => exact storeVal_keepsContext h
  | toReg r dst => cases h; exact writeReg_keepsContext _ _ _
  | ofReg r src => cases h; exact writeStatus_keepsContext _ _ _
  | andImm r imm => cases h; exact writeStatus_keepsContext _ _ _
  | orImm r imm => cases h; exact writeStatus_keepsContext _ _ _

theorem execSubReg_keepsContext {b : IBank} {z y x : Fin 16} {s t : State} (h : execSubReg b z y x s = .next t) : keepsContext s t := by
  unfold execSubReg at h
  split at h <;> cases h <;> exact writeSum_keepsContext _ _ _ _ _ _

theorem execMvReg_keepsContext {op : MvRegs} {s t : State} (h : execMvReg op s = .next t) : keepsContext s t := by
  cases op <;> cases h
  · exact writeReg_keepsContext _ _ _
  · exact writeX_keepsContext _ _ _

theorem execCmp_keepsContext {op : CmpRegs} {s t : State} (h : execCmp op s = .next t) : keepsContext s t := by
  cases op <;> cases h <;> exact ⟨rfl, rfl, rfl, rfl, rfl⟩

theorem execIncCirc_keepsContext {y : Fin 4} {x : Fin 16} {s t : State} (h : execIncCirc y x s = .next t) : keepsContext s t := by
  simp only [execIncCirc] at h
  split at h <;> cases h <;> exact ⟨rfl, rfl, rfl, rfl, rfl⟩

theorem execDecCirc_keepsContext {y : Fin 4} {x : Fin 16} {s t : State} (h : execDecCirc y x s = .next t) : keepsContext s t := by
  simp only [execDecCirc] at h
  split at h <;> cases h <;> exact ⟨rfl, rfl, rfl, rfl, rfl⟩

/-! ### All instructions, and a packet -/

/-- No instruction touches the state before its packet, the configuration, the inputs or where the packet ends (R16). -/
theorem exec_keepsContext {i : Instr} {s t : State} (h : exec i s = .next t) : keepsContext s t := by
  cases i with
  | add32Addr1 | addS16Addr1 | addS8Addr1 | andU16Addr1 | andU8Addr1 | andorB0Addr1 | andorW0Addr1 | mvU16Addr1 | mvU8Addr1 | retAddr1
    | s16tofAddr1 | sub32Addr1 | subS16Addr1 | subS8Addr1 | subr32Addr1 | subrS16Addr1 | subrS8Addr1 | u16tofAddr1 | and32Addr2 |
    andorAddr2 | mv16Addr2 | mv32Addr2 | mv64Addr2 | mv8Addr2 | or32Addr2 | xor32Addr2 | s16tofDirm | s16tofDirmIx | u16tofDirm |
    u16tofDirmIx | preserve | xc | xcp | eccselftest => cases h
  | and16Addr1 m v => exact modifyMem_keepsContext (show execAnd16Addr1 m v s = .next t from h)
  | and8Addr1 m v => exact modifyMem_keepsContext (show execAnd8Addr1 m v s = .next t from h)
  | or16Addr1 m v => exact modifyMem_keepsContext (show execOr16Addr1 m v s = .next t from h)
  | or8Addr1 m v => exact modifyMem_keepsContext (show execOr8Addr1 m v s = .next t from h)
  | xor16Addr1 m v => exact modifyMem_keepsContext (show execXor16Addr1 m v s = .next t from h)
  | xor8Addr1 m v => exact modifyMem_keepsContext (show execXor8Addr1 m v s = .next t from h)
  | ld32Addr1 | ldB0Addr1 | ldB1Addr1 | ldB2Addr1 | ldB3Addr1 | ldS16Addr1 | ldS8Addr1 | ldU16Addr1 | ldU8Addr1 | ldW0Addr1 |
    ldW1Addr1 | ld32Addr2 | ld32Dirm | ld32DirmIx | ldB0Dirm | ldB0DirmIx | ldB1Dirm | ldB1DirmIx | ldB2Dirm | ldB2DirmIx | ldB3Dirm |
    ldB3DirmIx | ldS16Dirm | ldS16DirmIx | ldS8Dirm | ldS8DirmIx | ldU16Dirm | ldU16DirmIx | ldU8Dirm | ldU8DirmIx | ldW0Dirm |
    ldW0DirmIx | ldW1Dirm | ldW1DirmIx => exact loadReg_keepsContext h
  | ld64Addr1 | ld64Addr2 | ld64Dirm | ld64DirmIx => exact loadPair_keepsContext h
  | mv16Addr1 | mv32Addr1 | mv64Addr1 | mv8Addr1 | mv32Addr3 => exact moveMem_keepsContext h
  | st16Addr1 | st32Addr1 | st64Addr1 | st8Addr1 | stB0Addr1 | stB1Addr1 | stB2Addr1 | stB3Addr1 | stW0Addr1 | stW1Addr1 | st16Addr2 |
    st32Addr2 | st64Addr2 | st8Addr2 | st32Dirm | st32DirmIx | st64Dirm | st64DirmIx | stB0Dirm | stB0DirmIx | stB1Dirm | stB1DirmIx |
    stB2Dirm | stB2DirmIx | stB3Dirm | stB3DirmIx | stW0Dirm | stW0DirmIx | stW1Dirm | stW1DirmIx => exact storeVal_keepsContext h
  | callLabel | callReg => exact callTo_keepsContext h
  | ret => exact returnTo_keepsContext h
  | branch => exact execBranch_keepsContext h
  | bcmpz => exact execBcmpz_keepsContext h
  | callProtLabel | callProtReg => exact callProt_keepsContext h
  | entry1Prot | entry2Prot | exitProt | enint | disint | isr1Prot | isr2Prot | idle | movRpc | nop | addU16 | subU16 | addBitrev |
    ftos16 | crc | smpyf | saddf | addf => cases h; exact ⟨rfl, rfl, rfl, rfl, rfl⟩
  | lbProt => exact enterProtected_keepsContext h
  | retProt => exact returnProt_keepsContext h
  | atomic => exact execAtomic_keepsContext h
  | retiInt | retiIntD => exact returnInt_keepsContext h
  | retiRtint | retiRtintD => exact returnRealtime_keepsContext h
  | emustop0 => exact execEmustop0_keepsContext h
  | ldRpc => exact execLdRpc_keepsContext h
  | statusOp => exact execStatusOp_keepsContext h
  | addImm | addReg | subImm => cases h; exact writeSum_keepsContext _ _ _ _ _ _
  | subReg => exact execSubReg_keepsContext h
  | mvImm => cases h; exact writeReg_keepsContext _ _ _
  | mvReg => exact execMvReg_keepsContext h
  | cmp => exact execCmp_keepsContext h
  | tbit => cases h; exact writeTestDst_keepsContext _ _ _
  | tflg => cases h; exact writeTestDst_keepsContext (.flag _) _ _
  | incCirc => exact execIncCirc_keepsContext h
  | decCirc => exact execDecCirc_keepsContext h

/-- The instructions of a packet one after another. -/
theorem execAll_keepsContext {is : List Instr} {s t : State} (h : execAll is s = .next t) : keepsContext s t := by
  induction is generalizing s with
  | nil => cases h; exact ⟨rfl, rfl, rfl, rfl, rfl⟩
  | cons i is ih =>
    simp only [execAll] at h
    split at h
    · cases h; exact ⟨rfl, rfl, rfl, rfl, rfl⟩
    · obtain ⟨u, hu, ht⟩ := andThen_eq_next h
      exact keepsContext_trans (exec_keepsContext hu) (ih ht)

end Sys2Proof.Laws
end

