-- ==== Sys2Proof/Tests/Slice0.lean ====
section
/-! SUPPORT. Small tests: ill-formed terms, words written out from the encoding, the worked examples and vectors of
95_test_vectors.md, and for each statement with hypotheses a state that meets them. -/

set_option Elab.async false

namespace Sys2Proof.Tests

open Sys2Proof.Machine

/-! ### Helpers -/

/-- The reset state with its architectural part changed. -/
def start (f : Arch → Arch) : State := { State.reset with cur := f State.reset.cur, pre := f State.reset.cur }

/-- A configuration with LINK 1 on STACK 1 at 0x10000, LINK 2 on STACK 2 at 0x20000, LINK 3 on STACK 3 at 0x30000 and LINK 0 below
(programs P5 and V-Q, V-I4). -/
def twoLinks : Params :=
  { Params.default with
    exe := [⟨0, 0xF, 0⟩, ⟨0x10, 0x1F, 1⟩, ⟨0x20, 0x2F, 2⟩, ⟨0x30, 0x3F, 3⟩]
    stackOf := #v[0, 1, 2, 3, 0, 0, 0, 0, 0, 0, 0, 0, 0, 0, 0, 0]
    maxPsp := 4, maxRtisp := 3, warnPspAtReset := 4 }

/-- A state with that configuration. -/
def startLinks (f : Arch → Arch) : State := { start f with cfg := twoLinks }

/-- Bytes at an address. -/
def withBytes (a : Nat) (bs : List Nat) (c : Arch) : Arch := { c with mem := putBytes c.mem a (bs.map (BitVec.ofNat 8)) }

/-- A working register. -/
def withA (i : Fin 16) (v : Word) (c : Arch) : Arch := { c with a := c.a.set i v }

/-- A working register. -/
def withD (i : Fin 16) (v : Word) (c : Arch) : Arch := { c with d := c.d.set i v }

/-- A working register. -/
def withM (i : Fin 32) (v : Word) (c : Arch) : Arch := { c with m := c.m.set i v }

/-- The bits of an instruction, the first word lowest. -/
def bitsOf (l : List Nat) : Nat :=
  match l with
  | [] => 0
  | w :: l => w + 65536 * bitsOf l

/-- The bytes of a packet: I_Link 1 in every instruction but the last. -/
def packetBytes (is : List Instr) : List Byte :=
  match is with
  | [] => []
  | [i] => encodeBytes i
  | i :: is => (match encode i with | [] => [] | w :: l => (w + 32768) :: l).flatMap wordBytes ++ packetBytes is

/-- The state after one step on a packet at the program counter. -/
def after (s : State) (is : List Instr) : Option State :=
  match step { s with cur := placeCode (packetBytes is) s.cur } with
  | .next t => some t
  | .fault _ => none
  | .refused _ => none

/-- Whether the step on a packet is refused, and why. -/
def refusal (s : State) (is : List Instr) : Option Refusal :=
  match step { s with cur := placeCode (packetBytes is) s.cur } with
  | .next _ => none
  | .fault _ => none
  | .refused r => some r

/-- The fault a step on a packet ends in. -/
def faultOf (s : State) (is : List Instr) : Option Cause := (after s is).bind fun t => t.cur.fault

/-- A word of memory after a step. -/
def word (t : State) (a : Word) : Word := newWord t a

/-- The state after a step without a packet placed. -/
def stepped (s : State) : Option State :=
  match step s with
  | .next t => some t
  | .fault _ => none
  | .refused _ => none

/-! ### Ill-formed terms -/

/-- A15 where the operand has no stack mode (R188, R347) is refused by WellFormed. -/
theorem test_illformed_operand_1 :
    Instr.wf (.add32Addr1 (.off 15 0)) = false
    ∧ Instr.wf (.addS16Addr1 (.off 15 0)) = false
    ∧ Instr.wf (.addS8Addr1 (.off 15 0)) = false
    ∧ Instr.wf (.and16Addr1 (.off 15 0) 0) = false
    ∧ Instr.wf (.and8Addr1 (.off 15 0) 0) = false
    ∧ Instr.wf (.andU16Addr1 (.off 15 0)) = false
    ∧ Instr.wf (.andU8Addr1 (.off 15 0)) = false
    ∧ Instr.wf (.andorB0Addr1 (.off 15 0)) = false
    ∧ Instr.wf (.andorW0Addr1 (.off 15 0)) = false
    ∧ Instr.wf (.ld32Addr1 (.d 0) (.off 15 0)) = false
    ∧ Instr.wf (.ld64Addr1 (.xd 0) (.off 15 0)) = false
    ∧ Instr.wf (.ldB0Addr1 (.d 0) (.off 15 0)) = false
    ∧ Instr.wf (.ldB1Addr1 (.d 0) (.off 15 0)) = false
    ∧ Instr.wf (.ldB2Addr1 (.d 0) (.off 15 0)) = false := by decide

/-- A15 where the operand has no stack mode (R188, R347) is refused by WellFormed. -/
theorem test_illformed_operand_2 :
    Instr.wf (.ldB3Addr1 (.d 0) (.off 15 0)) = false
    ∧ Instr.wf (.ldS16Addr1 (.d 0) (.off 15 0)) = false
    ∧ Instr.wf (.ldS8Addr1 (.d 0) (.off 15 0)) = false
    ∧ Instr.wf (.ldU16Addr1 (.d 0) (.off 15 0)) = false
    ∧ Instr.wf (.ldU8Addr1 (.d 0) (.off 15 0)) = false
    ∧ Instr.wf (.ldW0Addr1 (.d 0) (.off 15 0)) = false
    ∧ Instr.wf (.ldW1Addr1 (.d 0) (.off 15 0)) = false
    ∧ Instr.wf (.mv16Addr1 (.off 15 0) (.off 1 0)) = false
    ∧ Instr.wf (.mv16Addr1 (.off 1 0) (.off 15 0)) = false
    ∧ Instr.wf (.mv32Addr1 (.off 15 0) (.off 1 0)) = false
    ∧ Instr.wf (.mv32Addr1 (.off 1 0) (.off 15 0)) = false
    ∧ Instr.wf (.mv64Addr1 (.off 15 0) (.off 1 0)) = false
    ∧ Instr.wf (.mv64Addr1 (.off 1 0) (.off 15 0)) = false
    ∧ Instr.wf (.mv8Addr1 (.off 15 0) (.off 1 0)) = false := by decide

/-- A15 where the operand has no stack mode (R188, R347) is refused by WellFormed. -/
theorem test_illformed_operand_3 :
    Instr.wf (.mv8Addr1 (.off 1 0) (.off 15 0)) = false
    ∧ Instr.wf (.mvU16Addr1 (.off 15 0)) = false
    ∧ Instr.wf (.mvU8Addr1 (.off 15 0)) = false
    ∧ Instr.wf (.or16Addr1 (.off 15 0) 0) = false
    ∧ Instr.wf (.or8Addr1 (.off 15 0) 0) = false
    ∧ Instr.wf (.retAddr1 (.off 15 0) 0) = false
    ∧ Instr.wf (.s16tofAddr1 (.off 15 0)) = false
    ∧ Instr.wf (.st16Addr1 (.off 15 0) 0) = false
    ∧ Instr.wf (.st32Addr1 (.off 15 0) (.d 0)) = false
    ∧ Instr.wf (.st64Addr1 (.off 15 0) (.xd 0)) = false
    ∧ Instr.wf (.st8Addr1 (.off 15 0) 0) = false
    ∧ Instr.wf (.stB0Addr1 (.off 15 0) (.d 0)) = false
    ∧ Instr.wf (.stB1Addr1 (.off 15 0) (.d 0)) = false
    ∧ Instr.wf (.stB2Addr1 (.off 15 0) (.d 0)) = false := by decide

/-- A15 where the operand has no stack mode (R188, R347) is refused by WellFormed. -/
theorem test_illformed_operand_4 :
    Instr.wf (.stB3Addr1 (.off 15 0) (.d 0)) = false
    ∧ Instr.wf (.stW0Addr1 (.off 15 0) (.d 0)) = false
    ∧ Instr.wf (.stW1Addr1 (.off 15 0) (.d 0)) = false
    ∧ Instr.wf (.sub32Addr1 (.off 15 0)) = false
    ∧ Instr.wf (.subS16Addr1 (.off 15 0)) = false
    ∧ Instr.wf (.subS8Addr1 (.off 15 0)) = false
    ∧ Instr.wf (.subr32Addr1 (.off 15 0)) = false
    ∧ Instr.wf (.subrS16Addr1 (.off 15 0)) = false
    ∧ Instr.wf (.subrS8Addr1 (.off 15 0)) = false
    ∧ Instr.wf (.u16tofAddr1 (.off 15 0)) = false
    ∧ Instr.wf (.xor16Addr1 (.off 15 0) 0) = false
    ∧ Instr.wf (.xor8Addr1 (.off 15 0) 0) = false
    ∧ Instr.wf (.ld32DirmIx (.d 0) 15 0) = false
    ∧ Instr.wf (.ld64DirmIx (.xd 0) 15 0) = false := by decide

/-- A15 where the operand has no stack mode (R188, R347) is refused by WellFormed. -/
theorem test_illformed_operand_5 :
    Instr.wf (.ldB0DirmIx (.d 0) 15 0) = false
    ∧ Instr.wf (.ldB1DirmIx (.d 0) 15 0) = false
    ∧ Instr.wf (.ldB2DirmIx (.d 0) 15 0) = false
    ∧ Instr.wf (.ldB3DirmIx (.d 0) 15 0) = false
    ∧ Instr.wf (.ldS16DirmIx (.d 0) 15 0) = false
    ∧ Instr.wf (.ldS8DirmIx (.d 0) 15 0) = false
    ∧ Instr.wf (.ldU16DirmIx (.d 0) 15 0) = false
    ∧ Instr.wf (.ldU8DirmIx (.d 0) 15 0) = false
    ∧ Instr.wf (.ldW0DirmIx (.d 0) 15 0) = false
    ∧ Instr.wf (.ldW1DirmIx (.d 0) 15 0) = false
    ∧ Instr.wf (.s16tofDirmIx 15 0) = false
    ∧ Instr.wf (.st32DirmIx 15 0 (.d 0)) = false
    ∧ Instr.wf (.st64DirmIx 15 0 (.xd 0)) = false
    ∧ Instr.wf (.stB0DirmIx 15 0 (.d 0)) = false := by decide

/-- A15 where the operand has no stack mode (R188, R347) is refused by WellFormed. -/
theorem test_illformed_operand_6 :
    Instr.wf (.stB1DirmIx 15 0 (.d 0)) = false
    ∧ Instr.wf (.stB2DirmIx 15 0 (.d 0)) = false
    ∧ Instr.wf (.stB3DirmIx 15 0 (.d 0)) = false
    ∧ Instr.wf (.stW0DirmIx 15 0 (.d 0)) = false
    ∧ Instr.wf (.stW1DirmIx 15 0 (.d 0)) = false
    ∧ Instr.wf (.u16tofDirmIx 15 0) = false := by decide

/-- The rows that have no stack mode, and the three that do (R188). -/
theorem test_illformed_addr1_modes :
    Addr1.wf (.off 15 0) = false ∧ Addr1.wf (.offScaled 15 0) = false ∧ Addr1.wf (.offPost 15 0 0) = false ∧ Addr1.wf (.postDec 15 0) = false ∧ Addr1.wf (.index 15 0 0) = false ∧ Addr1.wf (.indexSet 15 0 0 0) = false ∧ Addr1.wf (.indexSet 0 15 0 0) = false
    ∧ Addr1.wf (.spNeg 0) = true ∧ Addr1.wf (.postInc 15 8) = true ∧ Addr1.wf (.preDec 15 8) = true := by decide

/-- ADDR3 bases (R205), circular limits (R462), a TA.MAP table beside a label, a delayed return without a delay, status operands. -/
theorem test_illformed_rest :
    Instr.wf (.mv32Addr3 ⟨15, 0⟩ ⟨0, 0⟩) = false ∧ Instr.wf (.mv32Addr3 ⟨0, 0⟩ ⟨15, 0⟩) = false
    ∧ Instr.wf (.incCirc 0 15) = false ∧ Instr.wf (.decCirc 0 15) = false
    ∧ Instr.wf (.branch (.label 0) (.taMap 0) 0) = false ∧ Instr.wf (.retiIntD 0) = false ∧ Instr.wf (.retiRtintD 0) = false
    ∧ Instr.wf (.statusOp (.load .dsts (.off 15 0))) = false ∧ Instr.wf (.statusOp (.store .ests (.off 15 0))) = false := by decide

/-! ### Words written out -/

/-- Words built from the field tables (R171, R186, R200, R205, R207) and the model's opcode numbers (log entry 1). -/
theorem test_decode_words_1 :
    decodeTableWord 32 0xFD56_2D00 = some (.add32Addr1 (.indexSet 5 6 1 3))
    ∧ decodeTableWord 32 0xFD56_2D01 = some (.addS16Addr1 (.indexSet 5 6 1 3))
    ∧ decodeTableWord 32 0xFD56_2D02 = some (.addS8Addr1 (.indexSet 5 6 1 3))
    ∧ decodeTableWord 48 0xC3BE_DBA3_0C01 = some (.and16Addr1 (.postDec 3 0xBA) 50110)
    ∧ decodeTableWord 48 0x005A_FFFE_0C04 = some (.and8Addr1 (.index 14 3 3) 0x5A)
    ∧ decodeTableWord 32 0xFD56_2D03 = some (.andU16Addr1 (.indexSet 5 6 1 3))
    ∧ decodeTableWord 32 0xFD56_2D04 = some (.andU8Addr1 (.indexSet 5 6 1 3))
    ∧ decodeTableWord 32 0xFD56_2D05 = some (.andorB0Addr1 (.indexSet 5 6 1 3))
    ∧ decodeTableWord 32 0xFD56_2D06 = some (.andorW0Addr1 (.indexSet 5 6 1 3))
    ∧ decodeTableWord 32 0x0042_2812 = some (.ld32Addr1 (.d 2) (.off 2 4))
    ∧ decodeTableWord 32 0x992E_2821 = some (.ld32Addr1 (.m 1) (.offPost 14 100 2))
    ∧ decodeTableWord 32 0xEE0F_2AC8 = some (.ld64Addr1 (.xd 0) (.preDec 15 0xE0))
    ∧ decodeTableWord 32 0x0042_2852 = some (.ldB0Addr1 (.d 2) (.off 2 4))
    ∧ decodeTableWord 32 0x0042_2892 = some (.ldB1Addr1 (.d 2) (.off 2 4))
    ∧ decodeTableWord 32 0x0042_28D2 = some (.ldB2Addr1 (.d 2) (.off 2 4))
    ∧ decodeTableWord 32 0x0042_2912 = some (.ldB3Addr1 (.d 2) (.off 2 4))
    ∧ decodeTableWord 32 0x0042_2952 = some (.ldS16Addr1 (.d 2) (.off 2 4))
    ∧ decodeTableWord 32 0x0042_2992 = some (.ldS8Addr1 (.d 2) (.off 2 4))
    ∧ decodeTableWord 32 0x0042_29D2 = some (.ldU16Addr1 (.d 2) (.off 2 4))
    ∧ decodeTableWord 32 0x0042_2A12 = some (.ldU8Addr1 (.d 2) (.off 2 4)) := by decide +kernel

/-- Words built from the field tables (R171, R186, R200, R205, R207) and the model's opcode numbers (log entry 1). -/
theorem test_decode_words_2 :
    decodeTableWord 32 0x0042_2A52 = some (.ldW0Addr1 (.d 2) (.off 2 4))
    ∧ decodeTableWord 32 0x0042_2A92 = some (.ldW1Addr1 (.d 2) (.off 2 4))
    ∧ decodeTableWord 48 0xC043_0002_0C09 = some (.mv16Addr1 (.off 2 0) (.postInc 3 4))
    ∧ decodeTableWord 48 0xC043_0002_0C0A = some (.mv32Addr1 (.off 2 0) (.postInc 3 4))
    ∧ decodeTableWord 48 0xC043_0002_0C0B = some (.mv64Addr1 (.off 2 0) (.postInc 3 4))
    ∧ decodeTableWord 48 0xC043_0002_0C08 = some (.mv8Addr1 (.off 2 0) (.postInc 3 4))
    ∧ decodeTableWord 32 0xFD56_2D07 = some (.mvU16Addr1 (.indexSet 5 6 1 3))
    ∧ decodeTableWord 32 0xFD56_2D08 = some (.mvU8Addr1 (.indexSet 5 6 1 3))
    ∧ decodeTableWord 48 0xC3BE_DBA3_0C00 = some (.or16Addr1 (.postDec 3 0xBA) 50110)
    ∧ decodeTableWord 48 0x005A_FFFE_0C03 = some (.or8Addr1 (.index 14 3 3) 0x5A)
    ∧ decodeTableWord 32 0xBFF8_2D43 = some (.retAddr1 (.spNeg 0x1FF8) 3)
    ∧ decodeTableWord 32 0xFD56_2D09 = some (.s16tofAddr1 (.indexSet 5 6 1 3))
    ∧ decodeTableWord 48 0x1234_7FF1_0C06 = some (.st16Addr1 (.offScaled 1 1023) 0x1234)
    ∧ decodeTableWord 32 0xEFC2_2B13 = some (.st32Addr1 (.preDec 2 0xFC) (.d 3))
    ∧ decodeTableWord 32 0xC20F_2CC8 = some (.st64Addr1 (.postInc 15 32) (.xd 0))
    ∧ decodeTableWord 48 0x000B_0042_0C07 = some (.st8Addr1 (.off 2 4) 0x0B)
    ∧ decodeTableWord 32 0xEFC2_2B53 = some (.stB0Addr1 (.preDec 2 0xFC) (.d 3))
    ∧ decodeTableWord 32 0xEFC2_2B93 = some (.stB1Addr1 (.preDec 2 0xFC) (.d 3))
    ∧ decodeTableWord 32 0xEFC2_2BD3 = some (.stB2Addr1 (.preDec 2 0xFC) (.d 3))
    ∧ decodeTableWord 32 0xEFC2_2C13 = some (.stB3Addr1 (.preDec 2 0xFC) (.d 3)) := by decide +kernel

/-- Words built from the field tables (R171, R186, R200, R205, R207) and the model's opcode numbers (log entry 1). -/
theorem test_decode_words_3 :
    decodeTableWord 32 0xEFC2_2C53 = some (.stW0Addr1 (.preDec 2 0xFC) (.d 3))
    ∧ decodeTableWord 32 0xEFC2_2C93 = some (.stW1Addr1 (.preDec 2 0xFC) (.d 3))
    ∧ decodeTableWord 32 0xFD56_2D0A = some (.sub32Addr1 (.indexSet 5 6 1 3))
    ∧ decodeTableWord 32 0xFD56_2D0B = some (.subS16Addr1 (.indexSet 5 6 1 3))
    ∧ decodeTableWord 32 0xFD56_2D0C = some (.subS8Addr1 (.indexSet 5 6 1 3))
    ∧ decodeTableWord 32 0xFD56_2D0D = some (.subr32Addr1 (.indexSet 5 6 1 3))
    ∧ decodeTableWord 32 0xFD56_2D0E = some (.subrS16Addr1 (.indexSet 5 6 1 3))
    ∧ decodeTableWord 32 0xFD56_2D0F = some (.subrS8Addr1 (.indexSet 5 6 1 3))
    ∧ decodeTableWord 32 0xFD56_2D10 = some (.u16tofAddr1 (.indexSet 5 6 1 3))
    ∧ decodeTableWord 48 0xC3BE_DBA3_0C02 = some (.xor16Addr1 (.postDec 3 0xBA) 50110)
    ∧ decodeTableWord 48 0x005A_FFFE_0C05 = some (.xor8Addr1 (.index 14 3 3) 0x5A)
    ∧ decodeTableWord 32 0x0006_3380 = some (.and32Addr2 (.postA1 2))
    ∧ decodeTableWord 32 0x0006_3381 = some (.andorAddr2 (.postA1 2))
    ∧ decodeTableWord 16 0b0_1_010_100000_01000 = some (.ld32Addr2 (.m 0) (.idxA0 0))
    ∧ decodeTableWord 16 0b0_1_010_100001_10101 = some (.ld32Addr2 (.m 1) (.postInc 1))
    ∧ decodeTableWord 32 0x0010_3252 = some (.ld64Addr2 (.xm 2) (.plain 0))
    ∧ decodeTableWord 32 0x0006_3382 = some (.mv16Addr2 (.postA1 2))
    ∧ decodeTableWord 32 0x0006_3383 = some (.mv32Addr2 (.postA1 2))
    ∧ decodeTableWord 32 0x0006_3384 = some (.mv64Addr2 (.postA1 2))
    ∧ decodeTableWord 32 0x0006_3385 = some (.mv8Addr2 (.postA1 2)) := by decide +kernel

/-- Words built from the field tables (R171, R186, R200, R205, R207) and the model's opcode numbers (log entry 1). -/
theorem test_decode_words_4 :
    decodeTableWord 32 0x0006_3386 = some (.or32Addr2 (.postA1 2))
    ∧ decodeTableWord 32 0x1234_3350 = some (.st16Addr2 (.plain 0) 0x1234)
    ∧ decodeTableWord 32 0x0009_3290 = some (.st32Addr2 (.idxA0 1) (.d 0))
    ∧ decodeTableWord 32 0x001F_32C8 = some (.st64Addr2 (.preDec 3) (.xd 0))
    ∧ decodeTableWord 32 0x000B_331A = some (.st8Addr2 (.postDec 2) 0x0B)
    ∧ decodeTableWord 32 0x0006_3387 = some (.xor32Addr2 (.postA1 2))
    ∧ decodeTableWord 32 0x4108_2000 = some (.mv32Addr3 ⟨0, 4⟩ ⟨1, 8⟩)
    ∧ decodeTableWord 32 0xF004_20EF = some (.mv32Addr3 ⟨14, 255⟩ ⟨0, 4⟩)
    ∧ decodeTableWord 48 0x0000_00F8_0024 = some (.ld32Dirm (.d 2) 0xF8)
    ∧ decodeTableWord 48 0xFFFF_FFF3_0025 = some (.ld32DirmIx (.d 2) 3 0x0FFFFFFF)
    ∧ decodeTableWord 48 0x1234_5678_0594 = some (.ld64Dirm (.xd 2) 0x12345678)
    ∧ decodeTableWord 48 0x0000_0043_0595 = some (.ld64DirmIx (.xd 2) 3 4)
    ∧ decodeTableWord 48 0x0000_00F8_00A4 = some (.ldB0Dirm (.d 2) 0xF8)
    ∧ decodeTableWord 48 0xFFFF_FFF3_00A5 = some (.ldB0DirmIx (.d 2) 3 0x0FFFFFFF)
    ∧ decodeTableWord 48 0x0000_00F8_0124 = some (.ldB1Dirm (.d 2) 0xF8)
    ∧ decodeTableWord 48 0xFFFF_FFF3_0125 = some (.ldB1DirmIx (.d 2) 3 0x0FFFFFFF)
    ∧ decodeTableWord 48 0x0000_00F8_01A4 = some (.ldB2Dirm (.d 2) 0xF8)
    ∧ decodeTableWord 48 0xFFFF_FFF3_01A5 = some (.ldB2DirmIx (.d 2) 3 0x0FFFFFFF)
    ∧ decodeTableWord 48 0x0000_00F8_0224 = some (.ldB3Dirm (.d 2) 0xF8)
    ∧ decodeTableWord 48 0xFFFF_FFF3_0225 = some (.ldB3DirmIx (.d 2) 3 0x0FFFFFFF) := by decide +kernel

/-- Words built from the field tables (R171, R186, R200, R205, R207) and the model's opcode numbers (log entry 1). -/
theorem test_decode_words_5 :
    decodeTableWord 48 0x0000_00F8_02A4 = some (.ldS16Dirm (.d 2) 0xF8)
    ∧ decodeTableWord 48 0xFFFF_FFF3_02A5 = some (.ldS16DirmIx (.d 2) 3 0x0FFFFFFF)
    ∧ decodeTableWord 48 0x0000_00F8_0324 = some (.ldS8Dirm (.d 2) 0xF8)
    ∧ decodeTableWord 48 0xFFFF_FFF3_0325 = some (.ldS8DirmIx (.d 2) 3 0x0FFFFFFF)
    ∧ decodeTableWord 48 0x0000_00F8_03A4 = some (.ldU16Dirm (.d 2) 0xF8)
    ∧ decodeTableWord 48 0xFFFF_FFF3_03A5 = some (.ldU16DirmIx (.d 2) 3 0x0FFFFFFF)
    ∧ decodeTableWord 48 0x0000_00F8_0424 = some (.ldU8Dirm (.d 2) 0xF8)
    ∧ decodeTableWord 48 0xFFFF_FFF3_0425 = some (.ldU8DirmIx (.d 2) 3 0x0FFFFFFF)
    ∧ decodeTableWord 48 0x0000_00F8_04A4 = some (.ldW0Dirm (.d 2) 0xF8)
    ∧ decodeTableWord 48 0xFFFF_FFF3_04A5 = some (.ldW0DirmIx (.d 2) 3 0x0FFFFFFF)
    ∧ decodeTableWord 48 0x0000_00F8_0524 = some (.ldW1Dirm (.d 2) 0xF8)
    ∧ decodeTableWord 48 0xFFFF_FFF3_0525 = some (.ldW1DirmIx (.d 2) 3 0x0FFFFFFF)
    ∧ decodeTableWord 48 0x0000_9000_0A00 = some (.s16tofDirm 0x9000)
    ∧ decodeTableWord 48 0x0000_0043_0A01 = some (.s16tofDirmIx 3 4)
    ∧ decodeTableWord 48 0x2000_0200_0620 = some (.st32Dirm 0x20000200 (.d 0))
    ∧ decodeTableWord 48 0x0000_0043_0615 = some (.st32DirmIx 3 4 (.a 10))
    ∧ decodeTableWord 48 0x2000_0200_0990 = some (.st64Dirm 0x20000200 (.xd 0))
    ∧ decodeTableWord 48 0x0000_0043_0991 = some (.st64DirmIx 3 4 (.xd 0))
    ∧ decodeTableWord 48 0x2000_0200_06A0 = some (.stB0Dirm 0x20000200 (.d 0))
    ∧ decodeTableWord 48 0x0000_0043_0695 = some (.stB0DirmIx 3 4 (.a 10)) := by decide +kernel

/-- Words built from the field tables (R171, R186, R200, R205, R207) and the model's opcode numbers (log entry 1). -/
theorem test_decode_words_6 :
    decodeTableWord 48 0x2000_0200_0720 = some (.stB1Dirm 0x20000200 (.d 0))
    ∧ decodeTableWord 48 0x0000_0043_0715 = some (.stB1DirmIx 3 4 (.a 10))
    ∧ decodeTableWord 48 0x2000_0200_07A0 = some (.stB2Dirm 0x20000200 (.d 0))
    ∧ decodeTableWord 48 0x0000_0043_0795 = some (.stB2DirmIx 3 4 (.a 10))
    ∧ decodeTableWord 48 0x2000_0200_0820 = some (.stB3Dirm 0x20000200 (.d 0))
    ∧ decodeTableWord 48 0x0000_0043_0815 = some (.stB3DirmIx 3 4 (.a 10))
    ∧ decodeTableWord 48 0x2000_0200_08A0 = some (.stW0Dirm 0x20000200 (.d 0))
    ∧ decodeTableWord 48 0x0000_0043_0895 = some (.stW0DirmIx 3 4 (.a 10))
    ∧ decodeTableWord 48 0x2000_0200_0920 = some (.stW1Dirm 0x20000200 (.d 0))
    ∧ decodeTableWord 48 0x0000_0043_0915 = some (.stW1DirmIx 3 4 (.a 10))
    ∧ decodeTableWord 48 0x0000_9000_0A80 = some (.u16tofDirm 0x9000)
    ∧ decodeTableWord 48 0x0000_0043_0A81 = some (.u16tofDirmIx 3 4)
    ∧ decodeTableWord 48 0x0000_1100_0B83 = some (.callLabel 0x1100 3)
    ∧ decodeTableWord 32 0x0005_33C0 = some (.callReg 5 0)
    ∧ decodeTableWord 16 0b0_1_100_00010000010 = some (.ret 2)
    ∧ decodeTableWord 48 0x0000_2000_144A = some (.branch (.label 0x2000) (.a .eq) 1)
    ∧ decodeTableWord 48 0x0007_BEEF_1601 = some (.branch (.reg 7) (.taMap 0xBEEF) 0)
    ∧ decodeTableWord 48 0x0000_2000_1805 = some (.bcmpz 0x2000 (.rel .eq) 5 0)
    ∧ decodeTableWord 48 0x0002_0000_0C0C = some (.callProtLabel 0x20000)
    ∧ decodeTableWord 32 0x0000_3405 = some (.callProtReg 5) := by decide +kernel

/-- Words built from the field tables (R171, R186, R200, R205, R207) and the model's opcode numbers (log entry 1). -/
theorem test_decode_words_7 :
    decodeTableWord 16 0b0_1_100_00100000010 = some (.entry1Prot)
    ∧ decodeTableWord 16 0b0_1_100_00100000011 = some (.entry2Prot)
    ∧ decodeTableWord 48 0x0002_0000_0C0D = some (.lbProt 0x20000)
    ∧ decodeTableWord 16 0b0_1_100_00100000001 = some (.retProt)
    ∧ decodeTableWord 16 0b0_1_100_00100000100 = some (.exitProt)
    ∧ decodeTableWord 16 0b0_1_100_00100001110 = some (.preserve)
    ∧ decodeTableWord 16 0b0_1_100_00100001111 = some (.xc)
    ∧ decodeTableWord 16 0b0_1_100_00100010000 = some (.xcp)
    ∧ decodeTableWord 16 0b0_1_011_00000000010 = some (.atomic 2)
    ∧ decodeTableWord 16 0b0_1_100_00100000101 = some (.enint)
    ∧ decodeTableWord 16 0b0_1_100_00100000110 = some (.disint)
    ∧ decodeTableWord 16 0b0_1_100_00100000111 = some (.retiInt)
    ∧ decodeTableWord 16 0b0_1_100_00100001000 = some (.retiRtint)
    ∧ decodeTableWord 16 0b0_1_100_00100001001 = some (.isr1Prot)
    ∧ decodeTableWord 16 0b0_1_100_00100001010 = some (.isr2Prot)
    ∧ decodeTableWord 16 0b0_1_100_00100001011 = some (.idle)
    ∧ decodeTableWord 16 0b0_1_100_00100001100 = some (.emustop0)
    ∧ decodeTableWord 16 0b0_1_100_00100001101 = some (.eccselftest)
    ∧ decodeTableWord 16 0b0_1_100_00011000111 = some (.movRpc 7)
    ∧ decodeTableWord 48 0x1234_5678_0C0E = some (.ldRpc 0x12345678) := by decide +kernel

/-- Words built from the field tables (R171, R186, R200, R205, R207) and the model's opcode numbers (log entry 1). -/
theorem test_decode_words_8 :
    decodeTableWord 32 0x0042_2D11 = some (.statusOp (.load .dsts (.off 2 4)))
    ∧ decodeTableWord 32 0x0042_2D14 = some (.statusOp (.store .ests (.off 2 4)))
    ∧ decodeTableWord 32 0x0000_2D90 = some (.statusOp (.toReg .dsts (.d 0)))
    ∧ decodeTableWord 32 0x0000_2E50 = some (.statusOp (.ofReg .ests (.d 0)))
    ∧ decodeTableWord 48 0xFFFF_FFFE_0C0F = some (.statusOp (.andImm .dsts 0xFFFFFFFE))
    ∧ decodeTableWord 48 0x0000_0010_0C12 = some (.statusOp (.orImm .ests 0x10))
    ∧ decodeTableWord 16 0b0_1_100_00100000000 = some (.nop)
    ∧ decodeTableWord 32 0x0020_21FF = some (.addU16 15 15 32)
    ∧ decodeTableWord 32 0x2018_220F = some (.subU16 0 15 8216)
    ∧ decodeTableWord 16 0b0_1_000_0_0000_000110 = some (.addImm .a 0 0 6)
    ∧ decodeTableWord 32 0x8000_2521 = some (.addImm .d 2 1 0x8000)
    ∧ decodeTableWord 32 0x0010_2E92 = some (.addReg .d 2 1 0)
    ∧ decodeTableWord 16 0b0_1_001_0_0001_001010 = some (.subImm .a 1 1 10)
    ∧ decodeTableWord 32 0x000A_2621 = some (.subImm .a 2 1 10)
    ∧ decodeTableWord 32 0x0010_2ED3 = some (.subReg .d 3 1 0)
    ∧ decodeTableWord 48 0x0123_1156_0B18 = some (.mvImm (.d 8) 0x1231156)
    ∧ decodeTableWord 32 0x0007_2F10 = some (.mvReg (.word (.d 0) (.a 7)))
    ∧ decodeTableWord 32 0x0010_2F47 = some (.mvReg (.pair (.xa 7) (.xm 0)))
    ∧ decodeTableWord 32 0x0008_2F87 = some (.cmp (.a 7 8))
    ∧ decodeTableWord 32 0x0008_2FC7 = some (.cmp (.d 7 8)) := by decide +kernel

/-- Words built from the field tables (R171, R186, R200, R205, R207) and the model's opcode numbers (log entry 1). -/
theorem test_decode_words_9 :
    decodeTableWord 32 0x001F_3007 = some (.cmp (.m 7 31))
    ∧ decodeTableWord 32 0x0000_304A = some (.tbit .mzf)
    ∧ decodeTableWord 32 0x0000_3085 = some (.tflg (.tdm 1))
    ∧ decodeTableWord 16 0b0_1_100_00000000110 = some (.incCirc 0 6)
    ∧ decodeTableWord 16 0b0_1_100_00001000110 = some (.decCirc 0 6)
    ∧ decodeTableWord 32 0x0008_30C0 = some (.addBitrev 0 0 8)
    ∧ decodeTableWord 32 0x0006_3107 = some (.ftos16 7 6)
    ∧ decodeTableWord 32 0x0201_3143 = some (.crc 3 2 0 1)
    ∧ decodeTableWord 32 0x0001_3184 = some (.smpyf 4 0 1)
    ∧ decodeTableWord 32 0x00C4_31C6 = some (.saddf 6 6 4)
    ∧ decodeTableWord 32 0x00E6_3207 = some (.addf 7 7 6)
    ∧ decodeTableWord 16 0b0_1_100_00101000001 = some (.retiIntD 1)
    ∧ decodeTableWord 16 0b0_1_100_00101001101 = some (.retiRtintD 5) := by decide +kernel

/-- The decoder rejects by name: an unused group, A15 in a row without a stack mode (V-M22), missing bytes, unused bits. -/
theorem test_decode_refuses :
    decode [0x00, 0x68] = .error .undefinedOpcode ∧ decode [0x12, 0x28, 0x4F, 0x00] = .error .stackPointer
    ∧ decode [0x4F, 0x14] = .error .truncated ∧ decode [0x40, 0x2F, 0x40, 0x00] = .error .reservedBits := by decide +kernel

/-! ### Vectors of 95_test_vectors.md -/

/-- Memory and registers of section 1 of the vectors: bytes 0 to 31 at ArrayX = 0x20000000, A0 to A7 at 0xF8. -/
def section1 (f : Arch → Arch) : State :=
  start fun c => f (withBytes 0x20000000 (List.range 32) (withBytes 0xF8 [0xA0, 0xA1, 0xA2, 0xA3, 0xA4, 0xA5, 0xA6, 0xA7]
    (withA 2 0x20000000 (withD 0 0xAABBCCDD { c with pc := 0x1000 }))))

/-- The registers a load or store test looks at. -/
def dd (t : State) : Word × Word × Word × Option Cause := (t.cur.d[0], t.cur.d[1], t.cur.d[2], t.cur.fault)

/-- V-A1, V-A2. -/
theorem test_align_direct :
    (after (section1 id) [.ld32Dirm (.d 2) 0xF8]).map dd = some (0xAABBCCDD, 0, 0xA3A2A1A0, none)
    ∧ faultOf (section1 id) [.ld32Dirm (.d 2) 0xF9] = some .addressingFault := by decide +kernel

/-- V-A3, V-A4, V-A19. -/
theorem test_align_offset :
    (after (section1 id) [.ld32Addr1 (.d 2) (.off 2 4)]).map dd = some (0xAABBCCDD, 0, 0x07060504, none)
    ∧ faultOf (section1 id) [.ld32Addr1 (.d 2) (.off 2 5)] = some .addressingFault
    ∧ faultOf (section1 (withA 2 0x20000002)) [.ld32Addr1 (.d 2) (.off 2 4)] = some .addressingFault := by decide +kernel

/-- V-A5, V-A11. -/
theorem test_ldB0_offset :
    (after (section1 id) [.ldB0Addr1 (.d 0) (.off 2 9)]).map dd = some (0xAABBCC09, 0, 0, none)
    ∧ (after (section1 id) [.ldB0Addr1 (.d 0) (.postInc 2 9)]).map (fun t => (t.cur.d[0], t.cur.a[2])) = some (0xAABBCC00, 0x20000009) := by decide +kernel

/-- V-A6, V-A15. -/
theorem test_ldU16_offset :
    (after (section1 id) [.ldU16Addr1 (.d 1) (.off 2 10)]).map dd = some (0xAABBCCDD, 0x00000B0A, 0, none)
    ∧ (after (section1 id) [.ldU16Addr1 (.d 1) (.postInc 2 5)]).map (fun t => (t.cur.d[1], t.cur.a[2], t.cur.fault)) = some (0x0100, 0x20000005, none) := by decide +kernel

/-- V-A7, V-A14, V-A18. -/
theorem test_ld64_offset :
    (after (section1 id) [.ld64Addr1 (.xd 2) (.off 2 16)]).map (fun t => (t.cur.d[4], t.cur.d[5])) = some (0x13121110, 0x17161514)
    ∧ (after (section1 id) [.ld64Addr1 (.xd 2) (.postInc 2 24)]).map (fun t => (t.cur.d[4], t.cur.d[5], t.cur.a[2])) = some (0x03020100, 0x07060504, 0x20000018)
    ∧ faultOf (section1 id) [.ld64Addr1 (.xd 2) (.off 2 10)] = some .addressingFault := by decide +kernel

/-- V-W1. -/
theorem test_ld32_offset_post :
    (after (start fun c => withBytes 0x20000064 [0, 0, 0x80, 0x3F] (withA 14 0x20000000 (withA 2 8 c))) [.ld32Addr1 (.m 1) (.offPost 14 100 2)]).map
      (fun t => (t.cur.m[1], t.cur.a[14])) = some (0x3F800000, 0x20000008) := by decide +kernel

/-- V-W2. -/
theorem test_or16_post_decrement :
    (after (start fun c => withBytes 0x20000046 [0x41, 0] (withA 3 0x20000046 c)) [.or16Addr1 (.postDec 3 0xBA) 50110]).map
      (fun t => (newByte t 0x20000046 0, newByte t 0x20000046 1, t.cur.a[3])) = some (0xFF, 0xC3, 0x20000000) := by decide +kernel

/-- V-W3. -/
theorem test_mv32_addr3 :
    (after (start fun c => withBytes 0x20000020 [0x0D, 0xF0, 0xFE, 0xCA] (withA 0 0x20000100 (withA 1 0x20000000 c))) [.mv32Addr3 ⟨0, 4⟩ ⟨1, 8⟩]).map
      (fun t => word t 0x20000110) = some 0xCAFEF00D
    ∧ faultOf (start fun c => withA 0 0x20000100 (withA 1 0x20000002 c)) [.mv32Addr3 ⟨0, 4⟩ ⟨1, 8⟩] = some .addressingFault := by decide +kernel

/-- V-W5. -/
theorem test_stW1_indexed :
    (after (start fun c => withA 3 0x20000000 (withA 10 0xAABBCCDD c)) [.stW1DirmIx 3 4 (.a 10)]).map
      (fun t => (newByte t 0x20000004 0, newByte t 0x20000004 1)) = some (0xBB, 0xAA) := by decide +kernel

/-- V-W4. -/
theorem test_ldB0_direct :
    (after (start fun c => withBytes 0x8000 [0x7F] (withA 8 0x11223344 c)) [.ldB0Dirm (.a 8) 0x8000]).map (fun t => t.cur.a[8]) = some 0x1122337F := by decide +kernel

/-- V-W9. -/
theorem test_ld64_addr2 :
    (after (section1 (withA 4 0x20000010)) [.ld64Addr2 (.xm 2) (.plain 0)]).map (fun t => (t.cur.m[4], t.cur.m[5])) = some (0x13121110, 0x17161514)
    ∧ faultOf (section1 (withA 4 0x20000004)) [.ld64Addr2 (.xm 2) (.plain 0)] = some .addressingFault := by decide +kernel

/-- V-W10. -/
theorem test_st8_addr2 :
    (after (start fun c => withA 6 0x20000000 c) [.st8Addr2 (.postDec 2) 0x0B]).map (fun t => (newByte t 0x20000000 0, t.cur.a[6])) = some (0x0B, 0x1FFFFFFF) := by decide +kernel

/-- V-W11. -/
theorem test_ldU16_direct :
    (after (start fun c => withBytes 0x9000 [0x01, 0x80] c) [.ldU16Dirm (.d 0) 0x9000]).map (fun t => t.cur.d[0]) = some 0x8001 := by decide +kernel

/-- V-N1, V-N4 to V-N7, V-N9 to V-N11. -/
theorem test_negative_offsets :
    evalAddr1 (.spNeg 0x1FFF) (start (withA 15 0x9010)) = ⟨0x900F, none⟩ ∧ evalAddr1 (.spNeg 0x1000) (start (withA 15 0x9010)) = ⟨0x8010, none⟩
    ∧ evalAddr1 (.spNeg 0) (start (withA 15 0x9010)) = ⟨0x7010, none⟩ ∧ evalAddr1 (.spNeg 0x1FF8) (start (withA 15 4)) = ⟨0xFFFFFFFC, none⟩
    ∧ evalAddr1 (.postDec 7 0xFF) (start (withA 7 0x20000100)) = ⟨0x20000100, some (7, 0x200000FF)⟩
    ∧ evalAddr1 (.postDec 7 0) (start (withA 7 0x80)) = ⟨0x80, some (7, 0xFFFFFF80)⟩
    ∧ evalAddr1 (.preDec 7 0) (start (withA 7 0x20000100)) = ⟨0x20000000, some (7, 0x20000000)⟩
    ∧ evalAddr1 (.preDec 2 0xFC) (start (withA 2 0x20000010)) = ⟨0x2000000C, some (2, 0x2000000C)⟩ := by decide +kernel

/-- V-M1 to V-M8. -/
theorem test_addr1_modes :
    evalAddr1 (.off 1 1023) (start (withA 1 0x20000000)) = ⟨0x200003FF, none⟩
    ∧ evalAddr1 (.offScaled 1 1023) (start (withA 1 0x20000000)) = ⟨0x20000FFC, none⟩
    ∧ evalAddr1 (.offScaled 9 1) (start (withA 9 0xFFFFFFFC)) = ⟨0, none⟩
    ∧ evalAddr1 (.offPost 0 127 3) (start fun c => withA 0 0x20000000 (withA 3 0xFFFFFFFC c)) = ⟨0x2000007F, some (0, 0x1FFFFFFC)⟩
    ∧ evalAddr1 (.postInc 14 255) (start (withA 14 0x20000000)) = ⟨0x20000000, some (14, 0x200000FF)⟩
    ∧ evalAddr1 (.index 14 3 3) (start fun c => withA 14 0x20000000 (withA 3 0x20000001 c)) = ⟨0x20000008, none⟩
    ∧ evalAddr1 (.indexSet 5 6 1 3) (start fun c => withA 6 0x20000000 (withA 1 2 c)) = ⟨0x20000010, some (5, 0x20000010)⟩ := by decide +kernel

/-- V-M10 to V-M17. -/
theorem test_addr2_modes :
    evalAddr2 (.postA0 0) 4 (start fun c => withA 4 0x20000000 (withA 0 6 c)) = ⟨0x20000000, some (4, 0x20000006)⟩
    ∧ evalAddr2 (.postA1 2) 4 (start fun c => withA 6 0x20000000 (withA 1 0xFFFFFFF8 c)) = ⟨0x20000000, some (6, 0x1FFFFFF8)⟩
    ∧ evalAddr2 (.idxA0 0) 8 (start fun c => withA 4 0x20000000 (withA 0 3 c)) = ⟨0x20000018, none⟩
    ∧ evalAddr2 (.idxA0 0) 1 (start fun c => withA 4 0x20000000 (withA 0 3 c)) = ⟨0x20000003, none⟩
    ∧ evalAddr2 (.idxA1 1) 4 (start fun c => withA 5 0x20000000 (withA 1 1 c)) = ⟨0x20000004, none⟩
    ∧ evalAddr2 (.postInc 1) 2 (start (withA 5 0x20000000)) = ⟨0x20000000, some (5, 0x20000002)⟩
    ∧ evalAddr2 (.preDec 3) 4 (start (withA 7 0x20000004)) = ⟨0x20000000, some (7, 0x20000000)⟩ := by decide +kernel

/-- V-M18, V-M19. -/
theorem test_addr3_and_dirm :
    evalAddr3 ⟨14, 255⟩ (start (withA 14 0x20000000)) = ⟨0x200003FC, none⟩
    ∧ evalIndexed 3 0x0FFFFFFF (start (withA 3 0xF0000001)) = ⟨0, none⟩ := by decide +kernel

/-- V-M23. -/
theorem test_load_over_pointer_refused :
    refusal (start (withA 2 0x20000000)) [.ld32Addr1 (.a 2) (.postInc 2 4)] = some .doubleWrite := by decide +kernel

/-- V-G1, V-G2. -/
theorem test_index_shift :
    (after (start fun c => withBytes 0x2000001C [12, 0, 0, 0] (withA 2 0x20000000 (withA 0 7 c))) [.ld32Addr1 (.d 0) (.index 2 0 2)]).map (fun t => t.cur.d[0]) = some 12
    ∧ (after (start fun c => withBytes 7 [0x5A] (withA 2 8 (withA 0 0xFFFFFFFF { c with pc := 0x1000 }))) [.ldU8Addr1 (.d 0) (.index 2 0 0)]).map (fun t => t.cur.d[0]) = some 0x5A := by decide +kernel

/-- V-G3: every read is of before the packet. -/
theorem test_five_instruction_packet :
    (after (start fun c => withBytes 0x2000000C [0, 0, 0, 0, 0, 0, 0, 0, 0x22, 0x22, 0x22, 0x22, 0x11, 0x11, 0x11, 0x11]
        (withA 2 0x20000010 (withA 0 8 (withA 1 4 (withD 3 0x5555AAAA c)))))
      [.ld32Addr1 (.d 0) (.index 2 0 0), .ld32Addr1 (.d 1) (.index 2 1 0), .st32Addr1 (.preDec 2 0xFC) (.d 3), .addImm .a 0 0 6, .subImm .a 1 1 10]).map
      (fun t => (t.cur.d[0], t.cur.d[1], t.cur.a[2], word t 0x2000000C, t.cur.a[0], t.cur.a[1]))
      = some (0x11111111, 0x22222222, 0x2000000C, 0x5555AAAA, 14, 0xFFFFFFFA) := by decide +kernel

/-- V-K3, V-K4. -/
theorem test_stack_pair :
    (after (start fun c => withA 15 0x9000 (withD 0 0x11223344 (withD 1 0x55667788 c))) [.st64Addr1 (.postInc 15 32) (.xd 0)]).map
      (fun t => (word t 0x9000, word t 0x9004, t.cur.a[15])) = some (0x11223344, 0x55667788, 0x9020)
    ∧ (after (start fun c => withBytes 0x9000 [0x44, 0x33, 0x22, 0x11, 0x88, 0x77, 0x66, 0x55] (withA 15 0x9020 c)) [.ld64Addr1 (.xd 0) (.preDec 15 0xE0)]).map
      (fun t => (t.cur.d[0], t.cur.d[1], t.cur.a[15])) = some (0x11223344, 0x55667788, 0x9000) := by decide +kernel

/-- V-L1 to V-L6. -/
theorem test_lane_loads :
    (after (start fun c => withBytes 0x20000000 [0x11] (withA 2 0x20000000 (withD 0 0xAABBCCDD c))) [.ldB0Addr1 (.d 0) (.off 2 0)]).map (fun t => t.cur.d[0]) = some 0xAABBCC11
    ∧ (after (start fun c => withBytes 0x20000000 [0x11] (withA 2 0x20000000 (withD 0 0xAABBCCDD c))) [.ldB1Addr1 (.d 0) (.off 2 0)]).map (fun t => t.cur.d[0]) = some 0xAABB11DD
    ∧ (after (start fun c => withBytes 0x20000000 [0x11] (withA 2 0x20000000 (withD 0 0xAABBCCDD c))) [.ldB2Addr1 (.d 0) (.off 2 0)]).map (fun t => t.cur.d[0]) = some 0xAA11CCDD
    ∧ (after (start fun c => withBytes 0x20000000 [0x11] (withA 2 0x20000000 (withD 0 0xAABBCCDD c))) [.ldB3Addr1 (.d 0) (.off 2 0)]).map (fun t => t.cur.d[0]) = some 0x11BBCCDD
    ∧ (after (start fun c => withBytes 0x20000000 [0x11, 0x22] (withA 2 0x20000000 (withD 0 0xAABBCCDD c))) [.ldW0Addr1 (.d 0) (.off 2 0)]).map (fun t => t.cur.d[0]) = some 0xAABB2211
    ∧ (after (start fun c => withBytes 0x20000000 [0x11, 0x22] (withA 2 0x20000000 (withD 0 0xAABBCCDD c))) [.ldW1Addr1 (.d 0) (.off 2 0)]).map (fun t => t.cur.d[0]) = some 0x2211CCDD := by decide +kernel

/-- V-L7 to V-L11. -/
theorem test_extending_loads :
    (after (start fun c => withBytes 0x20000000 [1, 0x80] (withA 2 0x20000000 (withD 0 0xAABBCCDD c))) [.ldS16Addr1 (.d 0) (.off 2 0)]).map (fun t => t.cur.d[0]) = some 0xFFFF8001
    ∧ (after (start fun c => withBytes 0x20000000 [1, 0x80] (withA 2 0x20000000 (withD 0 0xAABBCCDD c))) [.ldU16Addr1 (.d 0) (.off 2 0)]).map (fun t => t.cur.d[0]) = some 0x8001
    ∧ (after (start fun c => withBytes 0x20000000 [0xFF, 0x7F] (withA 2 0x20000000 (withD 0 0xAABBCCDD c))) [.ldS16Addr1 (.d 0) (.off 2 0)]).map (fun t => t.cur.d[0]) = some 0x7FFF
    ∧ (after (start fun c => withBytes 0x20000000 [0x80] (withA 2 0x20000000 (withD 0 0xAABBCCDD c))) [.ldS8Addr1 (.d 0) (.off 2 0)]).map (fun t => t.cur.d[0]) = some 0xFFFFFF80
    ∧ (after (start fun c => withBytes 0x20000000 [0x80] (withA 2 0x20000000 (withD 0 0xAABBCCDD c))) [.ldU8Addr1 (.d 0) (.off 2 0)]).map (fun t => t.cur.d[0]) = some 0x80 := by decide +kernel

/-- V-L2 to V-L11 in the direct form (R322). -/
theorem test_dirm_loads :
    (after (start fun c => withBytes 0x20000000 [0x11] (withA 2 0x1FFFFFFC (withD 0 0xAABBCCDD c))) [.ldB1Dirm (.d 0) 0x20000000]).map (fun t => t.cur.d[0]) = some 0xAABB11DD
    ∧ (after (start fun c => withBytes 0x20000000 [0x11] (withA 2 0x1FFFFFFC (withD 0 0xAABBCCDD c))) [.ldB2Dirm (.d 0) 0x20000000]).map (fun t => t.cur.d[0]) = some 0xAA11CCDD
    ∧ (after (start fun c => withBytes 0x20000000 [0x11] (withA 2 0x1FFFFFFC (withD 0 0xAABBCCDD c))) [.ldB3Dirm (.d 0) 0x20000000]).map (fun t => t.cur.d[0]) = some 0x11BBCCDD
    ∧ (after (start fun c => withBytes 0x20000000 [0x11, 0x22] (withA 2 0x1FFFFFFC (withD 0 0xAABBCCDD c))) [.ldW0Dirm (.d 0) 0x20000000]).map (fun t => t.cur.d[0]) = some 0xAABB2211
    ∧ (after (start fun c => withBytes 0x20000000 [0x11, 0x22] (withA 2 0x1FFFFFFC (withD 0 0xAABBCCDD c))) [.ldW1Dirm (.d 0) 0x20000000]).map (fun t => t.cur.d[0]) = some 0x2211CCDD
    ∧ (after (start fun c => withBytes 0x20000000 [1, 0x80] (withA 2 0x1FFFFFFC (withD 0 0xAABBCCDD c))) [.ldS16Dirm (.d 0) 0x20000000]).map (fun t => t.cur.d[0]) = some 0xFFFF8001
    ∧ (after (start fun c => withBytes 0x20000000 [0x80] (withA 2 0x1FFFFFFC (withD 0 0xAABBCCDD c))) [.ldS8Dirm (.d 0) 0x20000000]).map (fun t => t.cur.d[0]) = some 0xFFFFFF80
    ∧ (after (start fun c => withBytes 0x20000000 [0x80] (withA 2 0x1FFFFFFC (withD 0 0xAABBCCDD c))) [.ldU8Dirm (.d 0) 0x20000000]).map (fun t => t.cur.d[0]) = some 0x80 := by decide +kernel

/-- V-L1 to V-L11 in the indexed form (R323). -/
theorem test_dirm_indexed_loads :
    (after (start fun c => withBytes 0x20000000 [1, 2, 3, 4] (withA 2 0x1FFFFFFC (withD 0 0xAABBCCDD c))) [.ld32DirmIx (.d 0) 2 4]).map (fun t => t.cur.d[0]) = some 0x04030201
    ∧ (after (start fun c => withBytes 0x20000000 [0x11] (withA 2 0x1FFFFFFC (withD 0 0xAABBCCDD c))) [.ldB0DirmIx (.d 0) 2 4]).map (fun t => t.cur.d[0]) = some 0xAABBCC11
    ∧ (after (start fun c => withBytes 0x20000000 [0x11] (withA 2 0x1FFFFFFC (withD 0 0xAABBCCDD c))) [.ldB1DirmIx (.d 0) 2 4]).map (fun t => t.cur.d[0]) = some 0xAABB11DD
    ∧ (after (start fun c => withBytes 0x20000000 [0x11] (withA 2 0x1FFFFFFC (withD 0 0xAABBCCDD c))) [.ldB2DirmIx (.d 0) 2 4]).map (fun t => t.cur.d[0]) = some 0xAA11CCDD
    ∧ (after (start fun c => withBytes 0x20000000 [0x11] (withA 2 0x1FFFFFFC (withD 0 0xAABBCCDD c))) [.ldB3DirmIx (.d 0) 2 4]).map (fun t => t.cur.d[0]) = some 0x11BBCCDD
    ∧ (after (start fun c => withBytes 0x20000000 [0x11, 0x22] (withA 2 0x1FFFFFFC (withD 0 0xAABBCCDD c))) [.ldW0DirmIx (.d 0) 2 4]).map (fun t => t.cur.d[0]) = some 0xAABB2211
    ∧ (after (start fun c => withBytes 0x20000000 [0x11, 0x22] (withA 2 0x1FFFFFFC (withD 0 0xAABBCCDD c))) [.ldW1DirmIx (.d 0) 2 4]).map (fun t => t.cur.d[0]) = some 0x2211CCDD
    ∧ (after (start fun c => withBytes 0x20000000 [1, 0x80] (withA 2 0x1FFFFFFC (withD 0 0xAABBCCDD c))) [.ldS16DirmIx (.d 0) 2 4]).map (fun t => t.cur.d[0]) = some 0xFFFF8001
    ∧ (after (start fun c => withBytes 0x20000000 [1, 0x80] (withA 2 0x1FFFFFFC (withD 0 0xAABBCCDD c))) [.ldU16DirmIx (.d 0) 2 4]).map (fun t => t.cur.d[0]) = some 0x8001
    ∧ (after (start fun c => withBytes 0x20000000 [0x80] (withA 2 0x1FFFFFFC (withD 0 0xAABBCCDD c))) [.ldS8DirmIx (.d 0) 2 4]).map (fun t => t.cur.d[0]) = some 0xFFFFFF80
    ∧ (after (start fun c => withBytes 0x20000000 [0x80] (withA 2 0x1FFFFFFC (withD 0 0xAABBCCDD c))) [.ldU8DirmIx (.d 0) 2 4]).map (fun t => t.cur.d[0]) = some 0x80 := by decide +kernel

/-- V-L13 in the DIRM forms. -/
theorem test_dirm_pairs :
    (after (section1 id) [.ld64Dirm (.xd 2) 0x20000000]).map (fun t => (t.cur.d[4], t.cur.d[5])) = some (0x03020100, 0x07060504)
    ∧ (after (section1 id) [.ld64DirmIx (.xm 0) 2 8]).map (fun t => (t.cur.m[0], t.cur.m[1])) = some (0x0B0A0908, 0x0F0E0D0C) := by decide +kernel

/-- V-L14 to V-L17. -/
theorem test_lane_stores :
    (after (start fun c => withBytes 0x20000000 [1, 2, 3, 4, 5] (withA 2 0x20000000 (withD 0 0xAABBCCDD (withD 1 0x55667788 c)))) [.stB0Addr1 (.off 2 0) (.d 0)]).map (fun t => (word t 0x20000000, newByte t 0x20000004 0)) = some (0x040302DD, 5)
    ∧ (after (start fun c => withBytes 0x20000000 [1, 2, 3, 4, 5] (withA 2 0x20000000 (withD 0 0xAABBCCDD (withD 1 0x55667788 c)))) [.stB1Addr1 (.off 2 0) (.d 0)]).map (fun t => (word t 0x20000000, newByte t 0x20000004 0)) = some (0x040302CC, 5)
    ∧ (after (start fun c => withBytes 0x20000000 [1, 2, 3, 4, 5] (withA 2 0x20000000 (withD 0 0xAABBCCDD (withD 1 0x55667788 c)))) [.stB2Addr1 (.off 2 0) (.d 0)]).map (fun t => (word t 0x20000000, newByte t 0x20000004 0)) = some (0x040302BB, 5)
    ∧ (after (start fun c => withBytes 0x20000000 [1, 2, 3, 4, 5] (withA 2 0x20000000 (withD 0 0xAABBCCDD (withD 1 0x55667788 c)))) [.stB3Addr1 (.off 2 0) (.d 0)]).map (fun t => (word t 0x20000000, newByte t 0x20000004 0)) = some (0x040302AA, 5)
    ∧ (after (start fun c => withBytes 0x20000000 [1, 2, 3, 4, 5] (withA 2 0x20000000 (withD 0 0xAABBCCDD (withD 1 0x55667788 c)))) [.stW0Addr1 (.off 2 0) (.d 0)]).map (fun t => (word t 0x20000000, newByte t 0x20000004 0)) = some (0x0403CCDD, 5)
    ∧ (after (start fun c => withBytes 0x20000000 [1, 2, 3, 4, 5] (withA 2 0x20000000 (withD 0 0xAABBCCDD (withD 1 0x55667788 c)))) [.stW1Addr1 (.off 2 0) (.d 0)]).map (fun t => (word t 0x20000000, newByte t 0x20000004 0)) = some (0x0403AABB, 5)
    ∧ (after (start fun c => withBytes 0x20000000 [1, 2, 3, 4, 5] (withA 2 0x20000000 (withD 0 0xAABBCCDD (withD 1 0x55667788 c)))) [.st32Addr1 (.off 2 0) (.d 0)]).map (fun t => (word t 0x20000000, newByte t 0x20000004 0)) = some (0xAABBCCDD, 5) := by decide +kernel

/-- V-L14 to V-L18 in the direct form. -/
theorem test_dirm_stores :
    (after (start fun c => withBytes 0x20000000 [1, 2, 3, 4, 5] (withA 2 0x20000000 (withD 0 0xAABBCCDD (withD 1 0x55667788 c)))) [.stB0Dirm 0x20000000 (.d 0)]).map (fun t => (word t 0x20000000, newByte t 0x20000004 0)) = some (0x040302DD, 5)
    ∧ (after (start fun c => withBytes 0x20000000 [1, 2, 3, 4, 5] (withA 2 0x20000000 (withD 0 0xAABBCCDD (withD 1 0x55667788 c)))) [.stB1Dirm 0x20000000 (.d 0)]).map (fun t => (word t 0x20000000, newByte t 0x20000004 0)) = some (0x040302CC, 5)
    ∧ (after (start fun c => withBytes 0x20000000 [1, 2, 3, 4, 5] (withA 2 0x20000000 (withD 0 0xAABBCCDD (withD 1 0x55667788 c)))) [.stB2Dirm 0x20000000 (.d 0)]).map (fun t => (word t 0x20000000, newByte t 0x20000004 0)) = some (0x040302BB, 5)
    ∧ (after (start fun c => withBytes 0x20000000 [1, 2, 3, 4, 5] (withA 2 0x20000000 (withD 0 0xAABBCCDD (withD 1 0x55667788 c)))) [.stB3Dirm 0x20000000 (.d 0)]).map (fun t => (word t 0x20000000, newByte t 0x20000004 0)) = some (0x040302AA, 5)
    ∧ (after (start fun c => withBytes 0x20000000 [1, 2, 3, 4, 5] (withA 2 0x20000000 (withD 0 0xAABBCCDD (withD 1 0x55667788 c)))) [.stW0Dirm 0x20000000 (.d 0)]).map (fun t => (word t 0x20000000, newByte t 0x20000004 0)) = some (0x0403CCDD, 5)
    ∧ (after (start fun c => withBytes 0x20000000 [1, 2, 3, 4, 5] (withA 2 0x20000000 (withD 0 0xAABBCCDD (withD 1 0x55667788 c)))) [.stW1Dirm 0x20000000 (.d 0)]).map (fun t => (word t 0x20000000, newByte t 0x20000004 0)) = some (0x0403AABB, 5)
    ∧ (after (start fun c => withBytes 0x20000000 [1, 2, 3, 4, 5] (withA 2 0x20000000 (withD 0 0xAABBCCDD (withD 1 0x55667788 c)))) [.st32Dirm 0x20000000 (.d 0)]).map (fun t => (word t 0x20000000, newByte t 0x20000004 0)) = some (0xAABBCCDD, 5)
    ∧ (after (start fun c => withBytes 0x20000000 [1, 2, 3, 4, 5] (withA 2 0x20000000 (withD 0 0xAABBCCDD (withD 1 0x55667788 c)))) [.st64Dirm 0x20000000 (.xd 0)]).map (fun t => (word t 0x20000000, newByte t 0x20000004 0)) = some (0xAABBCCDD, 0x88) := by decide +kernel

/-- V-L14 to V-L18 in the indexed form. -/
theorem test_dirm_indexed_stores :
    (after (start fun c => withBytes 0x20000000 [1, 2, 3, 4, 5] (withA 2 0x20000000 (withD 0 0xAABBCCDD (withD 1 0x55667788 c)))) [.stB0DirmIx 2 0 (.d 0)]).map (fun t => (word t 0x20000000, newByte t 0x20000004 0)) = some (0x040302DD, 5)
    ∧ (after (start fun c => withBytes 0x20000000 [1, 2, 3, 4, 5] (withA 2 0x20000000 (withD 0 0xAABBCCDD (withD 1 0x55667788 c)))) [.stB1DirmIx 2 0 (.d 0)]).map (fun t => (word t 0x20000000, newByte t 0x20000004 0)) = some (0x040302CC, 5)
    ∧ (after (start fun c => withBytes 0x20000000 [1, 2, 3, 4, 5] (withA 2 0x20000000 (withD 0 0xAABBCCDD (withD 1 0x55667788 c)))) [.stB2DirmIx 2 0 (.d 0)]).map (fun t => (word t 0x20000000, newByte t 0x20000004 0)) = some (0x040302BB, 5)
    ∧ (after (start fun c => withBytes 0x20000000 [1, 2, 3, 4, 5] (withA 2 0x20000000 (withD 0 0xAABBCCDD (withD 1 0x55667788 c)))) [.stB3DirmIx 2 0 (.d 0)]).map (fun t => (word t 0x20000000, newByte t 0x20000004 0)) = some (0x040302AA, 5)
    ∧ (after (start fun c => withBytes 0x20000000 [1, 2, 3, 4, 5] (withA 2 0x20000000 (withD 0 0xAABBCCDD (withD 1 0x55667788 c)))) [.stW0DirmIx 2 0 (.d 0)]).map (fun t => (word t 0x20000000, newByte t 0x20000004 0)) = some (0x0403CCDD, 5)
    ∧ (after (start fun c => withBytes 0x20000000 [1, 2, 3, 4, 5] (withA 2 0x20000000 (withD 0 0xAABBCCDD (withD 1 0x55667788 c)))) [.st32DirmIx 2 0 (.d 0)]).map (fun t => (word t 0x20000000, newByte t 0x20000004 0)) = some (0xAABBCCDD, 5)
    ∧ (after (start fun c => withBytes 0x20000000 [1, 2, 3, 4, 5] (withA 2 0x20000000 (withD 0 0xAABBCCDD (withD 1 0x55667788 c)))) [.st64DirmIx 2 0 (.xd 0)]).map (fun t => (word t 0x20000000, newByte t 0x20000004 0)) = some (0xAABBCCDD, 0x88) := by decide +kernel

/-- V-L20, P4, R391. -/
theorem test_addr2_stores :
    (after (start fun c => withBytes 0x20000000 [1, 2, 3, 4] (withA 4 0x20000002 c)) [.st16Addr2 (.plain 0) 0x1234]).map (fun t => word t 0x20000000) = some 0x12340201
    ∧ faultOf (start (withA 4 0x20000003)) [.st16Addr2 (.plain 0) 0x1234] = some .addressingFault
    ∧ (after (start fun c => withA 5 0x20000100 (withA 0 4 (withD 0 0x1001 c))) [.st32Addr2 (.idxA0 1) (.d 0)]).map (fun t => word t 0x20000110) = some 0x1001
    ∧ (after (start fun c => withA 7 0x20000008 (withM 2 0x11 (withM 3 0x22 c))) [.st64Addr2 (.preDec 3) (.xm 1)]).map (fun t => (word t 0x20000000, word t 0x20000004, t.cur.a[7])) = some (0x11, 0x22, 0x20000000) := by decide +kernel

/-- R392, R393. -/
theorem test_immediate_stores :
    (after (start fun c => withBytes 0x20000000 [1, 2, 3, 4] (withA 2 0x20000000 c)) [.st16Addr1 (.off 2 2) 0x1234]).map (fun t => word t 0x20000000) = some 0x12340201
    ∧ (after (start fun c => withBytes 0x20000000 [1, 2, 3, 4] (withA 2 0x20000000 c)) [.st8Addr1 (.off 2 3) 0x0B]).map (fun t => word t 0x20000000) = some 0x0B030201 := by decide +kernel

/-- V-L21 to V-L23. -/
theorem test_memory_moves :
    (after (start fun c => withBytes 0x20000100 [0xFE, 0xCA, 0xAD, 0x0B] (withA 2 0x20000000 (withA 3 0x20000100 c))) [.mv32Addr1 (.off 2 0) (.postInc 3 4)]).map (fun t => (word t 0x20000000, t.cur.a[3])) = some (0x0BADCAFE, 0x20000104)
    ∧ (after (start fun c => withBytes 0x20000100 [0xEF, 0xBE] (withBytes 0x20000000 [1, 2, 3, 4] (withA 2 0x20000000 (withA 3 0x20000100 c)))) [.mv16Addr1 (.off 2 2) (.off 3 0)]).map (fun t => word t 0x20000000) = some 0xBEEF0201
    ∧ faultOf (start fun c => withA 2 0x20000000 (withA 3 0x20000104 c)) [.mv64Addr1 (.off 2 8) (.off 3 0)] = some .addressingFault := by decide +kernel

/-- R402, R404. -/
theorem test_memory_moves_8_64 :
    (after (section1 (withA 3 0x20000100)) [.mv8Addr1 (.off 3 0) (.off 2 5)]).map (fun t => newByte t 0x20000100 0) = some 5
    ∧ (after (section1 (withA 3 0x20000100)) [.mv64Addr1 (.off 3 0) (.off 2 8)]).map (fun t => (word t 0x20000100, word t 0x20000104)) = some (0x0B0A0908, 0x0F0E0D0C) := by decide +kernel

/-- V-L24 and R411 to R419. -/
theorem test_read_modify_writes :
    (after (start fun c => withBytes 0x20000000 [0x01, 0x0F] (withA 2 0x20000000 c)) [.or16Addr1 (.off 2 0) 0x00F0]).map (fun t => (newByte t 0x20000000 1, newByte t 0x20000000 0)) = some (0x0F, 0xF1)
    ∧ (after (start fun c => withBytes 0x20000000 [0x01, 0x0F] (withA 2 0x20000000 c)) [.and16Addr1 (.off 2 0) 0x0301]).map (fun t => (newByte t 0x20000000 1, newByte t 0x20000000 0)) = some (0x03, 0x01)
    ∧ (after (start fun c => withBytes 0x20000000 [0x01, 0x0F] (withA 2 0x20000000 c)) [.xor16Addr1 (.off 2 0) 0x0101]).map (fun t => (newByte t 0x20000000 1, newByte t 0x20000000 0)) = some (0x0E, 0x00)
    ∧ (after (start fun c => withBytes 0x20000000 [0x01, 0x0F] (withA 2 0x20000000 c)) [.or8Addr1 (.off 2 0) 0xF0]).map (fun t => (newByte t 0x20000000 1, newByte t 0x20000000 0)) = some (0x0F, 0xF1)
    ∧ (after (start fun c => withBytes 0x20000000 [0x01, 0x0F] (withA 2 0x20000000 c)) [.and8Addr1 (.off 2 0) 0xFE]).map (fun t => (newByte t 0x20000000 1, newByte t 0x20000000 0)) = some (0x0F, 0x00)
    ∧ (after (start fun c => withBytes 0x20000000 [0x01, 0x0F] (withA 2 0x20000000 c)) [.xor8Addr1 (.off 2 0) 0x81]).map (fun t => (newByte t 0x20000000 1, newByte t 0x20000000 0)) = some (0x0F, 0x80) := by decide +kernel

/-- V-L25, V-L26. -/
theorem test_load_beside_store :
    (after (start fun c => withBytes 0x20000000 [1, 0, 0, 0] (withA 2 0x20000000 (withA 3 0x20000000 (withD 1 2 c)))) [.ld32Addr1 (.d 0) (.off 2 0), .st32Addr1 (.off 3 0) (.d 1)]).map
      (fun t => (t.cur.d[0], word t 0x20000000)) = some (1, 2)
    ∧ refusal (start fun c => c) [.ld32Addr1 (.d 0) (.off 2 0), .ld32Addr1 (.d 1) (.off 2 0), .ld32Addr1 (.d 2) (.off 2 0)] = some .tooManyAccesses := by decide +kernel

/-- V-R1, V-R2, V-K5. -/
theorem test_add_sub_u16 :
    (after (start fun c => withA 1 0xFFFF0001 c) [.addU16 1 1 0xFFFF]).map (fun t => t.cur.a[1]) = some 0
    ∧ (after (start fun c => c) [.subU16 1 1 1]).map (fun t => t.cur.a[1]) = some 0xFFFFFFFF
    ∧ (after (start fun c => withA 15 0xA018 c) [.subU16 0 15 8216]).map (fun t => t.cur.a[0]) = some 0x8000 := by decide +kernel

/-- V-R6 to V-R8. -/
theorem test_add_sub_registers :
    (after (start fun c => withD 0 0x7FFFFFFF (withD 1 1 c)) [.addReg .d 2 1 0]).map (fun t => (t.cur.d[2], t.cur.ests.flags)) = some (0x80000000, Flags.clear)
    ∧ (after (start fun c => withA 0 0x39 (withA 1 8 c)) [.addReg .a 2 1 0]).map (fun t => t.cur.a[2]) = some 0x41
    ∧ (after (start fun c => withD 0 10 (withD 1 3 c)) [.subReg .d 3 1 0]).map (fun t => (t.cur.d[3], t.cur.ests)) = some (0xFFFFFFF9, Ests.reset) := by decide +kernel

/-- V-R8 with XminusY, V-R5, R453. -/
theorem test_sub_order :
    (after { start (fun c => withD 0 10 (withD 1 3 c)) with cfg := { Params.default with subOrder := .xMinusY } } [.subReg .d 3 1 0]).map (fun t => t.cur.d[3]) = some 7
    ∧ (after (start fun c => withA 1 4 c) [.subImm .a 1 1 10]).map (fun t => t.cur.a[1]) = some 0xFFFFFFFA
    ∧ (after (start fun c => withD 1 1 c) [.addImm .d 2 1 0x8000]).map (fun t => t.cur.d[2]) = some 0x8001 := by decide +kernel

/-- V-R9, R456, R300. -/
theorem test_moves :
    (after (start fun c => c) [.mvImm (.d 8) 0x1231156]).map (fun t => t.cur.d[8]) = some 0x01231156
    ∧ (after (start fun c => withA 14 1 (withA 15 2 c)) [.mvReg (.pair (.xm 0) (.xa 7))]).map (fun t => (t.cur.m[0], t.cur.m[1])) = some (1, 2)
    ∧ (after (start fun c => withM 6 0x4022F983 c) [.mvReg (.word (.d 3) (.m 6))]).map (fun t => t.cur.d[3]) = some 0x4022F983
    ∧ (after (start fun c => { c with rpc := 0x1234 }) [.movRpc 7]).map (fun t => t.cur.a[7]) = some 0x1234 := by decide +kernel

/-- V-R11, V-R13. -/
theorem test_circular :
    (after (start fun c => withA 6 6 (withA 0 5 c)) [.incCirc 0 6]).map (fun t => t.cur.a[0]) = some 6
    ∧ (after (start fun c => withA 6 6 (withA 0 6 c)) [.incCirc 0 6]).map (fun t => t.cur.a[0]) = some 0
    ∧ (after (start fun c => withA 6 6 (withA 0 7 c)) [.incCirc 0 6]).map (fun t => t.cur.a[0]) = some 0
    ∧ (after (start fun c => withA 6 6 (withA 0 1 c)) [.decCirc 0 6]).map (fun t => t.cur.a[0]) = some 0
    ∧ (after (start fun c => withA 6 6 (withA 0 0 c)) [.decCirc 0 6]).map (fun t => t.cur.a[0]) = some 6
    ∧ (after (start fun c => withA 6 6 (withA 0 7 c)) [.decCirc 0 6]).map (fun t => t.cur.a[0]) = some 6 := by decide +kernel

/-- V-R20 to V-R26. -/
theorem test_bit_reversed :
    (after (start fun c => withA 1 0x39 (withA 2 8 c)) [.addBitrev 0 1 2]).map (fun t => t.cur.a[0]) = some 0x35
    ∧ (after (start fun c => withA 1 0xFFFFFFFF (withA 2 1 c)) [.addBitrev 0 1 2]).map (fun t => t.cur.a[0]) = some 0xFFFFFFFE
    ∧ (after (start fun c => withA 1 0x80000000 (withA 2 0x80000000 c)) [.addBitrev 0 1 2]).map (fun t => t.cur.a[0]) = some 0x40000000
    ∧ (after (start fun c => withA 1 1 (withA 2 3 c)) [.addBitrev 0 1 2]).map (fun t => t.cur.a[0]) = some 2 := by decide +kernel

/-- V-F1. -/
theorem test_floating_point :
    ieeeMul 0x40000000 0x40400000 = 0x40C00000 ∧ ieeeAdd 0x3F800000 0x3F800000 = 0x40000000
    ∧ ieeeAdd 0x3F800000 0x33800000 = 0x3F800000 ∧ ieeeAdd 0x3F800000 0x33800001 = 0x3F800001
    ∧ ieeeAdd 0x3F800001 0x33800000 = 0x3F800002 ∧ ieeeMul 0x3DCCCCCD 0x41200000 = 0x3F800000
    ∧ ieeeMul 0x3F800001 0x3F800001 = 0x3F800002 ∧ ieeeAdd 0xBF800000 0x3F800000 = 0
    ∧ ieeeMul 0xC0400000 0x40000000 = 0xC0C00000 := by decide +kernel

/-- P3: 6 times 1, 6 plus 1. -/
theorem test_float_registers :
    (after (start fun c => withM 0 0x40C00000 (withM 1 0x3F800000 c)) [.smpyf 4 0 1]).map (fun t => t.cur.m[4]) = some 0x40C00000
    ∧ (after (start fun c => withM 0 0x40C00000 (withM 1 0x3F800000 c)) [.saddf 4 0 1]).map (fun t => t.cur.m[4]) = some 0x40E00000
    ∧ (after (start fun c => withM 0 0x40C00000 (withM 1 0x3F800000 c)) [.addf 4 0 1]).map (fun t => t.cur.m[4]) = some 0x40E00000 := by decide +kernel

/-- V-P1, V-P3. -/
theorem test_open_functions :
    exec (.ftos16 7 6) (start (withM 6 0x4022F983)) = .next (writeD 7 (Config.ftos16 0x4022F983) (setStickyFp (start (withM 6 0x4022F983))))
    ∧ exec (.crc 3 2 0 1) (start id) = .next (writeD 3 (Config.crc 0 0 0) (start id)) := ⟨rfl, rfl⟩

/-- R457 to R459: the other bank is untouched. -/
theorem test_compares :
    (after (start id) [.cmp (.d 7 8)]).map (fun t => (t.cur.dsts, t.cur.d[7], t.cur.ests.ov)) = some (Dsts.reset, 0, false)
    ∧ (after (start id) [.cmp (.a 0 1)]).map (fun t => t.cur.ests) = some Ests.reset
    ∧ (after (start id) [.cmp (.m 0 1)]).map (fun t => (t.cur.dsts, t.cur.ests.flags)) = some (Dsts.reset, Flags.clear)
    ∧ (after (start id) [.tbit .az]).map (fun t => t.cur.ests) = some Ests.reset
    ∧ (after (start id) [.tflg (.tdm 1)]).map (fun t => t.cur.dsts) = some Dsts.reset := by decide +kernel

/-- V-R18, V-R19. -/
theorem test_bcmpz :
    (after (start id) [.bcmpz 0x2000 (.rel .eq) 0 0]).map (fun t => t.cur.pc) = some 0x2000
    ∧ (after (start (withD 0 0x80000000)) [.bcmpz 0x2000 (.rel .eq) 0 0]).map (fun t => t.cur.pc) = some 6 := by decide +kernel

/-- R238, R65, R42. -/
theorem test_branch :
    (after (start id) [.branch (.label 0x2000) .always 0]).map (fun t => t.cur.pc) = some 0x2000
    ∧ (after (start (withA 7 0x3000)) [.branch (.reg 7) (.taZ 2) 0]).map (fun t => t.cur.pc) = some 0x3000
    ∧ (after (start (withA 7 0x3000)) [.branch (.reg 7) (.taNZ 2) 0]).map (fun t => t.cur.pc) = some 6
    ∧ refusal (start id) [.branch (.label 0x2001) .always 0] = some (.oddTarget 0x2001) := by decide +kernel

/-- V-S2, V-S5 to V-S9. -/
theorem test_status_words :
    dstsWord ⟨⟨true, false, false, false⟩, false, 3, 0, true, .int, 0x20, 5⟩ = 0x29030181
    ∧ dstsWord (writeDstsWord Dsts.reset 0xFFFFFFFF) = 0x07F9F04F
    ∧ dstsWord (writeDstsWord ⟨⟨true, false, false, false⟩, false, 3, 0, true, .int, 0x20, 5⟩ 0) = 0x29020180
    ∧ estsWord (writeEstsWord 0xFFFFFFFF) = 0x00FFFF3F
    ∧ estsWord { Ests.reset with flags := ⟨true, false, false, false⟩, ov := true, nf := true, tdm := 4, rndf32 := true, tmuTf := true } = 0x00814211
    ∧ istsWord ⟨true, false, false, 5, 2, 1, 9⟩ = 0x48120501 := by decide +kernel

/-- R305. -/
theorem test_status_operations :
    (after (start (withA 2 0x20000000)) [.statusOp (.store .dsts (.off 2 0))]).map (fun t => word t 0x20000000) = some 0x07F80000
    ∧ (after (start fun c => withBytes 0x20000000 [0xFF, 0xFF, 0xFF, 0xFF] (withA 2 0x20000000 c)) [.statusOp (.load .dsts (.off 2 0))]).map (fun t => dstsWord t.cur.dsts) = some 0x07F9F04F
    ∧ (after (start id) [.statusOp (.orImm .ests 0x10)]).map (fun t => t.cur.ests.ov) = some true
    ∧ (after (start id) [.statusOp (.andImm .dsts 0)]).map (fun t => dstsWord t.cur.dsts) = some 0x07F80000
    ∧ (after (start (withD 0 0x3F)) [.statusOp (.ofReg .ests (.d 0))]).map (fun t => estsWord t.cur.ests) = some 0x3F
    ∧ (after (start id) [.statusOp (.toReg .dsts (.d 0))]).map (fun t => t.cur.d[0]) = some 0x07F80000 := by decide +kernel

/-- V-E1 to V-E3. -/
theorem test_sizes :
    [0x4000, 0xC000, 0x6000, 0x7FFF, 0xFFFF].map sizeWords = [1, 1, 1, 1, 1] ∧ [0x2000, 0xA000, 0x3FFF, 0xBFFF].map sizeWords = [2, 2, 2, 2]
    ∧ [0x0000, 0x8000, 0x1FFF, 0x9FFF].map sizeWords = [3, 3, 3, 3] := by decide

/-- V-E6, V-E7, V-E9, V-E11. -/
theorem test_packet_limits :
    (after (start id) (List.replicate 8 .nop)).map (fun t => (t.cur.pc, t.cur.fault)) = some (16, none)
    ∧ faultOf (start id) (List.replicate 9 .nop) = some .instructionTimeout
    ∧ faultOf (start id) [.mvImm (.d 0) 1, .mvImm (.d 1) 2, .mvImm (.d 2) 3] = some .instructionTimeout
    ∧ faultOf { start id with cur := placeCode [0x00, 0x68] State.reset.cur } [] = some .instructionTimeout := by decide +kernel

/-- V-C1, V-C3, with this model's size of CALL @label, 48 bits. -/
theorem test_call :
    (after (start fun c => withA 15 0x9000 { c with pc := 0x1012, rpc := 0xF00 }) [.callLabel 0x1100 0]).map (fun t => (word t 0x9000, t.cur.a[15], t.cur.rpc, t.cur.pc)) = some (0xF00, 0x9008, 0x1018, 0x1100)
    ∧ (after (start fun c => withA 5 0x2000 <| withA 15 0x9000 { c with pc := 0x1012, rpc := 0xF00 }) [.callReg 5 0]).map (fun t => (word t 0x9000, t.cur.a[15], t.cur.rpc, t.cur.pc)) = some (0xF00, 0x9008, 0x1016, 0x2000) := by decide +kernel

/-- V-C5: the return address is after the whole packet. -/
theorem test_call_beside_move :
    (after (start fun c => withA 15 0x9000 { c with pc := 0x1012, rpc := 0xF00 }) [.callLabel 0x1100 0, .mvImm (.d 0) 1]).map (fun t => (t.cur.rpc, t.cur.d[0], t.cur.pc)) = some (0x101E, 1, 0x1100) := by decide +kernel

/-- V-C2, V-X2. -/
theorem test_ret :
    (after (start fun c => withBytes 0x9000 [0x00, 0x0F, 0, 0] (withA 15 0x9008 { c with pc := 0x1110, rpc := 0x1016 })) [.ret 0]).map (fun t => (t.cur.pc, t.cur.rpc, t.cur.a[15])) = some (0x1016, 0xF00, 0x9000)
    ∧ faultOf (start (withA 15 0x9004)) [.ret 0] = some .stackMisaligned ∧ faultOf (start (withA 15 0x9004)) [.callLabel 0x1100 0] = some .stackMisaligned := by decide +kernel

/-- V-C6 with one delay slot. -/
theorem test_delayed_call :
    (after (start fun c => withA 15 0x9000 { c with pc := 0x1012, rpc := 0xF00 }) [.callLabel 0x1100 1]).map (fun t => (t.cur.pc, t.cur.rpc, t.cur.pending)) = some (0x1018, 0xF00, some ⟨0x1100, 1, .rpc⟩)
    ∧ (after (start fun c => { c with pc := 0x1018, rpc := 0xF00, pending := some ⟨0x1100, 1, .rpc⟩ }) [.mvImm (.d 0) 1]).map (fun t => (t.cur.pc, t.cur.rpc, t.cur.pending, t.cur.d[0])) = some (0x1100, 0x101E, none, 1) := by decide +kernel

/-- R262, R220 item 1. -/
theorem test_slots_count_down :
    (after (start fun c => { c with pending := some ⟨0x1100, 3, .nothing⟩ }) [.nop]).map (fun t => (t.cur.pc, t.cur.pending)) = some (2, some ⟨0x1100, 2, .nothing⟩)
    ∧ refusal (start fun c => { c with pending := some ⟨0x1100, 3, .nothing⟩ }) [.ret 0] = some (.placement 1) := by decide +kernel

/-- V-Q1. -/
theorem test_protected_call :
    (after (startLinks fun c => withA 15 0x9000 { c with pc := 0x10010, rpc := 0x10F00, secsp := c.secsp.set 2 0xA000, ists := { c.ists with currsp := 1, atomic := 7 } }) [.callProtLabel 0x20000]).map (fun t => (word t 0x9000, t.cur.rpc, t.cur.protStack, t.cur.secsp[1], t.cur.a[15])) = some (0x10F00, 0x10016, [⟨1, 1, 0x10016⟩], 0x9008, 0xA000)
    ∧ (after (startLinks fun c => withA 0 0x20000 <| withA 15 0x9000 { c with pc := 0x10010, rpc := 0x10F00, secsp := c.secsp.set 2 0xA000, ists := { c.ists with currsp := 1, atomic := 7 } }) [.callProtReg 0]).map (fun t => (t.cur.dsts.clink, t.cur.ists.atomic, t.cur.ists.currsp, t.cur.expect, t.cur.pc)) = some (1, 0, 2, .entryPair, 0x20000) := by decide +kernel

/-- V-Q2 to V-Q4. -/
theorem test_entry_pair :
    (after (startLinks fun c => { c with pc := 0x20000, expect := .entryPair }) [.entry1Prot, .entry2Prot]).map (fun t => (t.cur.expect, t.cur.pc, t.cur.fault)) = some (.none, 0x20004, none)
    ∧ faultOf (startLinks fun c => { c with pc := 0x20000, expect := .entryPair }) [.mvImm (.d 0) 1] = some .missingEntry ∧ faultOf (startLinks fun c => { c with pc := 0x20000, expect := .entryPair }) [.entry1Prot, .entry2Prot, .nop] = some .missingEntry := by decide +kernel

/-- V-Q5 to V-Q7. -/
theorem test_protected_return :
    (after (startLinks fun c => withBytes 0x9000 [0x00, 0x0F, 1, 0] (withA 15 0xA000 { c with pc := 0x20016, rpc := 0x10014, protStack := [⟨1, 1, 0x10014⟩], secsp := c.secsp.set 1 0x9008, ists := { c.ists with currsp := 2 } })) [.retProt]).map
      (fun t => (t.cur.protStack, t.cur.secsp[2], t.cur.rpc, t.cur.a[15], t.cur.dsts.rlink)) = some ([], 0xA000, 0x10F00, 0x9000, 2)
    ∧ (after (startLinks fun c => { c with pc := 0x10014, expect := .exitMark }) [.exitProt]).map (fun t => (t.cur.expect, t.cur.fault)) = some (.none, none)
    ∧ faultOf (startLinks fun c => { c with pc := 0x10014, expect := .exitMark }) [.mvImm (.d 0) 1] = some .missingExit := by decide +kernel

/-- V-Q11, V-Q13, V-Q9. -/
theorem test_protected_branch :
    (after (startLinks fun c => withA 15 0x9000 { c with pc := 0x10010, rpc := 0x10F00, secsp := c.secsp.set 2 0xA000, ists := { c.ists with currsp := 1, atomic := 7 } }) [.lbProt 0x20000]).map (fun t => (t.cur.rpc, t.cur.protStack, t.cur.secsp[1], t.cur.a[15], t.cur.dsts.clink)) = some (0x10F00, [], 0x9000, 0xA000, 1)
    ∧ refusal (startLinks fun c => { c with pc := 0x10010 }) [.retProt] = some .retProtEmpty
    ∧ faultOf (startLinks fun c => withA 15 0x9000 { c with pc := 0x10010, protStack := List.replicate 4 ⟨1, 1, 0⟩ }) [.callProtLabel 0x20000] = some .protectedCallStackFull := by decide +kernel

/-- V-Q10. -/
theorem test_warning :
    (after { (startLinks fun c => withA 15 0x9000 { c with pc := 0x10010, rpc := 0x10F00, secsp := c.secsp.set 2 0xA000, ists := { c.ists with currsp := 1, atomic := 7 } }) with cur := { ((startLinks fun c => withA 15 0x9000 { c with pc := 0x10010, rpc := 0x10F00, secsp := c.secsp.set 2 0xA000, ists := { c.ists with currsp := 1, atomic := 7 } })).cur with protStack := List.replicate 2 ⟨1, 1, 0⟩, warnPsp := 3 } } [.callProtLabel 0x20000]).map (fun t => (t.cur.protStack.length, t.outputs, t.cur.fault)) = some (3, [.pspWarning], none) := by decide +kernel

/-- V-T1 to V-T5, V-T9. -/
theorem test_atomic :
    (after (start fun c => { c with ists := { c.ists with atomic := 0 } }) [.atomic 2]).map (fun t => t.cur.ists.atomic) = some 2 ∧ (after (start fun c => { c with ists := { c.ists with atomic := 3 } }) [.atomic 5]).map (fun t => t.cur.ists.atomic) = some 0 ∧ (after (start fun c => { c with ists := { c.ists with atomic := 2 } }) [.nop]).map (fun t => t.cur.ists.atomic) = some 1 ∧ (after (start fun c => { c with ists := { c.ists with atomic := 0 } }) [.nop]).map (fun t => t.cur.ists.atomic) = some 0
    ∧ refusal (start id) [.atomic 2, .branch (.label 0x1000) .always 0] = some (.placement 21) := by decide +kernel

/-- V-I1. -/
theorem test_int_entry :
    (stepped { (start fun c => withA 15 0x9000 (withD 0 1 { c with pc := 0x4010, rpc := 0xF00, dsts := { c.dsts with inte := true } })) with inputs := [[.int 0x5000 0x10 false]] }).map (fun t => (word t 0x9000, t.cur.a[15], t.cur.rpc, dstsWord t.cur.dsts, t.cur.pc)) = some (0xF00, 0x9008, 0x4010, 0x00820000, 0x5000)
    ∧ (stepped { (start fun c => withA 15 0x9000 (withD 0 1 { c with pc := 0x4010, rpc := 0xF00, dsts := { c.dsts with inte := true } })) with inputs := [[.int 0x5000 0x10 false]] }).map (fun t => (istsWord t.cur.ists, t.cur.d[0], t.cur.intPending)) = some (1, 1, none) := by decide +kernel

/-- V-I2, R287. -/
theorem test_int_return :
    (after (start fun c => withBytes 0x9000 [0, 0x0F, 0, 0] (withA 15 0x9008 { c with rpc := 0x4010, intSaves := [⟨.main, 0xFF, true⟩], ists := { c.ists with intf := true }, dsts := { c.dsts with ints := .int, prio := 0x10 } })) [.retiInt]).map
      (fun t => (t.cur.pc, t.cur.a[15], t.cur.rpc, t.cur.dsts.prio, t.cur.ists.intf)) = some (0x4010, 0x9000, 0xF00, 0xFF, false)
    ∧ refusal (start id) [.retiInt] = some .retiIntOutside := by decide +kernel

/-- V-I3: held off and latched. -/
theorem test_int_gates :
    (after { (start fun c => withA 15 0x9000 { c with pc := 0x4010, dsts := { c.dsts with inte := true } }) with inputs := [[.int 0x5000 0x10 false]], cur := (start fun c => withA 15 0x9000 { c with pc := 0x4010, dsts := { c.dsts with inte := false } }).cur } [.nop]).map (fun t => (t.cur.pc, t.cur.ists.intf)) = some (0x4012, true)
    ∧ (after { (start fun c => withA 15 0x9000 { c with pc := 0x4010, dsts := { c.dsts with inte := true } }) with inputs := [[.int 0x5000 0x10 false]], cur := (start fun c => withA 15 0x9000 { c with pc := 0x4010, dsts := { c.dsts with inte := true }, ists := { c.ists with atomic := 1 } }).cur } [.nop]).map (fun t => (t.cur.pc, t.cur.ists.intf)) = some (0x4012, true)
    ∧ (after { (start fun c => withA 15 0x9000 { c with pc := 0x4010, dsts := { c.dsts with inte := true } }) with inputs := [[.int 0x5000 0x10 false]], cur := (start fun c => withA 15 0x9000 { c with pc := 0x4010, dsts := { c.dsts with inte := true }, ists := { c.ists with currsp := 2 } }).cur } [.nop]).map (fun t => (t.cur.pc, t.cur.ists.intf)) = some (0x4012, true)
    ∧ (after { (start fun c => withA 15 0x9000 { c with pc := 0x4010, dsts := { c.dsts with inte := true } }) with inputs := [[.int 0x5000 0x10 false]], cur := (start fun c => withA 15 0x9000 { c with pc := 0x4010, dsts := { c.dsts with inte := true, ints := .rtint } }).cur } [.nop]).map (fun t => (t.cur.pc, t.cur.ists.intf)) = some (0x4012, true) := by decide +kernel

/-- V-I7. -/
theorem test_enable_disable :
    (after (start id) [.enint]).map (fun t => dstsWord t.cur.dsts) = some 0x07F90000
    ∧ (after (start fun c => { c with dsts := { c.dsts with inte := true } }) [.disint]).map (fun t => dstsWord t.cur.dsts) = some 0x07F80000 := by decide +kernel

/-- V-I4, entry. -/
theorem test_rtint_entry :
    (stepped { (startLinks fun c => withA 15 0x9000 (withA 4 0x20000000 (withD 0 0x11 (withM 0 0x3F800000 { c with pc := 0x4010, rpc := 0xF00, secsp := c.secsp.set 3 0xB000 })))) with inputs := [[.rtint 0x30000 0x20]] }).map (fun t => (t.cur.secsp[0], t.cur.a[15], t.cur.a[4], t.cur.d[0], t.cur.m[0])) = some (0x9000, 0, 0, 0, 0)
    ∧ (stepped { (startLinks fun c => withA 15 0x9000 (withA 4 0x20000000 (withD 0 0x11 (withM 0 0x3F800000 { c with pc := 0x4010, rpc := 0xF00, secsp := c.secsp.set 3 0xB000 })))) with inputs := [[.rtint 0x30000 0x20]] }).map (fun t => (t.cur.dsts.ints, t.cur.dsts.prio, t.cur.expect, t.cur.ists.currsp, t.cur.pc)) = some (.rtint, 0x20, .isrPair, 3, 0x30000)
    ∧ (stepped { (startLinks fun c => withA 15 0x9000 (withA 4 0x20000000 (withD 0 0x11 (withM 0 0x3F800000 { c with pc := 0x4010, rpc := 0xF00, secsp := c.secsp.set 3 0xB000 })))) with inputs := [[.rtint 0x30000 0x20]] }).map (fun t => (t.cur.ists.rtintf, t.cur.rtStack.map fun f => f.a[15], t.cur.rtStack.map RtFrame.ret)) = some (true, [0x9000], [0x4010]) := by decide +kernel

/-- V-I4, V-I6. -/
theorem test_isr_pair :
    (after (startLinks fun c => { c with pc := 0x30000, expect := .isrPair, secsp := c.secsp.set 3 0xB000, ists := { c.ists with currsp := 3 } }) [.isr1Prot, .isr2Prot]).map (fun t => (t.cur.a[15], t.cur.expect, t.cur.fault)) = some (0xB000, .none, none)
    ∧ (after (startLinks fun c => { c with pc := 0x30000, expect := .isrPair, secsp := c.secsp.set 3 0xB000, ists := { c.ists with currsp := 3 } }) [.isr1Prot, .isr2Prot, .mvImm (.d 0) 1]).map (fun t => t.cur.fault) = some none
    ∧ faultOf (startLinks fun c => { c with pc := 0x30000, expect := .isrPair, secsp := c.secsp.set 3 0xB000, ists := { c.ists with currsp := 3 } }) [.mvImm (.d 0) 1] = some .missingIsrPair := by decide +kernel

/-- A frame of the real-time interrupt stack for code of LINK 0. -/
def frame0 : RtFrame :=
  ⟨Vector.replicate 16 7, Vector.replicate 16 8, Vector.replicate 32 9, 0xF00, Dsts.reset, { Ests.reset with ov := true }, 0x4010⟩

/-- An RTINT handler in LINK 3 about to return. -/
def inHandler : State :=
  startLinks fun c => withA 15 0xB000 { c with
    pc := 0x30010, rtStack := [frame0], ists := { c.ists with currsp := 3, rtintf := true }, dsts := { c.dsts with ints := .rtint, prio := 0x20 } }

/-- V-I4, return. -/
theorem test_rtint_return :
    (after inHandler [.retiRtint]).map (fun t => (t.cur.secsp[3], t.cur.a[15], t.cur.d[0], t.cur.m[31], t.cur.rpc)) = some (0xB000, 7, 8, 9, 0xF00)
    ∧ (after inHandler [.retiRtint]).map (fun t => (dstsWord t.cur.dsts, estsWord t.cur.ests, t.cur.ists.currsp, t.cur.ists.rtintf, t.cur.pc)) = some (0x07F80000, 0x10, 0, false, 0x4010)
    ∧ refusal (start id) [.retiRtint] = some .retiRtintEmpty := by decide +kernel

/-- V-I5 steps 5 and 7. -/
theorem test_nmi_entry :
    (stepped { inHandler with inputs := [[.nmi]], cur := { inHandler.cur with ists := { inHandler.cur.ists with atomic := 9 } } }).map (fun t => (t.cur.rtStack.length, t.cur.dsts.ints, t.cur.ists.atomic, t.cur.ists.nmif, t.cur.pc)) = some (2, .nmi, 0, true, 0)
    ∧ (after { start id with inputs := [[.nmi, .rtint 0 0, .int 0 0 true]], cur := { State.reset.cur with dsts := { Dsts.reset with ints := .nmi } } } [.nop]).map (fun t => (t.cur.pc, t.cur.nmiPending, istsWord t.cur.ists)) = some (2, true, 7) := by decide +kernel

/-- V-X9. -/
theorem test_rtint_stack_full :
    (stepped { (start id) with inputs := [[.rtint 0x100 0]], cfg := { Params.default with maxRtisp := 1 } }).map (fun t => t.cur.fault) = some (some .rtintStackFull)
    ∧ (stepped { (start id) with inputs := [[.rtint 0x100 0]], cfg := { Params.default with maxRtisp := 1, rtispMaxOutcome := .raiseNmi } }).map (fun t => (t.cur.fault, t.cur.nmiPending)) = some (none, true)
    ∧ (stepped { (start id) with inputs := [[.nmi]], cfg := { Params.default with maxRtisp := 1 } }).map (fun t => t.cur.fault) = some none := by decide +kernel

/-- V-X3, V-X4, V-X10. -/
theorem test_cross_faults :
    faultOf (startLinks fun c => withA 15 0x9000 { c with pc := 0x10010 }) [.callLabel 0x20000 0] = some .crossStackTransfer
    ∧ faultOf (startLinks fun c => { c with pc := 0x10010 }) [.branch (.label 0x20000) .always 0] = some .crossStackTransfer
    ∧ faultOf (startLinks fun c => withBytes 0x20000 [0x00, 0x61] { c with pc := 0x1FFFE }) [.nop] = some .linearLinkCrossing
    ∧ (stepped { (startLinks fun c => { c with dsts := { c.dsts with inte := true } }) with inputs := [[.int 0x10000 0 false]] }).map (fun t => t.cur.fault) = some (some .intWrongStack) := by decide +kernel

/-- A configuration that permits no access to page 0x20000. -/
def closedPage : Params :=
  { Params.default with ap := [⟨0, 0x1FFFF, 0xFFFF, 0xFFFF, false, 0⟩, ⟨0x20000, 0x20000, 0, 0, false, 0⟩] }

/-- V-X11, V-X13. -/
theorem test_protection :
    faultOf { start (withA 2 0x20000000) with cfg := closedPage } [.st32Addr1 (.off 2 0) (.d 0)] = some .protectionViolation
    ∧ faultOf { start (withA 2 0x20000000) with cfg := closedPage } [.ld32Addr1 (.d 0) (.off 2 0)] = some .protectionViolation
    ∧ (stepped { start id with inputs := [[.eccDoubleBit]], cur := placeCode (encodeBytes .nop) State.reset.cur }).map (fun t => t.cur.fault) = some (some .eccDoubleBit) := by decide +kernel

/-- R295. -/
theorem test_idle :
    (after (start id) [.idle]).map (fun t => t.cur.idle) = some true
    ∧ (stepped { start id with cur := { State.reset.cur with idle := true }, inputs := [[.rtint 0x100 0]] }).map (fun t => (t.cur.idle, t.cur.pc)) = some (false, 0x100)
    ∧ (stepped { start id with cur := { State.reset.cur with idle := true, pc := 0x50 } }).map (fun t => (t.cur.idle, t.cur.pc)) = some (true, 0x50) := by decide +kernel

/-- R296. -/
theorem test_emustop0 :
    (after (start id) [.emustop0]).map (fun t => (t.cur.pc, t.dbg.mode)) = some (2, .run)
    ∧ (after { start id with dbg := ⟨true, .run, false⟩ } [.emustop0, .mvImm (.d 0) 1]).map (fun t => (t.cur.pc, t.cur.d[0], t.dbg.mode)) = some (0, 0, .halt) := by decide +kernel

/-- R301, R308. -/
theorem test_ldRpc :
    (after (start (withBytes 0x9000 [1, 2, 3, 4])) [.ldRpc 0x9000]).map (fun t => t.cur.rpc) = some 0x04030201
    ∧ (after (start id) [.nop]).map (fun t => (t.cur.pc, t.cur.fault)) = some (2, none) := by decide +kernel

/-- V-Q13, R270, R424. -/
theorem test_refused_without_semantics :
    refusal (start id) [.preserve] = some (.placement 5) ∧ refusal (start id) [.xc] = some (.noSemantics "XC")
    ∧ refusal (start id) [.add32Addr1 (.off 1 0)] = some (.noSemantics "ADD.32_ADDR1") := by decide +kernel

/-- R600, R500. -/
theorem test_reset_event :
    (stepped { start (fun c => withA 3 5 { c with fault := some .eccDoubleBit, pc := 0x44 }) with inputs := [[.reset]] }).map (fun t => (t.cur.a[3], t.cur.fault, t.cur.pc, dstsWord t.cur.dsts)) = some (0, none, 0, 0x07F80000)
    ∧ (stepped { start (fun c => withA 3 5 { c with fault := some .eccDoubleBit, pc := 0x44 }) with inputs := [[.nmi]] }).map (fun t => (t.cur.a[3], t.cur.fault, t.cur.pc)) = some (5, some .eccDoubleBit, 0x44) := by decide +kernel

/-- R600: the four free bytes of a CALL that a reset cuts short are not drawn again, and neither is the bit that says whether they are in memory;
a CPU in FAULT has no packet in flight. -/
theorem test_reset_draws :
    (stepped { start (fun c => placeCode (encodeBytes (.callLabel 0x1100 0)) (withA 15 0x9000 c)) with inputs := [[.reset]] }).map (fun t => (t.free, t.cur.a[15])) = some (5, 0)
    ∧ (stepped { start (fun c => placeCode (encodeBytes (.callLabel 0x1100 0)) { withA 15 0x9000 c with fault := some .addressingFault }) with inputs := [[.reset]] }).map (fun t => t.free) = some 1 := by decide +kernel

/-- An instruction placed by withFetchWord is the one the next step runs, I_Link 0 or 1. -/
theorem test_table_word_runs :
    decodeTableWord 16 0x6100 = some .nop ∧ (stepped (State.reset.withFetchWord 16 0x6100)).map (fun t => t.cur.pc) = some 2 
    ∧ (stepped (State.reset.withFetchWord 32 0x0042A812)).map (fun t => t.cur.pc) = some 4 := by decide +kernel

/-- A page above the stack that is closed to stores. -/
def closedStack : Params := { Params.default with ap := [⟨0, 9, 0xFFFF, 0xFFFF, false, 0⟩, ⟨10, 0xFFFFF, 0xFFFF, 0, false, 0⟩] }

/-- Nothing but a peripheral region. -/
def onlyDevice : Params := { Params.default with map := [⟨0, 0xFFFFF, .peripheral⟩] }

/-- R582 to R584, R295. -/
theorem test_debugger :
    (fun t => (t.cur.a[3], t.cur.pc, newByte t 0x9000 0)) (busWrite 0x9000 5 (dbgWriteReg .pc 0x2001 (dbgWriteReg .pc 0x2000 (dbgWriteReg (.reg (.a 3)) 7 (start id)))))
      = (7, 0x2000, 5)
    ∧ (stepped { start (withA 3 7) with dbg := ⟨true, .halt, false⟩, inputs := [[.reset]] }).map (fun t => (t.cur.a[3], t.dbg.mode)) = some (7, .halt)
    ∧ (after { start id with dbg := ⟨true, .singleStep false, false⟩ } [.idle]).map (fun t => (t.cur.idle, t.cur.pc, t.dbg.mode)) = some (false, 2, .halt)
    ∧ (after { start (fun c => { c with nmiPending := true }) with dbg := ⟨true, .run, false⟩ } [.emustop0]).map (fun t => (t.cur.pc, t.cur.nmiPending, t.dbg.mode)) = some (0, true, .halt) := by decide +kernel

/-- R105, R500, R503, R600. -/
theorem test_fault_wins_over_debugger :
    (after { start id with dbg := ⟨true, .run, false⟩, inputs := [[.eccDoubleBit]] } [.emustop0]).map (fun t => (t.cur.fault, t.dbg.mode)) = some (some .eccDoubleBit, .run)
    ∧ (stepped { start (fun c => { c with fault := some .addressingFault }) with dbg := ⟨true, .singleStep false, false⟩, inputs := [[.reset]] }).map (fun t => t.cur.fault) = some none
    ∧ (after { start (withA 2 1) with dbg := ⟨true, .singleStep false, false⟩ } [.ld32Addr1 (.d 0) (.off 2 0)]).map (fun t => (t.cur.fault, t.dbg.mode)) = some (some .addressingFault, .singleStep false) := by decide +kernel

/-- R602. -/
theorem test_configuration_refused :
    refusal { start id with cfg := { Params.default with stackOf := Vector.replicate 16 1 } } [.nop] = some .configuration
    ∧ refusal { start id with cfg := { Params.default with resetPc := 1 } } [.nop] = some .configuration := by decide +kernel

/-- R516: decodability before linear crossing. -/
theorem test_crossing_into_garbage :
    (stepped { startLinks (fun c => withBytes 0x1FFFE [0x00, 0x61] (withBytes 0x20000 [0x00, 0x68] { c with pc := 0x1FFFE })) with pre := State.reset.cur }).map (fun t => t.cur.fault) = some (some .instructionTimeout) := by decide +kernel

/-- R160, R166: an INT frame that runs into a closed or an unmapped page. -/
theorem test_frame_checks :
    (after { startLinks (withA 15 0x9FF8) with cfg := { closedStack with intFrameBytes := 16 }, inputs := [[.int 0x5000 0 true]] } [.nop]).map (fun t => t.cur.fault) = some (some .protectionViolation)
    ∧ (after { start (withA 15 0x9FF8) with cfg := { closedStack with map := [⟨0, 9, .ram⟩], intFrameBytes := 16, ap := Params.default.ap }, inputs := [[.int 0x5000 0 true]] } [.nop]).isNone = true := by decide +kernel

/-- R152: a store to a peripheral counts. -/
theorem test_stored_code :
    refusal (start fun c => { c with stored := [1] }) [.nop] = none
    ∧ (after { start id with cfg := onlyDevice } [.st8Addr1 (.off 0 2) 0]).map (fun t => (t.cur.stored, t.outputs)) = some ([2], [.deviceWrite 2 1 0]) := by decide +kernel

/-- R517, R546. -/
theorem test_warnings :
    (stepped { start (fun c => { c with warnRtisp := 1 }) with inputs := [[.nmi]] }).map (fun t => t.outputs) = some [.rtispWarning]
    ∧ (stepped { start (fun c => { c with warnRtisp := 2 }) with inputs := [[.nmi]] }).map (fun t => t.outputs) = some []
    ∧ (stepped { start (fun c => { c with rtStack := List.replicate 7 frame0 }) with inputs := [[.rtint 0x100 0]], cfg := { Params.default with rtispMaxOutcome := .raiseNmi } }).map (fun t => t.cur.fault) = some (some .rtintStackFull) := by decide +kernel

/-- R260, R262. -/
theorem test_delayed_returns :
    (after inHandler [.retiRtintD 2]).map (fun t => (t.cur.fault, t.cur.pending, t.cur.a[15], t.cur.d[0])) = some (none, some ⟨0x4010, 2, .currsp 0⟩, 7, 8)
    ∧ (after (start fun c => withA 15 0x9008 { c with rpc := 0x4010, intSaves := [⟨.main, 0xFF, true⟩], dsts := { c.dsts with ints := .int } }) [.retiIntD 3]).map
      (fun t => (t.cur.pc, t.cur.pending, t.cur.a[15], t.cur.dsts.ints)) = some (2, some ⟨0x4010, 3, .nothing⟩, 0x9000, .main) := by decide +kernel

/-- R55, log entry 75. -/
theorem test_reti_int_to_another_stack :
    faultOf (startLinks fun c => withA 15 0x9008 { c with rpc := 0x10000, intSaves := [⟨.main, 0xFF, true⟩], dsts := { c.dsts with ints := .int } }) [.retiInt] = some .crossStackTransfer := by decide +kernel

/-- R55, R260, log entry 71. -/
theorem test_delayed_realtime_return :
    (after (startLinks fun c => { c with rtStack := [frameOf { c with pc := 0x10010 }], dsts := { c.dsts with ints := .rtint } }) [.retiRtintD 1]).map
      (fun t => (t.cur.ists.currsp, t.cur.pending)) = some (0, some ⟨0x10010, 1, .currsp 1⟩)
    ∧ (after (startLinks fun c => { c with pending := some ⟨0x10010, 1, .currsp 1⟩ }) [.nop]).map (fun t => (t.cur.pc, t.cur.ists.currsp, t.cur.pending)) = some (0x10010, 1, none) := by decide +kernel

/-- R177, R18. -/
theorem test_two_branches_one_goes :
    (after (start id) [.branch (.label 0x2000) .always 0, .bcmpz 0x3000 (.rel .neq) 0 0]).map (fun t => t.cur.pc) = some 0x2000
    ∧ refusal (start id) [.branch (.label 0x2000) .always 0, .bcmpz 0x3000 (.rel .eq) 0 0] = some .doubleWrite := by decide +kernel

/-- An INT handler about to return, where RETI.INT leaves INTE. -/
def keepsInte : State :=
  { start fun c => withA 15 0x9008 { c with rpc := 0x2000, intSaves := [⟨.main, 0xFF, true⟩], dsts := { c.dsts with ints := .int } } with
    cfg := { Params.default with retiIntRestoresInte := some false } }

/-- R177, R73, log entry 76. -/
theorem test_ests_beside_sticky :
    (after (start fun c => withD 0 10 (withD 1 3 (withD 5 0x1010 c))) [.statusOp (.ofReg .ests (.d 5)), .addReg .d 2 1 0]).map (fun t => (t.cur.d[2], estsWord t.cur.ests)) = some (13, 0x1010)
    ∧ (after (start fun c => withD 0 0x7FFFFFFF (withD 1 1 (withD 5 0x1001 c))) [.addReg .d 2 1 0, .statusOp (.ofReg .ests (.d 5))]).map (fun t => (t.cur.d[2], t.cur.ests.flags.z, t.cur.ests.tdm)) = some (0x80000000, true, 1)
    ∧ (after (start (withD 5 0x2008)) [.statusOp (.ofReg .ests (.d 5)), .smpyf 4 0 1]).map (fun t => (t.cur.ests.flags.zv, t.cur.ests.tdm, t.cur.ests.ov)) = some (true, 2, false) := by decide +kernel

/-- R177, R249, R287. -/
theorem test_spared_writes :
    (after (start (withA 15 0x9000)) [.lbProt 0x2000, .addU16 15 15 32]).map (fun t => (t.cur.a[15], t.cur.pc)) = some (0x9020, 0x2000)
    ∧ refusal (startLinks fun c => { c with pc := 0x10010 }) [.lbProt 0x20000, .addU16 15 15 32] = some .doubleWrite
    ∧ (after keepsInte [.enint, .retiInt]).map (fun t => (t.cur.dsts.inte, t.cur.dsts.ints)) = some (true, .main)
    ∧ refusal (start id) [.enint, .retiInt] = some .doubleWrite := by decide +kernel

/-! ### For each statement with hypotheses, a state and operands that meet them -/

/-- A load is in order in RAM. -/
theorem readOk_ram (a : Word) (n : Nat) (s : State)
    (h : (a.toNat % n = 0 ∧ apAllows s.cfg false s.pre.ists.currlink s.pre.dsts.clink a = true) ∧ regionOf s.cfg a = some .ram) :
    readOk a n s := ⟨h.1.1, h.1.2, .ram, h.2, by decide⟩

/-- A store is in order in RAM. -/
theorem writeOk_ram (a : Word) (n : Nat) (s : State)
    (h : (a.toNat % n = 0 ∧ apAllows s.cfg true s.pre.ists.currlink s.pre.dsts.clink a = true) ∧ regionOf s.cfg a = some .ram) :
    writeOk a n s := ⟨h.1.1, h.1.2, .inl h.2⟩

/-- A step that `stepped` sees answers a next state. -/
theorem next_of_stepped (s : State) (h : (stepped s).isSome = true) : ∃ t, step s = .next t := by
  unfold stepped at h
  cases hs : step s with
  | next t => exact ⟨t, rfl⟩
  | fault r => rw [hs] at h; cases h
  | refused r => rw [hs] at h; cases h

/-- An outcome that is a refusal by that name. -/
theorem refused_of {α : Type} {o : Res α} {r : Refusal} (h : (match o with | .refused q => some q | _ => none) = some r) : o = .refused r := by
  cases o with
  | next w => cases h
  | fault q => cases h
  | refused q => cases h; rfl

/-- The next state of an outcome. -/
def asSome {α : Type} (o : Res α) : Option α :=
  match o with
  | .next v => some v
  | .fault _ => none
  | .refused _ => none

/-- An outcome that `asSome` sees is a next state. -/
theorem next_of_asSome {α : Type} {o : Res α} {v : α} (h : asSome o = some v) : o = .next v := by
  cases o with
  | next w => cases h; rfl
  | fault r => cases h
  | refused r => cases h

/-- What holds of the one value holds of every value. -/
theorem forall_some {α : Type} {o : Option α} {P : α → Prop} (x : α) (h : o = some x) (hx : P x) : ∀ p, o = some p → P p := by
  intro p hp
  rw [h] at hp
  cases hp
  exact hx

/-- A target that is even and on the packet's STACK. -/
theorem transferOk_of (target : Word) (s : State) (l : LinkId)
    (h : (target.toNat % 2 = 0 ∧ linkOf s.cfg target = some l) ∧ stackOf s.cfg l = stackOf s.cfg s.pre.ists.currlink) :
    transferOk target s := ⟨h.1.1, forall_some l h.1.2 h.2⟩

/-- A step of a running CPU executes the packet placed. -/
theorem runsPacket_of (is : List Instr) (fin : Nat) (s : State)
    (h : (s.cfg.wf = true ∧ s.inputs = [] ∧ s.cur.fault = none ∧ s.dbg.mode = .run ∧ s.dbg.haltPending = false)
      ∧ (choose s.cur = .packet ∧ s.cur.idle = false ∧ s.cur.pc.toNat % 2 = 0)
      ∧ packetRefusal is (openStep s) = none ∧ missingMarker s.cur.expect is = none)
    (hf : asSome (formPacket 8 s.cur.pc.toNat 0 (openStep s)) = some (.packet is fin)) : runsPacket is fin s :=
  ⟨h.1, h.2.1.1, h.2.1.2.1, h.2.1.2.2, next_of_asSome hf, h.2.2⟩

/-- A packet at address 0x1000 of a CPU in another state. -/
def atCode (is : List Instr) (f : Arch → Arch) : State := start fun c => placeCode (packetBytes is) { f c with pc := 0x1000 }

/-- A store placed at the program counter, a delay slot under way, the protected call stack full. -/
def busy : State :=
  let s := start (withA 2 0x20000000)
  let c := placeCode (encodeBytes (.st32Addr1 (.off 2 0) (.d 0)))
    { s.cur with pc := 0x1000, pending := some ⟨0x1100, 1, .nothing⟩, protStack := List.replicate 16 ⟨1, 1, 0⟩ }
  { s with cur := c, pre := c }

/-- A state whose pointers reach the last words of memory: A2 = 0xFFFFFFF8, A3 = 0xFFFFFFFC, A4 = 0. -/
def edges : State := start fun c => withA 2 0xFFFFFFF8 (withA 3 0xFFFFFFFC (withA 15 0xFFFFFFF8 c))

/-- `edges` with a stack pointer inside memory and a return address. -/
def calling : State := start fun c => withA 15 0x9008 (withA 5 0x2000 { c with rpc := 0x1016 })

/-- O1 at boundary operands. -/
theorem witness_DecodeAfterEncode :
    Instr.wf (.ld32Addr1 (.m 31) (.offPost 14 127 3)) = true ∧ Instr.wf (.st64Addr1 (.preDec 15 0) (.xa 7)) = true
    ∧ Instr.wf (.mv32Addr3 ⟨14, 255⟩ ⟨0, 0⟩) = true ∧ Instr.wf (.retAddr1 (.spNeg 0x1FFF) 7) = true :=
  by decide +kernel

/-- O3: I_Link set and clear, the short and the long form. -/
theorem witness_DecodingDropsNoBit :
    (0 : Nat) < 65536 ∧ (65535 : Nat) < 65536 ∧ (31 : Nat) < 32
    ∧ (decodeWords 0xC03F 0 0).toOption = some (.addImm .a 0 0 63) ∧ (decodeWords 0xA4FF 0xFFFF 0).toOption = some (.addImm .a 15 15 0xFFFF)
    ∧ (decodeWords 0x2400 63 0).toOption = some (.addImm .a 0 0 63) ∧ sizeWords 0x2400 = 2 ∧ (decodeWords 0x8000 0xFFFF 0xFFFF).toOption = some (.ld32Dirm (.a 0) 0xFFFFFFFF) :=
  by decide +kernel

/-- O3, the least unused number of each group. -/
theorem witness_DecodingDropsNoBit_unused :
    (sizeWords 0x6800 = 1 ∧ fld 0x6800 11 3 = 5) ∧ (sizeWords 0x6180 = 1 ∧ fld 0x6180 11 3 = 4 ∧ fld 0x6180 6 5 = 6)
    ∧ (fld 0x6111 11 3 = 4 ∧ fld 0x6111 6 5 = 4 ∧ fld 0x6111 0 6 = 17)
    ∧ (sizeWords 0x2300 = 2 ∧ fld 0x2300 8 5 = 3) ∧ (sizeWords 0x3440 = 2 ∧ fld 0x3440 6 7 = 81) ∧ (fld 0x2D15 6 7 = 52 ∧ fld 0x2D15 0 6 = 21) ∧ (fld 0x3388 6 7 = 78 ∧ fld 0x3388 0 6 = 8)
    ∧ (sizeWords 0x0C80 = 3 ∧ fld 0x0C80 7 6 = 25) ∧ fld 0x1380 7 6 = 39 ∧ (fld 0x0C13 7 6 = 24 ∧ fld 0x0C13 0 7 = 19) :=
  by decide +kernel

/-- O4, O6, O8: one step that stores, ends a delay slot, with the protected call stack full. -/
theorem witness_invariants_kept :
    (busy.cur.mem.wf = true ∧ busy.cur.protStack.length = busy.cfg.maxPsp)
    ∧ (busy.cur.pc.toNat % 2 = 0 ∧ (∀ p, busy.cur.pending = some p → p.target.toNat % 2 = 0) ∧ busy.cfg.resetPc.toNat % 2 = 0)
    ∧ ∃ t, step busy = .next t :=
  ⟨by decide +kernel, ⟨by decide +kernel, forall_some ⟨0x1100, 1, .nothing⟩ (by decide +kernel) (by decide), by decide⟩,
    next_of_stepped busy (by decide +kernel)⟩

/-- An NMI handler above the greatest RTISP. -/
def fullStacks : State :=
  atCode [.nop] fun c => { c with rtStack := List.replicate 8 frame0, protStack := List.replicate 16 ⟨1, 1, 0⟩, dsts := { c.dsts with ints := .nmi } }

/-- O7 at both limits. -/
theorem witness_StepKeepsHardwareStacksWithinLimits :
    (fullStacks.cur.protStack.length ≤ fullStacks.cfg.maxPsp ∧ fullStacks.cur.rtStack.length ≤ fullStacks.cfg.maxRtisp + 1)
    ∧ (∀ f ∈ fullStacks.cur.rtStack, f.dsts.ints ≠ .nmi)
    ∧ (fullStacks.cur.fault = none ∧ fullStacks.cur.rtStack.length = fullStacks.cfg.maxRtisp + 1 ∧ fullStacks.cur.dsts.ints = .nmi)
    ∧ ∃ t, step fullStacks = .next t :=
  ⟨by decide +kernel, by decide +kernel, by decide +kernel, next_of_stepped _ (by decide +kernel)⟩

/-- RAM, a peripheral region, ROM and FLASH, 256 MB each. -/
def devices : Params :=
  { Params.default with map := [⟨0, 0xFFFF, .ram⟩, ⟨0x10000, 0x1FFFF, .peripheral⟩, ⟨0x20000, 0x2FFFF, .rom⟩, ⟨0x30000, 0x3FFFF, .flash⟩] }

/-- Code that uses peripherals, with a pointer to the last word of one. -/
def onDevice (is : List Instr) : State := { atCode is (withA 2 0x1FFFFFFC) with cfg := devices }

/-- O9. -/
theorem witness_PacketReadsOldState_swap :
    staysInLink 0x1008 (atCode [.mvReg (.word (.d 0) (.a 7)), .mvReg (.word (.a 7) (.d 0))] id)
    ∧ runsPacket [.mvReg (.word (.d 0) (.a 7)), .mvReg (.word (.a 7) (.d 0))] 0x1008 (atCode [.mvReg (.word (.d 0) (.a 7)), .mvReg (.word (.a 7) (.d 0))] id)
    ∧ (atCode [.mvReg (.word (.d 0) (.a 7)), .mvReg (.word (.a 7) (.d 0))] id).cur.pending = none :=
  ⟨by unfold staysInLink; decide +kernel,
    runsPacket_of _ _ _ (by decide +kernel) (by decide +kernel),
    by decide +kernel⟩

/-- O9. -/
theorem witness_PacketReadsOldState_load_store :
    staysInLink 0x100C (atCode [.st32Dirm 0x20000000 (.d 0), .ld32Dirm (.d 1) 0x20000000] id)
    ∧ runsPacket [.st32Dirm 0x20000000 (.d 0), .ld32Dirm (.d 1) 0x20000000] 0x100C (atCode [.st32Dirm 0x20000000 (.d 0), .ld32Dirm (.d 1) 0x20000000] id)
    ∧ (atCode [.st32Dirm 0x20000000 (.d 0), .ld32Dirm (.d 1) 0x20000000] id).cur.pending = none
    ∧ readOk 0x20000000 4 (openStep (atCode [.st32Dirm 0x20000000 (.d 0), .ld32Dirm (.d 1) 0x20000000] id))
    ∧ writeOk 0x20000000 4 (openStep (atCode [.st32Dirm 0x20000000 (.d 0), .ld32Dirm (.d 1) 0x20000000] id)) :=
  ⟨by unfold staysInLink; decide +kernel,
    runsPacket_of _ _ _ (by decide +kernel) (by decide +kernel),
    by decide +kernel,
    readOk_ram _ _ _ (by decide +kernel),
    writeOk_ram _ _ _ (by decide +kernel)⟩

/-- O9. -/
theorem witness_PacketReadsOldState_devices :
    staysInLink 0x100C (onDevice [.st32Dirm 0x10000000 (.d 0), .ld32Dirm (.d 1) 0x1FFFFFFC])
    ∧ runsPacket [.st32Dirm 0x10000000 (.d 0), .ld32Dirm (.d 1) 0x1FFFFFFC] 0x100C (onDevice [.st32Dirm 0x10000000 (.d 0), .ld32Dirm (.d 1) 0x1FFFFFFC])
    ∧ (onDevice [.st32Dirm 0x10000000 (.d 0), .ld32Dirm (.d 1) 0x1FFFFFFC]).cur.pending = none
    ∧ (regionOf (onDevice [.st32Dirm 0x10000000 (.d 0), .ld32Dirm (.d 1) 0x1FFFFFFC]).cfg 0x10000000 = some .peripheral ∧ regionOf (onDevice [.st32Dirm 0x10000000 (.d 0), .ld32Dirm (.d 1) 0x1FFFFFFC]).cfg 0x1FFFFFFC = some .peripheral)
    ∧ (apAllows (onDevice [.st32Dirm 0x10000000 (.d 0), .ld32Dirm (.d 1) 0x1FFFFFFC]).cfg true (currLink (onDevice [.st32Dirm 0x10000000 (.d 0), .ld32Dirm (.d 1) 0x1FFFFFFC])) (onDevice [.st32Dirm 0x10000000 (.d 0), .ld32Dirm (.d 1) 0x1FFFFFFC]).cur.dsts.clink 0x10000000 = true ∧ apAllows (onDevice [.st32Dirm 0x10000000 (.d 0), .ld32Dirm (.d 1) 0x1FFFFFFC]).cfg false (currLink (onDevice [.st32Dirm 0x10000000 (.d 0), .ld32Dirm (.d 1) 0x1FFFFFFC])) (onDevice [.st32Dirm 0x10000000 (.d 0), .ld32Dirm (.d 1) 0x1FFFFFFC]).cur.dsts.clink 0x1FFFFFFC = true) :=
  ⟨by unfold staysInLink; decide +kernel,
    runsPacket_of _ _ _ (by decide +kernel) (by decide +kernel),
    by decide +kernel,
    by decide +kernel,
    by decide +kernel⟩

/-- O9, the last three packets. -/
theorem witness_PacketReadsOldState_status_and_protected :
    (staysInLink 0x1008 (atCode [.statusOp (.ofReg .ests (.d 5)), .smpyf 4 0 1] id) ∧ (atCode [.statusOp (.ofReg .ests (.d 5)), .smpyf 4 0 1] id).cur.pending = none)
    ∧ runsPacket [.statusOp (.ofReg .ests (.d 5)), .smpyf 4 0 1] 0x1008 (atCode [.statusOp (.ofReg .ests (.d 5)), .smpyf 4 0 1] id)
    ∧ (staysInLink 0x1008 (atCode [.addReg .d 2 1 0, .statusOp (.ofReg .ests (.d 5))] id) ∧ (atCode [.addReg .d 2 1 0, .statusOp (.ofReg .ests (.d 5))] id).cur.pending = none)
    ∧ runsPacket [.addReg .d 2 1 0, .statusOp (.ofReg .ests (.d 5))] 0x1008 (atCode [.addReg .d 2 1 0, .statusOp (.ofReg .ests (.d 5))] id)
    ∧ (staysInLink 0x100A (atCode [.lbProt 0x2000, .addU16 15 15 32] id) ∧ (atCode [.lbProt 0x2000, .addU16 15 15 32] id).cur.pending = none)
    ∧ runsPacket [.lbProt 0x2000, .addU16 15 15 32] 0x100A (atCode [.lbProt 0x2000, .addU16 15 15 32] id)
    ∧ (-2147483648 ≤ (atCode [.addReg .d 2 1 0, .statusOp (.ofReg .ests (.d 5))] id).cur.d[(1 : Fin 16)].toInt + (atCode [.addReg .d 2 1 0, .statusOp (.ofReg .ests (.d 5))] id).cur.d[(0 : Fin 16)].toInt ∧ (atCode [.addReg .d 2 1 0, .statusOp (.ofReg .ests (.d 5))] id).cur.d[(1 : Fin 16)].toInt + (atCode [.addReg .d 2 1 0, .statusOp (.ofReg .ests (.d 5))] id).cur.d[(0 : Fin 16)].toInt < 2147483648)
    ∧ (linkOf (atCode [.lbProt 0x2000, .addU16 15 15 32] id).cfg 0x2000 = some 0 ∧ stackOf (atCode [.lbProt 0x2000, .addU16 15 15 32] id).cfg 0 = stackOf (atCode [.lbProt 0x2000, .addU16 15 15 32] id).cfg (currLink (atCode [.lbProt 0x2000, .addU16 15 15 32] id))) :=
  ⟨⟨by unfold staysInLink; decide +kernel, by decide +kernel⟩,
    runsPacket_of _ _ _ (by decide +kernel) (by decide +kernel),
    ⟨by unfold staysInLink; decide +kernel, by decide +kernel⟩,
    runsPacket_of _ _ _ (by decide +kernel) (by decide +kernel),
    ⟨by unfold staysInLink; decide +kernel, by decide +kernel⟩,
    runsPacket_of _ _ _ (by decide +kernel) (by decide +kernel),
    by decide +kernel,
    by decide +kernel⟩

/-- In the FAULT state, the reset line asserted. -/
def faulted (es : List Event) : State := { start fun c => { c with fault := some .addressingFault } with inputs := [es] }

/-- O10, in the FAULT state and with a store in flight. -/
theorem witness_ResetFromAnyState :
    ((faulted [.reset]).cfg.wf = true ∧ Event.reset ∈ nextBatch (faulted [.reset]) ∧ resetHonoured (deliver (faulted [.reset])) = true)
    ∧ (busy.cfg.wf = true ∧ Event.reset ∈ nextBatch { busy with inputs := [[.nmi, .reset]] } ∧ resetHonoured (deliver { busy with inputs := [[.nmi, .reset]] }) = true) :=
  by decide +kernel

/-- O11. -/
theorem witness_FaultStateIsTerminal :
    (faulted [.nmi]).cfg.wf = true ∧ (faulted [.nmi]).cur.fault ≠ none ∧ Event.reset ∉ nextBatch (faulted [.nmi]) :=
  by decide +kernel

/-- O14 at the top of memory. -/
theorem witness_MemoryIsLittleEndian :
    ((8 : Nat) ≤ 8 ∧ 4294967288 + 8 ≤ 4294967296 ∧ (7 : Nat) < 8)
    ∧ (4294967287 < 4294967296 ∧ 4294967287 < 4294967288) ∧ (0 : Nat) < 4294967296 ∧ 4 + 4 ≤ 8 :=
  by decide +kernel

/-- O15, O28: the least and the greatest offset, the widest access. -/
theorem witness_Addr1Modes_Addr2Addr3AndDirectModes :
    (1 ≤ 1 ∧ 256 ≤ 256) ∧ (1 ≤ 8192 ∧ 8192 ≤ 8192) ∧ 3 < 4 :=
  by decide +kernel

/-- O16, O17 through ADDR1: the last word of memory. -/
theorem witness_loads_addr1 :
    (Reg.d 0 ∉ sideRegs (evalAddr1 (.postInc 3 4) edges))
    ∧ readOk ((evalAddr1 (.postInc 3 4) edges).addr) 1 edges
    ∧ readOk ((evalAddr1 (.postInc 3 4) edges).addr) 2 edges
    ∧ readOk ((evalAddr1 (.postInc 3 4) edges).addr) 4 edges :=
  ⟨by decide +kernel,
    readOk_ram _ _ _ (by decide +kernel),
    readOk_ram _ _ _ (by decide +kernel),
    readOk_ram _ _ _ (by decide +kernel)⟩

/-- O16, O17 through a direct address. -/
theorem witness_loads_direct :
    readOk (0xFFFFFFFC) 4 edges
    ∧ readOk (0xFFFFFFFE) 2 edges
    ∧ readOk (0xFFFFFFFF) 1 edges
    ∧ readOk (0) 4 edges :=
  ⟨readOk_ram _ _ _ (by decide +kernel),
    readOk_ram _ _ _ (by decide +kernel),
    readOk_ram _ _ _ (by decide +kernel),
    readOk_ram _ _ _ (by decide +kernel)⟩

/-- O16, O17 through @(Ax+#imm), the last with a wrap. -/
theorem witness_loads_indexed :
    readOk (edges.pre.a[(3 : Fin 16)] + (0 : BitVec 28).setWidth 32) 1 edges
    ∧ readOk (edges.pre.a[(3 : Fin 16)] + (0 : BitVec 28).setWidth 32) 2 edges
    ∧ readOk (edges.pre.a[(3 : Fin 16)] + (0 : BitVec 28).setWidth 32) 4 edges
    ∧ readOk (edges.pre.a[(2 : Fin 16)] + (0x0FFFFFF8 : BitVec 28).setWidth 32) 4 edges :=
  ⟨readOk_ram _ _ _ (by decide +kernel),
    readOk_ram _ _ _ (by decide +kernel),
    readOk_ram _ _ _ (by decide +kernel),
    readOk_ram _ _ _ (by decide +kernel)⟩

/-- O16 through ADDR2: A4 is 0, so the address wraps to the top. -/
theorem witness_loads_addr2 :
    (Reg.d 0 ∉ sideRegs (evalAddr2 (.preDec 0) 4 edges))
    ∧ readOk ((evalAddr2 (.preDec 0) 4 edges).addr) 4 edges :=
  ⟨by decide +kernel,
    readOk_ram _ _ _ (by decide +kernel)⟩

/-- O18. -/
theorem witness_PairTransfers64 :
    ((lowReg (.xd 0) ∉ sideRegs (evalAddr1 (.postInc 2 8) edges)) ∧ (highReg (.xd 0) ∉ sideRegs (evalAddr1 (.postInc 2 8) edges)))
    ∧ readOk ((evalAddr1 (.postInc 2 8) edges).addr) 8 edges
    ∧ ((lowReg (.xd 0) ∉ sideRegs (evalAddr2 (.preDec 0) 8 edges)) ∧ (highReg (.xd 0) ∉ sideRegs (evalAddr2 (.preDec 0) 8 edges)))
    ∧ readOk ((evalAddr2 (.preDec 0) 8 edges).addr) 8 edges
    ∧ readOk (0xFFFFFFF8) 8 edges
    ∧ readOk (edges.pre.a[(2 : Fin 16)] + (0 : BitVec 28).setWidth 32) 8 edges :=
  ⟨by decide +kernel,
    readOk_ram _ _ _ (by decide +kernel),
    by decide +kernel,
    readOk_ram _ _ _ (by decide +kernel),
    readOk_ram _ _ _ (by decide +kernel),
    readOk_ram _ _ _ (by decide +kernel)⟩

/-- O18 to O20 through ADDR1. -/
theorem witness_stores_addr1 :
    writeOk ((evalAddr1 (.postInc 2 4) edges).addr) 1 edges
    ∧ writeOk ((evalAddr1 (.postInc 2 4) edges).addr) 2 edges
    ∧ writeOk ((evalAddr1 (.postInc 2 4) edges).addr) 4 edges
    ∧ writeOk ((evalAddr1 (.postInc 2 4) edges).addr) 8 edges
    ∧ writeOk ((evalAddr1 (.off 3 0) edges).addr) 4 edges :=
  ⟨writeOk_ram _ _ _ (by decide +kernel),
    writeOk_ram _ _ _ (by decide +kernel),
    writeOk_ram _ _ _ (by decide +kernel),
    writeOk_ram _ _ _ (by decide +kernel),
    writeOk_ram _ _ _ (by decide +kernel)⟩

/-- O18 to O20 through a direct address. -/
theorem witness_stores_direct :
    writeOk (0xFFFFFFFC) 4 edges
    ∧ writeOk (0xFFFFFFFE) 2 edges
    ∧ writeOk (0xFFFFFFFF) 1 edges
    ∧ writeOk (0xFFFFFFF8) 8 edges
    ∧ writeOk (0) 8 edges :=
  ⟨writeOk_ram _ _ _ (by decide +kernel),
    writeOk_ram _ _ _ (by decide +kernel),
    writeOk_ram _ _ _ (by decide +kernel),
    writeOk_ram _ _ _ (by decide +kernel),
    writeOk_ram _ _ _ (by decide +kernel)⟩

/-- O18 to O20 through @(Ax+#imm). -/
theorem witness_stores_indexed :
    writeOk (edges.pre.a[(2 : Fin 16)] + (0 : BitVec 28).setWidth 32) 1 edges
    ∧ writeOk (edges.pre.a[(2 : Fin 16)] + (0 : BitVec 28).setWidth 32) 2 edges
    ∧ writeOk (edges.pre.a[(2 : Fin 16)] + (0 : BitVec 28).setWidth 32) 4 edges
    ∧ writeOk (edges.pre.a[(2 : Fin 16)] + (0 : BitVec 28).setWidth 32) 8 edges :=
  ⟨writeOk_ram _ _ _ (by decide +kernel),
    writeOk_ram _ _ _ (by decide +kernel),
    writeOk_ram _ _ _ (by decide +kernel),
    writeOk_ram _ _ _ (by decide +kernel)⟩

/-- O18 to O20 through ADDR2. -/
theorem witness_stores_addr2 :
    writeOk ((evalAddr2 (.preDec 0) 1 edges).addr) 1 edges
    ∧ writeOk ((evalAddr2 (.preDec 0) 2 edges).addr) 2 edges
    ∧ writeOk ((evalAddr2 (.preDec 0) 4 edges).addr) 4 edges
    ∧ writeOk ((evalAddr2 (.preDec 0) 8 edges).addr) 8 edges :=
  ⟨writeOk_ram _ _ _ (by decide +kernel),
    writeOk_ram _ _ _ (by decide +kernel),
    writeOk_ram _ _ _ (by decide +kernel),
    writeOk_ram _ _ _ (by decide +kernel)⟩

/-- O23: from address 0 to the last eight bytes. -/
theorem witness_MemoryMoves :
    (∀ r ∈ sideRegs (evalAddr1 (.postInc 2 8) edges), r ∉ sideRegs (evalAddr1 (.off 4 0) edges))
    ∧ readOk ((evalAddr1 (.off 4 0) edges).addr) 1 edges
    ∧ writeOk ((evalAddr1 (.postInc 2 8) edges).addr) 1 edges
    ∧ readOk ((evalAddr1 (.off 4 0) edges).addr) 2 edges
    ∧ writeOk ((evalAddr1 (.postInc 2 8) edges).addr) 2 edges
    ∧ readOk ((evalAddr1 (.off 4 0) edges).addr) 4 edges
    ∧ writeOk ((evalAddr1 (.postInc 2 8) edges).addr) 4 edges
    ∧ readOk ((evalAddr1 (.off 4 0) edges).addr) 8 edges
    ∧ writeOk ((evalAddr1 (.postInc 2 8) edges).addr) 8 edges :=
  ⟨by decide +kernel,
    readOk_ram _ _ _ (by decide +kernel),
    writeOk_ram _ _ _ (by decide +kernel),
    readOk_ram _ _ _ (by decide +kernel),
    writeOk_ram _ _ _ (by decide +kernel),
    readOk_ram _ _ _ (by decide +kernel),
    writeOk_ram _ _ _ (by decide +kernel),
    readOk_ram _ _ _ (by decide +kernel),
    writeOk_ram _ _ _ (by decide +kernel)⟩

/-- O23 through ADDR3. -/
theorem witness_MemoryMoves_addr3 :
    readOk (edges.pre.a[(⟨4, 255⟩ : Addr3).x] + 4 * (⟨4, 255⟩ : Addr3).imm.setWidth 32) 4 edges
    ∧ writeOk (edges.pre.a[(⟨3, 0⟩ : Addr3).x] + 4 * (⟨3, 0⟩ : Addr3).imm.setWidth 32) 4 edges :=
  ⟨readOk_ram _ _ _ (by decide +kernel),
    writeOk_ram _ _ _ (by decide +kernel)⟩

/-- O24: the last halfword and the last byte. -/
theorem witness_ReadModifyWrites :
    readOk ((evalAddr1 (.off 2 6) edges).addr) 2 edges
    ∧ writeOk ((evalAddr1 (.off 2 6) edges).addr) 2 edges
    ∧ readOk ((evalAddr1 (.off 2 7) edges).addr) 1 edges
    ∧ writeOk ((evalAddr1 (.off 2 7) edges).addr) 1 edges :=
  ⟨readOk_ram _ _ _ (by decide +kernel),
    writeOk_ram _ _ _ (by decide +kernel),
    readOk_ram _ _ _ (by decide +kernel),
    writeOk_ram _ _ _ (by decide +kernel)⟩

/-- O22: the last word of each region. -/
theorem witness_DeviceAndReadOnlyRegions :
    ((⟨4, evalDirect 0x1FFFFFFC, [.d 0], .ld32Dirm (.d 0) 0x1FFFFFFC⟩ : LoadForm) ∈ registerLoads (.d 0) (.xd 0) (.off 2 0) (.plain 0) 0x1FFFFFFC 0 0 (onDevice []))
    ∧ ((⟨4, evalDirect 0x1FFFFFFC, (readReg (.d 0) (onDevice [])).setWidth 64, .st32Dirm 0x1FFFFFFC (.d 0)⟩ : StoreForm) ∈ allStores (.d 0) (.xd 0) .dsts 0 0 (.off 2 0) (.plain 0) 0x1FFFFFFC 0 0 (onDevice []))
    ∧ ((⟨4, evalDirect 0x2FFFFFFC, (readReg (.d 0) (onDevice [])).setWidth 64, .st32Dirm 0x2FFFFFFC (.d 0)⟩ : StoreForm) ∈ allStores (.d 0) (.xd 0) .dsts 0 0 (.off 2 0) (.plain 0) 0x2FFFFFFC 0 0 (onDevice []))
    ∧ ((⟨2, evalAddr1 (.off 2 0) (onDevice []), (oldHalf (onDevice []) (evalAddr1 (.off 2 0) (onDevice [])).addr ||| 0).setWidth 64, .or16Addr1 (.off 2 0) 0⟩ : StoreForm) ∈ allUpdates 0 0 (.off 2 0) (onDevice []))
    ∧ (regionOf devices 0x1FFFFFFC = some .peripheral ∧ regionOf devices 0x2FFFFFFC = some .rom ∧ regionOf devices 0x3FFFFFFC = some .flash)
    ∧ (regionOf devices (evalAddr1 (.off 2 0) (onDevice [])).addr = some .peripheral ∧ (evalAddr1 (.off 2 0) (onDevice [])).addr.toNat % 2 = 0)
    ∧ (apAllows (onDevice []).cfg false (onDevice []).pre.ists.currlink (onDevice []).pre.dsts.clink 0x1FFFFFFC = true ∧ apAllows (onDevice []).cfg true (onDevice []).pre.ists.currlink (onDevice []).pre.dsts.clink 0x1FFFFFFC = true ∧ apAllows (onDevice []).cfg true (onDevice []).pre.ists.currlink (onDevice []).pre.dsts.clink 0x3FFFFFFC = true) :=
  ⟨by simp [registerLoads],
    by simp [allStores],
    by simp [allStores],
    by simp [allUpdates],
    by decide +kernel,
    by decide +kernel,
    by decide +kernel⟩

/-- O25: a load, a store, a read-modify-write, and a copy whose destination alone is misaligned. -/
theorem witness_MisalignedAccessFaults :
    edges.cur.fault = none
    ∧ ((⟨4, evalDirect 0xFFFFFFFD, [.d 0], .ld32Dirm (.d 0) 0xFFFFFFFD⟩ : LoadForm) ∈ registerLoads (.d 0) (.xd 0) (.off 2 0) (.plain 0) 0xFFFFFFFD 0 0 edges)
    ∧ ((⟨4, evalDirect 0xFFFFFFFE, (readReg (.d 0) edges).setWidth 64, .st32Dirm 0xFFFFFFFE (.d 0)⟩ : StoreForm) ∈ allStores (.d 0) (.xd 0) .dsts 0 0 (.off 2 0) (.plain 0) 0xFFFFFFFE 0 0 edges)
    ∧ ((⟨2, evalAddr1 (.off 2 7) edges, (oldHalf edges (evalAddr1 (.off 2 7) edges).addr ||| 0).setWidth 64, .or16Addr1 (.off 2 7) 0⟩ : StoreForm) ∈ allUpdates 0 0 (.off 2 7) edges)
    ∧ ((0xFFFFFFFD : Word).toNat % 4 ≠ 0 ∧ (0xFFFFFFFE : Word).toNat % 4 ≠ 0 ∧ (evalAddr1 (.off 2 7) edges).addr.toNat % 2 ≠ 0)
    ∧ ((⟨4, evalAddr1 (.off 5 0) (start fun c => withA 5 2 (withA 3 0xFFFFFFFC c)), evalAddr1 (.off 3 0) (start fun c => withA 5 2 (withA 3 0xFFFFFFFC c)), .mv32Addr1 (.off 5 0) (.off 3 0)⟩ : CopyForm) ∈ allCopies (.off 5 0) (.off 3 0) ⟨0, 0⟩ ⟨0, 0⟩ (start fun c => withA 5 2 (withA 3 0xFFFFFFFC c)))
    ∧ ((evalAddr1 (.off 5 0) (start fun c => withA 5 2 (withA 3 0xFFFFFFFC c))).addr.toNat % 4 ≠ 0)
    ∧ readOk ((evalAddr1 (.off 3 0) (start fun c => withA 5 2 (withA 3 0xFFFFFFFC c))).addr) 4 (start fun c => withA 5 2 (withA 3 0xFFFFFFFC c)) :=
  ⟨by decide +kernel,
    by simp [registerLoads],
    by simp [allStores],
    by simp [allUpdates],
    by decide +kernel,
    by simp [allCopies],
    by decide +kernel,
    readOk_ram _ _ _ (by decide +kernel)⟩

/-- Page 0x20000 is closed to every access. -/
def barred : State := { start (withA 2 0x20000FFC) with cfg := closedPage }

/-- Page 0x20000 may be read and not written. -/
def readOnly : State :=
  { start (withA 2 0x20000FFC) with
    cfg := { Params.default with ap := [⟨0, 0x1FFFF, 0xFFFF, 0xFFFF, false, 0⟩, ⟨0x20000, 0x20000, 0xFFFF, 0, false, 0⟩] } }

/-- No address is mapped. -/
def bare : State := { start (withA 2 0x20000FFC) with cfg := { Params.default with map := [] } }

/-- O26: the last word of a page closed to all and of one closed to stores, and memory that is not mapped. -/
theorem witness_ForbiddenAccessFaults :
    ((⟨4, evalDirect 0x20000FFC, [.d 0], .ld32Dirm (.d 0) 0x20000FFC⟩ : LoadForm) ∈ registerLoads (.d 0) (.xd 0) (.off 2 0) (.plain 0) 0x20000FFC 0 0 barred)
    ∧ ((⟨4, evalDirect 0x20000FFC, (readReg (.d 0) barred).setWidth 64, .st32Dirm 0x20000FFC (.d 0)⟩ : StoreForm) ∈ allStores (.d 0) (.xd 0) .dsts 0 0 (.off 2 0) (.plain 0) 0x20000FFC 0 0 barred)
    ∧ ((⟨2, evalAddr1 (.off 2 0) readOnly, (oldHalf readOnly (evalAddr1 (.off 2 0) readOnly).addr ||| 0).setWidth 64, .or16Addr1 (.off 2 0) 0⟩ : StoreForm) ∈ allUpdates 0 0 (.off 2 0) readOnly)
    ∧ ((⟨4, evalAddr1 (.off 2 0) readOnly, evalAddr1 (.off 1 0) readOnly, .mv32Addr1 (.off 2 0) (.off 1 0)⟩ : CopyForm) ∈ allCopies (.off 2 0) (.off 1 0) ⟨0, 0⟩ ⟨0, 0⟩ readOnly)
    ∧ (barred.cur.fault = none ∧ (0x20000FFC : Word).toNat % 4 = 0 ∧ readOnly.cur.fault = none ∧ bare.cur.fault = none)
    ∧ (apAllows barred.cfg false barred.pre.ists.currlink barred.pre.dsts.clink 0x20000FFC = false ∧ apAllows barred.cfg true barred.pre.ists.currlink barred.pre.dsts.clink 0x20000FFC = false)
    ∧ readOk ((evalAddr1 (.off 2 0) readOnly).addr) 4 readOnly
    ∧ readOk ((evalAddr1 (.off 1 0) readOnly).addr) 4 readOnly
    ∧ (apAllows readOnly.cfg true readOnly.pre.ists.currlink readOnly.pre.dsts.clink (evalAddr1 (.off 2 0) readOnly).addr = false)
    ∧ (apAllows bare.cfg false bare.pre.ists.currlink bare.pre.dsts.clink (evalAddr1 (.off 2 0) bare).addr = true ∧ apAllows bare.cfg true bare.pre.ists.currlink bare.pre.dsts.clink (evalAddr1 (.off 2 0) bare).addr = true ∧ regionOf bare.cfg (evalAddr1 (.off 2 0) bare).addr = none) :=
  ⟨by simp [registerLoads],
    by simp [allStores],
    by simp [allUpdates],
    by simp [allCopies],
    by decide +kernel,
    by decide +kernel,
    readOk_ram _ _ _ (by decide +kernel),
    readOk_ram _ _ _ (by decide +kernel),
    by decide +kernel,
    by decide +kernel⟩

/-- O27: both orders. -/
theorem witness_subtraction_order :
    (start id).cfg.subOrder = .yMinusX ∧ { start id with cfg := { Params.default with subOrder := .xMinusY } }.cfg.subOrder = .xMinusY :=
  by decide +kernel

/-- O31 at the greatest limit. -/
theorem witness_CircularAndBitReversedUpdates :
    (31 : Nat) < 32 ∧ (start (withA 6 0x7FFFFFFF)).pre.a[(0 : Fin 4).val].toNat < 2147483648 ∧ (start (withA 6 0x7FFFFFFF)).pre.a[(6 : Fin 16)].toNat < 2147483648 :=
  by decide +kernel

/-- An idle CPU with the lines `f` asserts. -/
def idling (f : Arch → Arch) : State := start fun c => f { c with idle := true }

/-- O33: a masked INT does not wake, an NMI does. -/
theorem witness_IdleWaitsForInterrupt :
    runsPacket [.idle] 0x1002 (atCode [.idle] id)
    ∧ staysInLink 0x1002 (atCode [.idle] id)
    ∧ running (idling fun c => { c with intPending := some ⟨0x5000, 0x10, false⟩ })
    ∧ ((idling fun c => { c with intPending := some ⟨0x5000, 0x10, false⟩ }).cur.idle = true ∧ choose (idling fun c => { c with intPending := some ⟨0x5000, 0x10, false⟩ }).cur = .packet)
    ∧ running (idling fun c => { c with nmiPending := true })
    ∧ ((idling fun c => { c with nmiPending := true }).cur.idle = true ∧ choose (idling fun c => { c with nmiPending := true }).cur ≠ .packet)
    ∧ (∃ t, step (idling fun c => { c with nmiPending := true }) = .next t) :=
  ⟨runsPacket_of _ _ _ (by decide +kernel) (by decide +kernel),
    by unfold staysInLink; decide +kernel,
    by unfold running; decide +kernel,
    by decide +kernel,
    by unfold running; decide +kernel,
    by decide +kernel,
    next_of_stepped _ (by decide +kernel)⟩

/-- O35, label and register. -/
theorem witness_CallsAndReturns_call :
    (calling.cur.fault = none ∧ calling.pre.a[15].toNat % 8 = 0 ∧ calling.pre.a[(5 : Fin 16)] = 0x2000)
    ∧ writeOk (calling.pre.a[15]) 4 calling
    ∧ transferOk 0x2000 calling :=
  ⟨by decide +kernel,
    writeOk_ram _ _ _ (by decide +kernel),
    transferOk_of _ _ 0 (by decide +kernel)⟩

/-- O35, RET; the rest of its hypotheses are those of the witness before. -/
theorem witness_CallsAndReturns_ret :
    readOk (calling.pre.a[15] - 8) 4 calling
    ∧ transferOk calling.pre.rpc calling :=
  ⟨readOk_ram _ _ _ (by decide +kernel),
    transferOk_of _ _ 0 (by decide +kernel)⟩

/-- An INT handler with a misaligned stack pointer. -/
def crooked : State :=
  start fun c => withA 15 0x9004 { c with intSaves := [⟨.main, 0xFF, true⟩], dsts := { c.dsts with ints := .int } }

/-- A misaligned stack pointer beside a frame of the protected call stack. -/
def crookedProt : State := start fun c => withA 15 0x9004 { c with rpc := 0x4010, protStack := [⟨0, 0, 0x4010⟩] }

/-- An INT pending and enabled at `vector`, with SP `sp`. -/
def intAt (vector sp : Word) : State :=
  startLinks fun c => withA 15 sp { c with intPending := some ⟨vector, 0x10, false⟩, dsts := { c.dsts with inte := true } }

/-- O37, RET.PROT. -/
theorem witness_MisalignedStackFaults_prot :
    (crookedProt.cur.fault = none ∧ crookedProt.pre.a[15].toNat % 8 ≠ 0 ∧ crookedProt.pre.protStack = [⟨0, 0, 0x4010⟩] ∧ crookedProt.pre.rpc = 0x4010)
    ∧ (linkOf crookedProt.cfg 0x4010).map (stackOf crookedProt.cfg) = some 0 :=
  by decide +kernel

/-- O37, INT entry. -/
theorem witness_MisalignedStackFaults_int :
    openBoundary (intAt 0x5000 0x9004)
    ∧ (choose (intAt 0x5000 0x9004).cur = .int ⟨0x5000, 0x10, false⟩ ∧ (0x5000 : Word).toNat % 2 = 0 ∧ (intAt 0x5000 0x9004).cur.a[15].toNat % 8 ≠ 0)
    ∧ (∀ l, linkOf (intAt 0x5000 0x9004).cfg 0x5000 = some l → stackOf (intAt 0x5000 0x9004).cfg l = (intAt 0x5000 0x9004).cur.ists.currsp) :=
  ⟨by unfold openBoundary running; decide +kernel,
    by decide +kernel,
    forall_some 0 (by decide +kernel) (by decide +kernel)⟩

/-- O37. -/
theorem witness_MisalignedStackFaults :
    (crooked.cur.fault = none ∧ crooked.pre.a[15].toNat % 8 ≠ 0 ∧ crooked.pre.protStack.length < crooked.cfg.maxPsp)
    ∧ crooked.pre.dsts.ints = .int ∧ crooked.pre.intSaves ≠ [] :=
  by decide +kernel

/-- Code of LINK 1 with a return address in LINK 2, and a frame of the protected call stack. -/
def linked : State :=
  startLinks fun c => withA 15 0x9000 (withA 0 0x20000 { c with
    pc := 0x10010, rpc := 0x20000, secsp := c.secsp.set 2 0xA000, protStack := [⟨2, 2, 0x20000⟩]
    ists := { c.ists with currlink := 1, currsp := 1 } })

/-- The same with the return inside STACK 1. -/
def linkedSame : State :=
  startLinks fun c => withA 15 0x9000 { c with
    pc := 0x10010, rpc := 0x10100, protStack := [⟨1, 1, 0x10100⟩], ists := { c.ists with currlink := 1, currsp := 1 } }

/-- O38, RETI.INT; the rest of its hypotheses are those of the next theorem. -/
theorem witness_CrossStackTransferFaults_reti :
    { linked with pre := { linked.pre with dsts := { linked.pre.dsts with ints := .int }, intSaves := [⟨.main, 0xFF, true⟩] } }.pre.dsts.ints = .int
    ∧ { linked with pre := { linked.pre with dsts := { linked.pre.dsts with ints := .int }, intSaves := [⟨.main, 0xFF, true⟩] } }.pre.intSaves ≠ [] :=
  by decide +kernel

/-- O38. -/
theorem witness_CrossStackTransferFaults :
    (linked.cur.fault = none ∧ linked.pre.a[15].toNat % 8 = 0 ∧ linkOf linked.cfg 0x20000 = some 2)
    ∧ stackOf linked.cfg 2 ≠ stackOf linked.cfg linked.pre.ists.currlink ∧ linked.pre.rpc = 0x20000 ∧ linked.pre.a[(0 : Fin 16)] = 0x20000
    ∧ brTarget (.reg 0) linked = 0x20000 ∧ condHolds .always linked.pre.dsts linked.pre.ests = true
    ∧ bcmpzHolds (.rel .eq) linked.pre.d[(0 : Fin 16)] linked.pre.ests = true :=
  by decide +kernel

/-- O38, INT entry. -/
theorem witness_CrossStackTransferFaults_int :
    openBoundary (intAt 0x10000 0x9000)
    ∧ (choose (intAt 0x10000 0x9000).cur = .int ⟨0x10000, 0x10, false⟩ ∧ linkOf twoLinks 0x10000 = some 1 ∧ stackOf twoLinks 1 ≠ (intAt 0x10000 0x9000).cur.ists.currsp) :=
  ⟨by unfold openBoundary running; decide +kernel,
    by decide +kernel⟩

/-- O39: taken and not taken. -/
theorem witness_BranchesGoOrFallThrough :
    (condHolds .always calling.pre.dsts calling.pre.ests = true ∧ bcmpzHolds (.rel .eq) calling.pre.d[(0 : Fin 16)] calling.pre.ests = true)
    ∧ (condHolds .always calling.pre.dsts calling.pre.ests = true → transferOk (brTarget (.label 0xFFFFFFFE) calling) calling)
    ∧ (bcmpzHolds (.rel .neq) calling.pre.d[(0 : Fin 16)] calling.pre.ests = false)
    ∧ (bcmpzHolds (.rel .eq) calling.pre.d[(0 : Fin 16)] calling.pre.ests = true → transferOk 0xFFFFFFFE calling) :=
  ⟨by decide +kernel,
    fun _ => transferOk_of _ _ 0 (by decide +kernel),
    by decide +kernel,
    fun _ => transferOk_of _ _ 0 (by decide +kernel)⟩

/-- O40: to another STACK and to the current one. -/
theorem witness_ProtectedCallAndBranch :
    (linked.cur.fault = none ∧ linked.pre.a[15].toNat % 8 = 0 ∧ linked.pre.protStack.length < linked.cfg.maxPsp)
    ∧ writeOk (linked.pre.a[15]) 4 linked
    ∧ ((0x20000 : Word).toNat % 2 = 0 ∧ linkOf linked.cfg 0x20000 = some 2 ∧ linkOf linked.cfg 0x10100 = some 1)
    ∧ linked.pre.a[(0 : Fin 16)] = 0x20000 :=
  ⟨by decide +kernel,
    writeOk_ram _ _ _ (by decide +kernel),
    by decide +kernel,
    by decide +kernel⟩

/-- O42: to another STACK. -/
theorem witness_ProtectedReturn_other :
    (linked.cur.fault = none ∧ linked.pre.a[15].toNat % 8 = 0 ∧ linked.pre.protStack = (⟨2, 2, 0x20000⟩ : ProtFrame) :: [] ∧ linked.pre.rpc = (⟨2, 2, 0x20000⟩ : ProtFrame).ret)
    ∧ ((linkOf linked.cfg (⟨2, 2, 0x20000⟩ : ProtFrame).ret).map (stackOf linked.cfg) = some (⟨2, 2, 0x20000⟩ : ProtFrame).stack ∧ (⟨2, 2, 0x20000⟩ : ProtFrame).ret.toNat % 2 = 0)
    ∧ readOk ((if (⟨2, 2, 0x20000⟩ : ProtFrame).stack = stackOf linked.cfg linked.pre.ists.currlink then linked.pre.a[15] else linked.pre.secsp[(⟨2, 2, 0x20000⟩ : ProtFrame).stack]) - 8) 4 linked :=
  ⟨by decide +kernel,
    by decide +kernel,
    readOk_ram _ _ _ (by decide +kernel)⟩

/-- O42: on the same STACK. -/
theorem witness_ProtectedReturn_same :
    (linkedSame.cur.fault = none ∧ linkedSame.pre.a[15].toNat % 8 = 0 ∧ linkedSame.pre.protStack = (⟨1, 1, 0x10100⟩ : ProtFrame) :: [] ∧ linkedSame.pre.rpc = (⟨1, 1, 0x10100⟩ : ProtFrame).ret)
    ∧ ((linkOf linkedSame.cfg (⟨1, 1, 0x10100⟩ : ProtFrame).ret).map (stackOf linkedSame.cfg) = some (⟨1, 1, 0x10100⟩ : ProtFrame).stack ∧ (⟨1, 1, 0x10100⟩ : ProtFrame).ret.toNat % 2 = 0)
    ∧ readOk ((if (⟨1, 1, 0x10100⟩ : ProtFrame).stack = stackOf linkedSame.cfg linkedSame.pre.ists.currlink then linkedSame.pre.a[15] else linkedSame.pre.secsp[(⟨1, 1, 0x10100⟩ : ProtFrame).stack]) - 8) 4 linkedSame :=
  ⟨by decide +kernel,
    by decide +kernel,
    readOk_ram _ _ _ (by decide +kernel)⟩

/-- An uncorrectable error arrives with the packet at the program counter, a debugger connected. -/
def eccAt (bs : List Byte) : State :=
  { start fun c => placeCode bs { c with pc := 0x1000 } with inputs := [[.eccDoubleBit]], dbg := ⟨true, .run, false⟩ }

/-- O41. -/
theorem witness_DoubleBitErrorFaults_nop :
    ((eccAt (packetBytes [.nop])).cfg.wf = true ∧ (eccAt (packetBytes [.nop])).inputs.headD [] = [.eccDoubleBit] ∧ (eccAt (packetBytes [.nop])).cur.fault = none ∧ (eccAt (packetBytes [.nop])).dbg.mode = .run ∧ (eccAt (packetBytes [.nop])).dbg.haltPending = false)
    ∧ (choose (eccAt (packetBytes [.nop])).cur = .packet ∧ (eccAt (packetBytes [.nop])).cur.idle = false ∧ (eccAt (packetBytes [.nop])).cur.pc.toNat % 2 = 0)
    ∧ (formPacket 8 (eccAt (packetBytes [.nop])).cur.pc.toNat 0 (openStep (eccAt (packetBytes [.nop]))) = .next (.packet [.nop] 0x1002)) :=
  ⟨by decide +kernel,
    by decide +kernel,
    next_of_asSome (by decide +kernel)⟩

/-- O41. -/
theorem witness_DoubleBitErrorFaults_emustop0 :
    ((eccAt (packetBytes [.emustop0])).cfg.wf = true ∧ (eccAt (packetBytes [.emustop0])).inputs.headD [] = [.eccDoubleBit] ∧ (eccAt (packetBytes [.emustop0])).cur.fault = none ∧ (eccAt (packetBytes [.emustop0])).dbg.mode = .run ∧ (eccAt (packetBytes [.emustop0])).dbg.haltPending = false)
    ∧ (choose (eccAt (packetBytes [.emustop0])).cur = .packet ∧ (eccAt (packetBytes [.emustop0])).cur.idle = false ∧ (eccAt (packetBytes [.emustop0])).cur.pc.toNat % 2 = 0)
    ∧ (formPacket 8 (eccAt (packetBytes [.emustop0])).cur.pc.toNat 0 (openStep (eccAt (packetBytes [.emustop0]))) = .next (.packet [.emustop0] 0x1002)) :=
  ⟨by decide +kernel,
    by decide +kernel,
    next_of_asSome (by decide +kernel)⟩

/-- O41. -/
theorem witness_DoubleBitErrorFaults_undecodable :
    ((eccAt [0x00, 0x68]).cfg.wf = true ∧ (eccAt [0x00, 0x68]).inputs.headD [] = [.eccDoubleBit] ∧ (eccAt [0x00, 0x68]).cur.fault = none ∧ (eccAt [0x00, 0x68]).dbg.mode = .run ∧ (eccAt [0x00, 0x68]).dbg.haltPending = false)
    ∧ (choose (eccAt [0x00, 0x68]).cur = .packet ∧ (eccAt [0x00, 0x68]).cur.idle = false ∧ (eccAt [0x00, 0x68]).cur.pc.toNat % 2 = 0)
    ∧ (formPacket 8 (eccAt [0x00, 0x68]).cur.pc.toNat 0 (openStep (eccAt [0x00, 0x68])) = .next .undecodable) :=
  ⟨by decide +kernel,
    by decide +kernel,
    next_of_asSome (by decide +kernel)⟩

/-- O41, an odd pc and a fetch that would stop the model. -/
theorem witness_DoubleBitErrorFaults_stops :
    (let s := eccAt (packetBytes [.nop]); { s with cur := { s.cur with pc := 0x1001 } }).cur.pc.toNat % 2 = 1
    ∧ (stepped (let s := eccAt (packetBytes [.nop]); { s with cur := { s.cur with stored := [0x1000] } })).map (fun t => t.cur.fault) = some (some .eccDoubleBit)
    ∧ (∀ is fin, formPacket 8 0x1000 0 (openStep (let s := eccAt (packetBytes [.nop]); { s with cur := { s.cur with stored := [0x1000] } })) ≠ .next (.packet is fin)) :=
  ⟨by decide +kernel, by decide +kernel, fun is fin => by
    have h : formPacket 8 0x1000 0 (openStep (let s := eccAt (packetBytes [.nop]); { s with cur := { s.cur with stored := [0x1000] } })) = .refused (.storedCode 0x1000) := refused_of (by decide +kernel)
    rw [h]; exact fun e => by cases e⟩

/-- O43. -/
theorem witness_MarkersDoNothing :
    (start id).dbg.connected = false ∧ { start id with dbg := ⟨true, .run, false⟩ }.dbg.connected = true
    ∧ { start id with dbg := ⟨true, .run, false⟩ }.dbg.mode ≠ .freeRun
    ∧ { start id with dbg := ⟨true, .freeRun, false⟩ }.dbg.mode = .freeRun ∧ (faulted []).cur.fault ≠ none :=
  by decide +kernel

/-- O44 at the boundaries. -/
theorem witness_SystemInstructions :
    ((255#8).toNat ≤ (start id).cfg.atomicMax ∧ (start id).cur.fault = none)
    ∧ { start id with cfg := { Params.default with atomicMax := 64 } }.cfg.atomicMax < (255#8).toNat
    ∧ readOk (0xFFFFFFFC) 4 edges :=
  ⟨by decide +kernel,
    by decide +kernel,
    readOk_ram _ _ _ (by decide +kernel)⟩

/-- O46, what is refused without an odd target. -/
theorem witness_IllegalReturnsAndTargetsRefused :
    (calling.cur.fault = none ∧ calling.pre.a[15].toNat % 8 = 0 ∧ (0x2001 : Word).toNat % 2 = 1)
    ∧ (∀ l, linkOf calling.cfg 0x2001 = some l → stackOf calling.cfg l = stackOf calling.cfg calling.pre.ists.currlink)
    ∧ (calling.pre.protStack = [] ∧ calling.pre.dsts.ints ≠ .int ∧ calling.pre.rtStack = [])
    ∧ (({ linked with pre := { linked.pre with rpc := 0x20002 } } : State).pre.protStack = (⟨2, 2, 0x20000⟩ : ProtFrame) :: [] ∧ (0x20002 : Word) ≠ (⟨2, 2, 0x20000⟩ : ProtFrame).ret)
    ∧ (linked.pre.protStack = (⟨2, 2, 0x20000⟩ : ProtFrame) :: [] ∧ { linked with cfg := { twoLinks with stackOf := Vector.replicate 16 0 } }.pre.a[15].toNat % 8 = 0
      ∧ (linkOf twoLinks linked.pre.rpc).map (stackOf { twoLinks with stackOf := Vector.replicate 16 0 }) ≠ some (⟨2, 2, 0x20000⟩ : ProtFrame).stack) :=
  ⟨by decide +kernel,
    forall_some 0 (by decide +kernel) (by decide +kernel),
    by decide +kernel,
    by decide +kernel,
    by decide +kernel⟩

/-- Every return and every register target leads to the odd address 0x2001. -/
def oddAhead : State :=
  start fun c => withA 15 0x9008 (withA 5 0x2001 { c with
    rpc := 0x2001, protStack := [⟨0, 0, 0x2001⟩], rtStack := [frameOf { c with pc := 0x2001 }], intSaves := [⟨.main, 0xFF, true⟩]
    dsts := { c.dsts with ints := .int } })

/-- An interrupt with an odd vector is next. -/
def oddVector (int : Bool) : State :=
  start fun c => if int then { c with intPending := some ⟨0x2001, 0x10, true⟩ } else { c with rtintPending := some ⟨0x2001, 0x10⟩ }

/-- O46, odd targets. -/
theorem witness_IllegalReturnsAndTargetsRefused_odd :
    (oddAhead.cur.fault = none ∧ (0x2001 : Word).toNat % 2 = 1 ∧ oddAhead.pre.a[15].toNat % 8 = 0)
    ∧ (∀ l, linkOf oddAhead.cfg 0x2001 = some l → stackOf oddAhead.cfg l = stackOf oddAhead.cfg oddAhead.pre.ists.currlink)
    ∧ (brTarget (.reg 5) oddAhead = 0x2001 ∧ condHolds .always oddAhead.pre.dsts oddAhead.pre.ests = true ∧ bcmpzHolds (.rel .eq) oddAhead.pre.d[(5 : Fin 16)] oddAhead.pre.ests = true
      ∧ oddAhead.pre.a[(5 : Fin 16)] = 0x2001 ∧ oddAhead.pre.rpc = 0x2001 ∧ oddAhead.pre.protStack.length < oddAhead.cfg.maxPsp)
    ∧ writeOk (oddAhead.pre.a[15]) 4 oddAhead
    ∧ readOk (oddAhead.pre.a[15] - 8) 4 oddAhead
    ∧ (oddAhead.pre.protStack = (⟨0, 0, 0x2001⟩ : ProtFrame) :: [] ∧ (linkOf oddAhead.cfg 0x2001).map (stackOf oddAhead.cfg) = some 0 ∧ stackOf oddAhead.cfg oddAhead.pre.ists.currlink = 0)
    ∧ (oddAhead.pre.dsts.ints = .int ∧ oddAhead.pre.intSaves = (⟨.main, 0xFF, true⟩ : IntSave) :: [] ∧ oddAhead.cfg.intFrameBytes = 8 ∧ (oddAhead.pre.rtStack.map RtFrame.ret) = [0x2001]) :=
  ⟨by decide +kernel,
    forall_some 0 (by decide +kernel) (by decide +kernel),
    by decide +kernel,
    writeOk_ram _ _ _ (by decide +kernel),
    readOk_ram _ _ _ (by decide +kernel),
    by decide +kernel,
    by decide +kernel⟩

/-- O46, odd vectors. -/
theorem witness_IllegalReturnsAndTargetsRefused_vector :
    openBoundary (oddVector false) ∧ choose (oddVector false).cur = .rtint ⟨0x2001, 0x10⟩
    ∧ openBoundary (oddVector true) ∧ choose (oddVector true).cur = .int ⟨0x2001, 0x10, true⟩ :=
  ⟨by unfold openBoundary running; decide +kernel, by decide +kernel, by unfold openBoundary running; decide +kernel, by decide +kernel⟩

/-- O47. -/
theorem witness_StatusRegisterAccess :
    readOk ((evalAddr1 (.postInc 2 4) edges).addr) 4 edges
    ∧ writeOk ((evalAddr1 (.postInc 2 4) edges).addr) 4 edges :=
  ⟨readOk_ram _ _ _ (by decide +kernel),
    writeOk_ram _ _ _ (by decide +kernel)⟩

/-- An INT handler about to return, the second of two nested ones. -/
def inInt : State :=
  start fun c => withA 15 0x9008 { c with
    rpc := 0x4010, intSaves := [⟨.int, 0x20, false⟩, ⟨.main, 0xFF, true⟩], dsts := { c.dsts with ints := .int, prio := 0x10 } }

/-- The only INT handler about to return, where RETI.INT restores INTE. -/
def inIntOnly : State :=
  { start fun c => withA 15 0x9008 { c with rpc := 0x4010, intSaves := [⟨.main, 0xFF, true⟩], dsts := { c.dsts with ints := .int, prio := 0x10 } } with
    cfg := { Params.default with retiIntRestoresInte := some true } }

/-- O48. -/
theorem witness_ReturnFromInt_nested :
    (inInt.cur.fault = none ∧ inInt.pre.dsts.ints = .int ∧ inInt.pre.intSaves = ⟨.int, 0x20, false⟩ :: [⟨.main, 0xFF, true⟩] ∧ inInt.pre.a[15].toNat % 8 = 0)
    ∧ transferOk inInt.pre.rpc inInt
    ∧ readOk (inInt.pre.a[15] - BitVec.ofNat 32 inInt.cfg.intFrameBytes) 4 inInt :=
  ⟨by decide +kernel,
    transferOk_of _ _ 0 (by decide +kernel),
    readOk_ram _ _ _ (by decide +kernel)⟩

/-- O48. -/
theorem witness_ReturnFromInt_last :
    (inIntOnly.cur.fault = none ∧ inIntOnly.pre.dsts.ints = .int ∧ inIntOnly.pre.intSaves = ⟨.main, 0xFF, true⟩ :: [] ∧ inIntOnly.pre.a[15].toNat % 8 = 0)
    ∧ transferOk inIntOnly.pre.rpc inIntOnly
    ∧ readOk (inIntOnly.pre.a[15] - BitVec.ofNat 32 inIntOnly.cfg.intFrameBytes) 4 inIntOnly
    ∧ (inIntOnly.cfg.retiIntRestoresInte = some true) :=
  ⟨by decide +kernel,
    transferOk_of _ _ 0 (by decide +kernel),
    readOk_ram _ _ _ (by decide +kernel),
    by decide +kernel⟩

/-- O49, an RTINT handler and an NMI handler. -/
theorem witness_ReturnFromRealtime :
    { inHandler with cur := { inHandler.cur with rtintPending := some ⟨0x300, 1⟩ } }.cur.rtintPending ≠ none ∧ (inHandler.pre.rtStack = frame0 :: [] ∧ frame0.ret.toNat % 2 = 0 ∧ linkOf inHandler.cfg frame0.ret = some 0)
    ∧ (inHandler.pre.dsts.ints = .rtint ∧ frame0.dsts.ints ≠ .rtint ∧ inHandler.cur.rtintPending = none)
    ∧ { inHandler with pre := { inHandler.pre with dsts := { Dsts.reset with ints := .nmi } } }.pre.dsts.ints = .nmi :=
  by decide +kernel

/-- An open boundary with the three lines pending and an ATOMIC counter that runs. -/
def allPending : State :=
  start fun c => withA 15 0x9000 { c with
    nmiPending := true, rtintPending := some ⟨0x300, 0x20⟩, intPending := some ⟨0x5000, 0x10, false⟩, ists := { c.ists with atomic := 9 } }

/-- An open boundary with an RTINT pending that the real-time stack has room for. -/
def rtPending : State := start fun c => { c with rtintPending := some ⟨0x300, 0x20⟩, rtStack := List.replicate 5 frame0 }

/-- The same with one place left. -/
def rtLast : State := start fun c => { c with rtintPending := some ⟨0x300, 0x20⟩, rtStack := List.replicate 6 frame0 }

/-- An open boundary with an INT pending and enabled, and the stack at the last frame of memory. -/
def intReady : State :=
  start fun c => withA 15 0xFFFFFFF8 { c with intPending := some ⟨0x5000, 0x10, false⟩, dsts := { c.dsts with inte := true } }

/-- O51. -/
theorem witness_RealtimeEntries_nmi :
    openBoundary allPending ∧ (allPending.cur.nmiPending = true ∧ allPending.cur.dsts.ints ≠ .nmi ∧ allPending.cfg.nmiVector.toNat % 2 = 0) :=
  ⟨by unfold openBoundary running; decide +kernel, by decide +kernel⟩

/-- O51 with one place more than it needs. -/
theorem witness_RealtimeEntries_rtint :
    openBoundary rtPending ∧ (rtPending.cur.nmiPending = false ∧ rtPending.cur.rtintPending = some ⟨0x300, 0x20⟩ ∧ rtPending.cur.ists.atomic = 0 ∧ rtPending.cur.dsts.ints ≠ .nmi ∧ (0x300 : Word).toNat % 2 = 0)
    ∧ rtPending.cur.rtStack.length + 1 < rtPending.cfg.maxRtisp :=
  ⟨by unfold openBoundary running; decide +kernel, by decide +kernel, by decide +kernel⟩

/-- A CALL.PROT that makes PSP reach WARNPSP. -/
def warning : State := { linked with cur := { linked.cur with warnPsp := 2 }, pre := { linked.pre with warnPsp := 2 } }

/-- O53; the rest of its hypotheses are those of O51 and of the next theorem. -/
theorem witness_HardwareStackLimits_warnings :
    (warning.cur.fault = none ∧ warning.pre.a[15].toNat % 8 = 0 ∧ warning.pre.protStack.length < warning.cfg.maxPsp ∧ warning.pre.warnPsp ≤ warning.pre.protStack.length + 1)
    ∧ writeOk (warning.pre.a[15]) 4 warning
    ∧ (warning.pre.a[(0 : Fin 16)] = 0x20000 ∧ (0x20000 : Word).toNat % 2 = 0)
    ∧ (rtPending.cur.rtStack.length + 1 < rtPending.cfg.maxRtisp ∧ { rtPending with cur := { rtPending.cur with warnRtisp := 6 } }.cur.warnRtisp ≤ rtPending.cur.rtStack.length + 1)
    ∧ ({ rtLast with cfg := { Params.default with rtispMaxOutcome := .raiseNmi } }.cfg.rtispMaxOutcome = .raiseNmi) :=
  ⟨by decide +kernel,
    writeOk_ram _ _ _ (by decide +kernel),
    by decide +kernel,
    by decide +kernel,
    by decide +kernel⟩

/-- O53, an RTINT past MAXRTISP, and the default WARNRTISP reached at MAXRTISP. -/
theorem witness_HardwareStackLimits_past :
    openBoundary { rtLast with cur := { rtLast.cur with rtStack := List.replicate 7 frame0 } } ∧ rtLast.cfg.maxRtisp ≤ (List.replicate 7 frame0).length
    ∧ rtLast.cur.warnRtisp ≤ rtLast.cur.rtStack.length + 1 :=
  ⟨by unfold openBoundary running; decide +kernel, by decide +kernel, by decide +kernel⟩

/-- O53, both clauses. -/
theorem witness_HardwareStackLimits :
    openBoundary rtLast ∧ (rtLast.cur.nmiPending = false ∧ rtLast.cur.rtintPending = some ⟨0x300, 0x20⟩ ∧ rtLast.cur.ists.atomic = 0 ∧ rtLast.cur.dsts.ints ≠ .nmi ∧ (0x300 : Word).toNat % 2 = 0)
    ∧ (rtLast.cur.rtStack.length + 1 = rtLast.cfg.maxRtisp ∧ rtLast.cfg.rtispMaxOutcome = .fault)
    ∧ (busy.cur.fault = none ∧ busy.pre.a[15].toNat % 8 = 0 ∧ busy.cfg.maxPsp ≤ busy.pre.protStack.length) :=
  ⟨by unfold openBoundary running; decide +kernel, by decide +kernel, by decide +kernel, by decide +kernel⟩

/-- The same with the stack in external memory. -/
def intExternal : State := { intReady with cfg := { Params.default with map := [⟨0, 0x7FFFF, .ram⟩, ⟨0x80000, 0xFFFFF, .emif1⟩] } }

/-- O54 at the top of memory. -/
theorem witness_IntEntry_ram :
    openBoundary intReady
    ∧ (intReady.cur.nmiPending = false ∧ intReady.cur.rtintPending = none ∧ intReady.cur.intPending = some ⟨0x5000, 0x10, false⟩)
    ∧ (intReady.cur.dsts.inte = true ∧ intReady.cur.ists.atomic = 0 ∧ intReady.cur.ists.currsp = intReady.cur.ists.intsp ∧ intReady.cur.dsts.ints = .main)
    ∧ (∀ k, linkOf intReady.cfg 0x5000 = some k → stackOf intReady.cfg k = intReady.cur.ists.currsp)
    ∧ (intReady.cur.a[15].toNat % 8 = 0 ∧ 8 ≤ intReady.cfg.intFrameBytes ∧ intReady.cur.a[15].toNat + intReady.cfg.intFrameBytes ≤ 4294967296 ∧ linkOf intReady.cfg intReady.cur.pc = some 0)
    ∧ (frameOk intReady.cur.a[15] intReady.cfg.intFrameBytes 0 intReady) :=
  ⟨by unfold openBoundary running; decide +kernel,
    by decide +kernel,
    by decide +kernel,
    forall_some 0 (by decide +kernel) (by decide +kernel),
    by decide +kernel,
    by unfold frameOk writable; decide +kernel⟩

/-- O54 at the top of memory. -/
theorem witness_IntEntry_emif :
    openBoundary intExternal
    ∧ (intExternal.cur.nmiPending = false ∧ intExternal.cur.rtintPending = none ∧ intExternal.cur.intPending = some ⟨0x5000, 0x10, false⟩)
    ∧ (intExternal.cur.dsts.inte = true ∧ intExternal.cur.ists.atomic = 0 ∧ intExternal.cur.ists.currsp = intExternal.cur.ists.intsp ∧ intExternal.cur.dsts.ints = .main)
    ∧ (∀ k, linkOf intExternal.cfg 0x5000 = some k → stackOf intExternal.cfg k = intExternal.cur.ists.currsp)
    ∧ (intExternal.cur.a[15].toNat % 8 = 0 ∧ 8 ≤ intExternal.cfg.intFrameBytes ∧ intExternal.cur.a[15].toNat + intExternal.cfg.intFrameBytes ≤ 4294967296 ∧ linkOf intExternal.cfg intExternal.cur.pc = some 0)
    ∧ (frameOk intExternal.cur.a[15] intExternal.cfg.intFrameBytes 0 intExternal) :=
  ⟨by unfold openBoundary running; decide +kernel,
    by decide +kernel,
    by decide +kernel,
    forall_some 0 (by decide +kernel) (by decide +kernel),
    by decide +kernel,
    by unfold frameOk writable; decide +kernel⟩

/-- O55, each clause. -/
theorem witness_InterruptsHeldOff :
    { allPending.cur with expect := .isrPair }.expect ≠ .none ∧ { allPending.cur with dsts := { allPending.cur.dsts with ints := .nmi } }.dsts.ints = .nmi
    ∧ (choose intReady.cur = .int ⟨0x5000, 0x10, false⟩ ∧ choose rtPending.cur = .rtint ⟨0x300, 0x20⟩ ∧ choose allPending.cur = .nmi)
    ∧ (allPending.cur.ists.atomic ≠ 0 ∧ busy.cur.pending ≠ none)
    ∧ (allPending.cur.pending = none ∧ allPending.cur.expect = .none ∧ allPending.cur.nmiPending = true ∧ allPending.cur.dsts.ints ≠ .nmi) :=
  by decide +kernel

/-- A packet of one instruction at the program counter. -/
def ready : State := start fun c => placeCode (encodeBytes (.mvImm (.d 0) 0x12345678)) { c with pc := 0x1000 }

/-- O55, O56. -/
theorem witness_StepRunsDecodedInstruction :
    running ready ∧ runsPacket [.mvImm (.d 0) 0x12345678] 0x1006 ready ∧ choose ready.cur = .packet
    ∧ (ready.cur.idle = false ∧ ready.cur.pc.toNat % 2 = 0 ∧ 3 = sizeWords (codeWord ready.cur.mem ready.cur.pc.toNat))
    ∧ (fetchable ready.cur.pc.toNat 1 (openStep ready) = .next none ∧ fetchable ready.cur.pc.toNat 3 (openStep ready) = .next none)
    ∧ decode (codeBytes ready.cur.mem ready.cur.pc.toNat 3) = .ok (.mvImm (.d 0) 0x12345678, [])
    ∧ ((fld (codeWord ready.cur.mem ready.cur.pc.toNat) 15 1 = 1 ↔ ready.cfg.ilinkLast = true)
      ∧ packetRefusal [.mvImm (.d 0) 0x12345678] (openStep ready) = none ∧ missingMarker ready.cur.expect [.mvImm (.d 0) 0x12345678] = none) :=
  ⟨by unfold running; decide +kernel, runsPacket_of _ _ _ (by decide +kernel) (by decide +kernel), by decide +kernel, by decide +kernel,
    ⟨next_of_asSome (by decide +kernel), next_of_asSome (by decide +kernel)⟩, by decide +kernel, by decide +kernel⟩

/-- A packet that is over, with the delay slot `p` that ran. -/
def ending (p : Option Pending) : State :=
  startLinks fun c => { c with pc := 0x1FFFE, pending := p, ists := { c.ists with currlink := 1, atomic := 1 } }

/-- The end of a packet that ran into LINK 1 from LINK 0, with these bytes there. -/
def crossing (bs : List Byte) : State := startLinks fun c => placeCode bs { c with pc := 0x10000 }

/-- O57, linear execution. -/
theorem witness_PacketEnd_crossing :
    ((crossing []).pre.pending = none ∧ (crossing []).pkt.jumped = false ∧ linkOf twoLinks 0x10000 = some 1 ∧ (1 : LinkId) ≠ (crossing []).cur.ists.currlink)
    ∧ (formPacket 8 0x10000 0 (crossing (packetBytes [.nop])) = .next (.packet [.nop] 0x10002) ∧ formPacket 8 0x10000 0 (crossing [0x00, 0x68]) = .next .undecodable) :=
  ⟨by decide +kernel,
    ⟨next_of_asSome (by decide +kernel), next_of_asSome (by decide +kernel)⟩⟩

/-- O57, a delay slot before another LINK, and the last slot of a delayed RETI.RTINT. -/
theorem witness_PacketEnd_slot :
    { crossing [] with pre := { (crossing []).pre with pending := some ⟨0x1100, 2, .nothing⟩ } }.pre.pending = some ⟨0x1100, 2, .nothing⟩
    ∧ 1 < (⟨0x1100, 2, .nothing⟩ : Pending).remaining ∧ (ending (some ⟨0x10010, 1, .currsp 1⟩)).pre.pending = some ⟨0x10010, 1, .currsp 1⟩ :=
  by decide +kernel

/-- O57, running into a packet whose second word no EXE range covers. -/
theorem witness_PacketEnd_denied :
    linkOf twoLinks 0x3FFFE = some 3
    ∧ formPacket 8 0x3FFFE 0 (startLinks fun c => placeCode [0x00, 0x20] { c with pc := 0x3FFFE }) = .next (.denied 0x40000) :=
  ⟨by decide +kernel, next_of_asSome (by decide +kernel)⟩

/-- O57, each clause. -/
theorem witness_PacketEnd :
    ((ending none).pkt.halted = false ∧ (ending none).cur.fault = none ∧ (ending none).pkt.wraps = false ∧ (ending none).pkt.jumped = false)
    ∧ ((ending none).pre.pending = none ∧ linkOf (ending none).cfg (ending none).cur.pc = some (ending none).cur.ists.currlink)
    ∧ ((ending (some ⟨0x1100, 1, .rpc⟩)).pre.pending = some ⟨0x1100, 1, .rpc⟩ ∧ (ending (some ⟨0x1100, 2, .nothing⟩)).pre.pending = some ⟨0x1100, 2, .nothing⟩)
    ∧ (linkOf linked.cfg linked.cur.pc = some 1 ∧ (1 : LinkId) ≠ (startLinks fun c => { c with pc := 0x10000 }).cur.ists.currlink
      ∧ (startLinks fun c => { c with pc := 0x10000 }).pre.pending = none) :=
  ⟨by decide +kernel, by decide +kernel, by decide +kernel, by decide +kernel⟩

/-- The entry pair is expected; the packet at the program counter is `is`. -/
def expecting (e : Expect) (is : List Instr) : State :=
  start fun c => placeCode (packetBytes is) { c with expect := e }

/-- No packet can be formed at the program counter: its Word 0 has an opcode the model's map does not use. -/
def unformable (e : Expect) : State := start fun c => placeCode [0x00, 0x68] { c with expect := e }

/-- O58, each clause. -/
theorem witness_MissingMarkerFaults :
    ((expecting .isrPair [.nop]).cfg.wf = true ∧ (expecting .isrPair [.nop]).inputs = [] ∧ (expecting .isrPair [.nop]).cur.fault = none ∧ (expecting .isrPair [.nop]).dbg = Debug.off ∧ (expecting .isrPair [.nop]).cur.idle = false ∧ (expecting .isrPair [.nop]).cur.pc.toNat % 2 = 0 ∧ (expecting .isrPair [.nop]).cur.pending = none)
    ∧ (formPacket 8 (expecting .isrPair [.nop]).cur.pc.toNat 0 (openStep (expecting .isrPair [.nop])) = .next (.packet [.nop] 2)
      ∧ missingMarker (expecting .isrPair [.nop]).cur.expect [.nop] = some .missingIsrPair)
    ∧ (formPacket 8 (expecting .entryPair [.nop]).cur.pc.toNat 0 (openStep (expecting .entryPair [.nop])) = .next (.packet [.nop] 2)
      ∧ missingMarker (expecting .entryPair [.nop]).cur.expect [.nop] = some .missingEntry)
    ∧ (∃ t, step (expecting .exitMark [.nop]) = .next t)
    ∧ ((unformable .exitMark).cfg.wf = true ∧ (unformable .exitMark).inputs = [] ∧ (unformable .exitMark).cur.fault = none ∧ (unformable .exitMark).dbg = Debug.off ∧ (unformable .exitMark).cur.idle = false ∧ (unformable .exitMark).cur.pc.toNat % 2 = 0 ∧ (unformable .exitMark).cur.pending = none)
    ∧ (formPacket 8 (unformable .exitMark).cur.pc.toNat 0 (openStep (unformable .exitMark)) = .next .undecodable ∧ missingMarker (unformable .exitMark).cur.expect [] = some .missingExit) :=
  ⟨by decide +kernel,
    ⟨next_of_asSome (by decide +kernel), by decide +kernel⟩,
    ⟨next_of_asSome (by decide +kernel), by decide +kernel⟩,
    next_of_stepped _ (by decide +kernel),
    by decide +kernel,
    ⟨next_of_asSome (by decide +kernel), by decide +kernel⟩⟩

/-- O59. -/
theorem witness_UndecodableStreamTimesOut :
    ((unformable .none).cfg.wf = true ∧ (unformable .none).inputs = [] ∧ (unformable .none).cur.fault = none ∧ (unformable .none).dbg = Debug.off ∧ (unformable .none).cur.idle = false ∧ (unformable .none).cur.pc.toNat % 2 = 0 ∧ (unformable .none).cur.pending = none)
    ∧ (choose (unformable .none).cur = .packet ∧ (unformable .none).cur.expect = .none ∧ choose (unformable .firstOfInt).cur = .packet)
    ∧ (formPacket 8 (unformable .none).cur.pc.toNat 0 (openStep (unformable .none)) = .next .undecodable)
    ∧ (formPacket 8 (unformable .firstOfInt).cur.pc.toNat 0 (openStep (unformable .firstOfInt)) = .next .undecodable) :=
  ⟨by decide +kernel,
    by decide +kernel,
    next_of_asSome (by decide +kernel),
    next_of_asSome (by decide +kernel)⟩

/-- Code that no EXE range covers. -/
def noExe : State := { start fun c => { c with pc := 0x1000 } with cfg := { Params.default with exe := [⟨0, 0, 0⟩] } }

/-- O59, the denied fetch. -/
theorem witness_UndecodableStreamTimesOut_denied :
    (noExe.cfg.wf = true ∧ noExe.inputs = [] ∧ noExe.cur.fault = none ∧ noExe.dbg = Debug.off ∧ noExe.cur.idle = false ∧ noExe.cur.pc.toNat % 2 = 0 ∧ noExe.cur.pending = none)
    ∧ (choose noExe.cur = .packet ∧ noExe.cur.expect = .none)
    ∧ (formPacket 8 noExe.cur.pc.toNat 0 (openStep noExe) = .next (.denied 0x1000)) :=
  ⟨by decide +kernel,
    by decide +kernel,
    next_of_asSome (by decide +kernel)⟩

/-- O60, each clause. -/
theorem witness_PacketRestrictions :
    running (atCode [.ld32Addr1 (.a 2) (.postInc 2 4)] id)
    ∧ (choose (atCode [.ld32Addr1 (.a 2) (.postInc 2 4)] id).cur = .packet ∧ (atCode [.ld32Addr1 (.a 2) (.postInc 2 4)] id).cur.idle = false ∧ (atCode [.ld32Addr1 (.a 2) (.postInc 2 4)] id).cur.pc.toNat % 2 = 0 ∧ (atCode [.ld32Addr1 (.a 2) (.postInc 2 4)] id).cur.expect = .none)
    ∧ (formPacket 8 (atCode [.ld32Addr1 (.a 2) (.postInc 2 4)] id).cur.pc.toNat 0 (openStep (atCode [.ld32Addr1 (.a 2) (.postInc 2 4)] id)) = .next (.packet [.ld32Addr1 (.a 2) (.postInc 2 4)] 0x1004))
    ∧ packetRefusal [.ld32Addr1 (.a 2) (.postInc 2 4)] (openStep (atCode [.ld32Addr1 (.a 2) (.postInc 2 4)] id)) = some .doubleWrite
    ∧ (packetDsts [.ld32Addr1 (.a 2) (.postInc 2 4)] (start id) = [] ++ Dst.reg (.a 2) :: ([] ++ Dst.reg (.a 2) :: []) ∧ (Dst.reg (.a 2)).clash (.reg (.a 2)) = true)
    ∧ (distinctDsts (packetDsts [.st32Dirm 0 (.d 0), .st32Dirm 4 (.d 0)] (start id)) = true ∧ 1 < ([Instr.st32Dirm 0 (.d 0), .st32Dirm 4 (.d 0)].map fun i => (profile i).stores).sum)
    ∧ ((profile (.ret 3)).disc = true ∧ (ending (some ⟨0x1100, 1, .rpc⟩)).cur.pending = some ⟨0x1100, 1, .rpc⟩ ∧ (ending (some ⟨0x1100, 1, .rpc⟩)).cur.xcCover = 0)
    ∧ (goes (.branch (.label 0) .always 1) (start id) = true ∧ goes (.bcmpz 0 (.rel .eq) 0 2) (start id) = true ∧ goes (.bcmpz 0 (.rel .neq) 0 0) (start id) = false)
    ∧ (Dst.ovFlags ∈ (profile (.subReg .d 0 1 2)).dests ∧ Dst.fpFlags ∈ (profile (.ftos16 7 6)).dests)
    ∧ (targetStack 0x2000 (start id) = stackOf (start id).cfg (start id).pre.ists.currlink ∧ targetStack 0x20000 linked ≠ stackOf linked.cfg linked.pre.ists.currlink)
    ∧ ((start id).cfg.retiIntRestoresInte = none ∧ inIntOnly.cfg.retiIntRestoresInte = some true ∧ keepsInte.cfg.retiIntRestoresInte = some false)
    ∧ ((start id).cur.pending = none ∧ (start id).cur.xcCover = 0 ∧ Instr.nop ≠ .idle ∧ distinctDsts (packetDsts [.idle, .nop] (start id)) = true
      ∧ (profile .nop).loads ≤ 2 ∧ (profile .nop).stores ≤ 1) :=
  ⟨by unfold running; decide +kernel,
    by decide +kernel,
    next_of_asSome (by decide +kernel),
    by decide +kernel,
    by decide +kernel,
    by decide +kernel,
    by decide +kernel,
    by decide +kernel,
    by decide +kernel,
    by decide +kernel,
    by decide +kernel,
    by decide +kernel⟩

/-- A debugger is connected to a CPU with an NMI pending and the packet `is` at the program counter. -/
def debugged (m : DebugMode) (hp : Bool) (es : List Event) (is : List Instr) : State :=
  { atCode is (fun c => { c with nmiPending := true }) with dbg := ⟨true, m, hp⟩, inputs := if es.isEmpty then [] else [es] }

/-- O52, each clause, with an NMI pending. -/
theorem witness_DebugStates :
    ((debugged .run true [] [.nop]).cfg.wf = true ∧ (debugged .run true [] [.nop]).cur.fault = none ∧ (debugged .run true [] [.nop]).dbg.connected = true ∧ (debugged .run true [] [.nop]).dbg.haltPending = true)
    ∧ ((debugged .run true [] [.nop]).inputs = [] ∧ (debugged .run true [] [.nop]).cur.pending = none ∧ (debugged .run true [] [.nop]).cur.expect = .none ∧ (debugged .run true [] [.nop]).cur.idle = false ∧ (debugged .run true [] [.nop]).cur.xcCover = 0 ∧ (debugged .run true [] [.nop]).cur.pc.toNat % 2 = 0)
    ∧ ((deliver (debugged .halt false [.reset, .nmi] [.nop])).dbg.mode = .halt ∧ (deliver (debugged .waitSync true [.int 0 0 true] [.nop])).dbg.mode = .waitSync ∧ (deliver (debugged (.singleStep false) false [.reset] [.nop])).dbg.mode = .singleStep false)
    ∧ ((debugged .waitSync false [.dbgSync] [.nop]).dbg.mode = .waitSync ∧ nextBatch (debugged .waitSync false [.dbgSync] [.nop]) = [.dbgSync])
    ∧ ((debugged .freeRun true [] [.emustop0]).dbg.mode = .freeRun ∧ ∃ t, step (debugged .freeRun true [] [.emustop0]) = .next t)
    ∧ ((debugged (.singleStep false) false [] [.nop]).inputs = [] ∧ (debugged (.singleStep false) false [] [.nop]).cur.pending = none ∧ (debugged (.singleStep false) false [] [.nop]).cur.expect = .none ∧ (debugged (.singleStep false) false [] [.nop]).cur.idle = false ∧ (debugged (.singleStep false) false [] [.nop]).cur.xcCover = 0 ∧ (debugged (.singleStep false) false [] [.nop]).cur.pc.toNat % 2 = 0)
    ∧ staysInLink 0x1002 (debugged (.singleStep false) false [] [.nop])
    ∧ (formPacket 8 (debugged (.singleStep false) false [] [.nop]).cur.pc.toNat 0 (openStep (debugged (.singleStep false) false [] [.nop])) = .next (.packet [.nop] 0x1002))
    ∧ ((debugged .run false [] [.emustop0]).inputs = [] ∧ (debugged .run false [] [.emustop0]).cur.pending = none ∧ (debugged .run false [] [.emustop0]).cur.expect = .none ∧ (debugged .run false [] [.emustop0]).cur.idle = false ∧ (debugged .run false [] [.emustop0]).cur.xcCover = 0 ∧ (debugged .run false [] [.emustop0]).cur.pc.toNat % 2 = 0)
    ∧ (formPacket 8 (debugged .run false [] [.emustop0]).cur.pc.toNat 0 (openStep (debugged .run false [] [.emustop0])) = .next (.packet [.emustop0] 0x1002))
    ∧ (nextBatch (debugged .halt false [.dbgWrite (.reg (.d 3)) 7] [.nop]) = [.dbgWrite (.reg (.d 3)) 7] ∧ (debugged .halt false [.dbgWrite (.reg (.d 3)) 7] [.nop]).dbg.mode = .halt ∧ (debugged .run false [.dbgWrite (.reg (.d 3)) 7] [.nop]).dbg.mode ≠ .halt)
    ∧ (nextBatch (debugged .halt false [.dbgWriteMem 0x9000 5] [.nop]) = [.dbgWriteMem 0x9000 5] ∧ regionOf Params.default 0x9000 = some .ram)
    ∧ (nextBatch (debugged .halt false [.dbgWrite .pc 0x2000] [.nop]) = [.dbgWrite .pc 0x2000] ∧ nextBatch (debugged .halt false [.dbgWrite .pc 0x2001] [.nop]) = [.dbgWrite .pc 0x2001] ∧ nextBatch (debugged .halt false [.dbgWrite .rpc 0x2001] [.nop]) = [.dbgWrite .rpc 0x2001])
    ∧ (nextBatch (debugged .halt false [.dbgWrite (.status .dsts) 1] [.nop]) = [.dbgWrite (.status .dsts) 1] ∧ nextBatch (debugged .halt false [.dbgWrite (.status .ests) 1] [.nop]) = [.dbgWrite (.status .ests) 1] ∧ nextBatch (debugged .run false [.dbgWriteMem 0x9000 5] [.nop]) = [.dbgWriteMem 0x9000 5])
    ∧ (nextBatch { faulted [.dbgRun] with cur := (start id).cur } = [.dbgRun] ∧ { faulted [.dbgRun] with cur := (start id).cur }.cur.fault = none ∧ (faulted [.dbgRun]).dbg.connected = false)
    ∧ (nextBatch (debugged .halt false [.dbgRun] [.nop]) = [.dbgRun] ∧ nextBatch (debugged .halt false [.dbgHalt, .dbgFreeRun] [.nop]) = [.dbgHalt, .dbgFreeRun] ∧ nextBatch (debugged .halt false [.dbgSyncRun] [.nop]) = [.dbgSyncRun] ∧ (debugged .run false [.dbgRun] [.nop]).dbg.mode ≠ .halt)
    ∧ (nextBatch (debugged .run false [.dbgHalt] [.nop]) = [.dbgHalt] ∧ nextBatch (debugged .halt false [.dbgHalt] [.nop]) = [.dbgHalt] ∧ nextBatch (debugged .halt false [.dbgHalt, .dbgStep true] [.nop]) = [.dbgHalt, .dbgStep true]) :=
  ⟨by decide +kernel,
    by decide +kernel,
    by decide +kernel,
    by decide +kernel,
    ⟨by decide +kernel, next_of_stepped _ (by decide +kernel)⟩,
    by decide +kernel,
    by unfold staysInLink; decide +kernel,
    next_of_asSome (by decide +kernel),
    by decide +kernel,
    next_of_asSome (by decide +kernel),
    by decide +kernel,
    by decide +kernel,
    by decide +kernel,
    by decide +kernel,
    by decide +kernel,
    by decide +kernel,
    by decide +kernel⟩

/-- O32. -/
theorem witness_EventsSetLatches :
    (start id).cur.fault = none ∧ (faulted [.nmi]).cur.fault ≠ none
    ∧ firstRtint [.nmi, .rtint 2 3, .rtint 4 5] = some ⟨2, 3⟩ ∧ firstInt [.rtint 2 3] = none :=
  by decide +kernel

/-- O12, each event. -/
theorem witness_EventsWriteStackRegistersAndMemory :
    (start id).cur.fault = none ∧ nextBatch ({ start id with inputs := [[.nmi, .setSecsp 15 8]] }) = [.nmi] ++ [.setSecsp 15 8]
    ∧ nextBatch ({ start id with inputs := [[.nmi, .setWarnPsp 0]] }) = [.nmi] ++ [.setWarnPsp 0] ∧ nextBatch ({ start id with inputs := [[.nmi, .setIntsp 15]] }) = [.nmi] ++ [.setIntsp 15]
    ∧ nextBatch ({ start id with inputs := [[.nmi, .busWrite 0xFFFFFFFF 7]] }) = [.nmi] ++ [.busWrite 0xFFFFFFFF 7] ∧ regionOf Params.default 0xFFFFFFFF = some .ram ∧ regionOf devices 0x1FFFFFFF = some .peripheral
    ∧ nextBatch { start id with inputs := [[.setWarnRtisp 3]] } = [.setWarnRtisp 3] :=
  by decide +kernel

/-- O13. -/
theorem witness_InstructionsReadStateBeforePacket :
    samePacket (start id) { start id with cur := { (start id).cur with d := (start id).cur.d.set 3 9, rpc := 4, stored := [8] } }
    ∧ (∃ t, exec (.st32Dirm 0x9000 (.d 3)) (start id) = .next t ∧ t.pkt.halted = false) ∧ Dst.everything ∉ destsOf (.st32Dirm 0x9000 (.d 3)) (start id)
    ∧ hasProt [.ldRpc 0x9000] = false ∧ Dst.reg (.d 3) ∉ destsOf (.ldRpc 0x9000) (start id) ∧ Dst.rpc ∉ destsOf .nop (start id) ∧ (profile (.ldRpc 0x9000)).stores = 0 :=
  ⟨⟨(start id).cur.a, (start id).cur.d.set 3 9, (start id).cur.m, 4, (start id).cur.mem, [8], rfl⟩, ⟨_, next_of_asSome rfl, by decide +kernel⟩, by decide +kernel,
    by decide +kernel, by decide +kernel, by decide +kernel, by decide +kernel⟩

/-- Eight instructions without a last mark are no legal packet, though the ninth word is a stored one (the model's choice, log entry 60). -/
theorem test_ninth_word_not_fetched :
    asSome (formPacket 8 0x1000 0 (start fun c => { placeCode ((List.replicate 8 [0x00, 0xE1]).flatten) { c with pc := 0x1000 } with stored := [0x1010] }))
      = some .undecodable := by decide +kernel

/-- The debugger's write of PC keeps the marker still expected (the model's choice, log entry 55). -/
theorem test_dbgMovePc_keeps_expect :
    (dbgMovePc 0x2000 (start fun c => { c with expect := .isrPair })).cur.expect = .isrPair := by decide +kernel

/-- The NOP is the last word of memory. -/
def lastWord : State := start fun c => placeCode (packetBytes [.nop]) { c with pc := 0xFFFFFFFE }

/-- A packet of two that ends at the top of memory, in the last delay slot but one. -/
def lastSlot : State :=
  start fun c => placeCode (packetBytes [.addU16 1 2 3, .nop]) { c with pc := 0xFFFFFFFA, pending := some ⟨0x1000, 2, .nothing⟩ }

/-- O21, each clause; the top of memory at a lone NOP and in a delay slot. -/
theorem witness_FetchAndFormationStops :
    ({ start id with cfg := { Params.default with resetPc := 1 } }.cfg.wf = false)
    ∧ (running { start id with cur := { (start id).cur with pc := 0xFFFFFFFF } } ∧ choose { start id with cur := { (start id).cur with pc := 0xFFFFFFFF } }.cur = .packet)
    ∧ (runsPacket [.nop] 4294967296 lastWord ∧ (∃ u, execAll (arrange [.nop]) (openPacket 4294967296 (openStep lastWord)) = .next u
        ∧ u.cur.fault = none ∧ u.pkt.halted = false ∧ u.pkt.jumped = false) ∧ ∀ p, lastWord.cur.pending = some p → 1 < p.remaining)
    ∧ (runsPacket [.addU16 1 2 3, .nop] 4294967296 lastSlot
      ∧ (∃ u, execAll (arrange [.addU16 1 2 3, .nop]) (openPacket 4294967296 (openStep lastSlot)) = .next u
        ∧ u.cur.fault = none ∧ u.pkt.halted = false ∧ u.pkt.jumped = false) ∧ ∀ p, lastSlot.cur.pending = some p → 1 < p.remaining)
    ∧ (wordOk 0xFFFFFFFE lastWord ∧ 4294967296 < 0xFFFFFFFE + 2 * 1 + 2)
    ∧ (linkOf noExe.cfg (BitVec.ofNat 32 0x1000) = none ∧ linkOf Params.default (BitVec.ofNat 32 0x1000) = some 0 ∧ regionOf { Params.default with map := [] } (BitVec.ofNat 32 0x1000) = none)
    ∧ (regionOf Params.default (BitVec.ofNat 32 0x1000) = some .ram ∧ 0x1000 + 2 * 0 + 1 ∈ (start fun c => { c with stored := [0x1001] }).cur.stored)
    ∧ (formPacket 8 0x1000 0 (openStep (start fun c => { c with pc := 0x1000, stored := [0x1001] })) = .refused (.storedCode 0x1000))
    ∧ (fetchable 0x1000 1 (start fun c => placeCode [0x12, 0x28, 0x4F, 0x00] { c with pc := 0x1000 }) = .next none)
    ∧ (formPacket 8 0x1000 0 (start fun c => placeCode [0x12, 0x28, 0x4F, 0x00] { c with pc := 0x1000 }) = .refused .spOperand) :=
  ⟨by decide +kernel,
    ⟨by unfold running; decide +kernel, by decide +kernel⟩,
    ⟨runsPacket_of _ _ _ (by decide +kernel) (by decide +kernel), ⟨_, rfl, by decide +kernel, by decide +kernel, by decide +kernel⟩,
      fun p h => (by cases h)⟩,
    ⟨runsPacket_of _ _ _ (by decide +kernel) (by decide +kernel), ⟨_, rfl, by decide +kernel, by decide +kernel, by decide +kernel⟩,
      fun p h => (by cases h; decide)⟩,
    ⟨by unfold wordOk; decide +kernel, by decide⟩,
    by decide +kernel,
    by decide +kernel,
    refused_of (by decide +kernel),
    next_of_asSome (by decide +kernel),
    refused_of (by decide +kernel)⟩

/-- O36, a CPU in STACK 1 and one that is about to leave for it. -/
theorem witness_StepKeepsStackOfLink :
    stackFollowsLink linkedSame ∧ stackFollowsLink (startLinks fun c => { c with pending := some ⟨0x10010, 1, .currsp 1⟩ })
    ∧ ∃ t, step (startLinks fun c => placeCode (packetBytes [.nop]) { c with pending := some ⟨0x10010, 1, .currsp 1⟩ }) = .next t :=
  ⟨⟨fun _ => ⟨forall_some 1 (by decide +kernel) (by decide +kernel), fun p _ h => (by cases h)⟩, fun _ => by decide +kernel⟩,
    ⟨fun _ => ⟨forall_some 0 (by decide +kernel) (by decide +kernel), fun p l h e => by
      cases h; have := forall_some (P := fun l => (1 : StackId) = stackOf twoLinks l) 1 (by decide +kernel) (by decide +kernel) l e; exact this⟩,
      fun h => by rcases h with h | h <;> cases h⟩, next_of_stepped _ (by decide +kernel)⟩

end Sys2Proof.Tests
end

section
/-! PROOFS. What one instruction changes: of the working registers and RPC those its profile names, of memory nothing where the profile
counts no store, of the debugger's side nothing but at an EMUSTOP0 that halts. One lemma for each shared operation, then `exec`. -/

namespace Sys2Proof.Proofs

open Sys2Proof.Machine Sys2Proof.Laws

/-- From `s` to `t` only the registers and RPC that `W` names may have changed, memory only where there are stores, and the debugger's
side not at all. -/
def changes (W : Dst → Prop) (stores : Nat) (s t : State) : Prop :=
  (∀ r, ¬ W (.reg r) → curReg t r = curReg s r) ∧ (¬ W .rpc → t.cur.rpc = s.cur.rpc)
    ∧ (stores = 0 → ∀ b, memByte t.cur.mem b = memByte s.cur.mem b) ∧ t.dbg = s.dbg

variable {W : Dst → Prop} {k : Nat} {s t u : State}

theorem changes_refl (W : Dst → Prop) (k : Nat) (s : State) : changes W k s s := ⟨fun _ _ => rfl, fun _ => rfl, fun _ _ => rfl, rfl⟩

theorem changes_trans (h : changes W k s t) (g : changes W k t u) : changes W k s u := by
  obtain ⟨h1, h2, h3, h4⟩ := h
  obtain ⟨g1, g2, g3, g4⟩ := g
  exact ⟨fun r n => (g1 r n).trans (h1 r n), fun n => (g2 n).trans (h2 n), fun n b => (g3 n b).trans (h3 n b), g4.trans h4⟩

/-- What leaves the working registers, RPC, memory and the debugger alone. -/
theorem changes_of_eq (ha : t.cur.a = s.cur.a) (hd : t.cur.d = s.cur.d) (hm : t.cur.m = s.cur.m) (hr : t.cur.rpc = s.cur.rpc)
    (hx : t.cur.mem = s.cur.mem) (hg : t.dbg = s.dbg) : changes W k s t :=
  ⟨fun r _ => by cases r <;> simp [curReg, ha, hd, hm], fun _ => hr, fun _ _ => by rw [hx], hg⟩

/-! ### Operations that always answer -/

/-- A write of one register leaves the others. -/
theorem curReg_writeReg_of_ne {r q : Reg} (v : Word) (s : State) (h : q ≠ r) : curReg (writeReg r v s) q = curReg s q := by
  cases r <;> cases q <;> simp_all [curReg, writeReg, Fin.ext_iff, eq_comm]

/-- A register just written holds the value. -/
theorem curReg_writeReg_same (r : Reg) (v : Word) (s : State) : curReg (writeReg r v s) r = v := by
  cases r <;> simp [curReg, writeReg]

theorem writeReg_changes (r : Reg) (v : Word) (s : State) (h : W (.reg r)) : changes W k s (writeReg r v s) :=
  ⟨fun _ n => curReg_writeReg_of_ne v s fun e => n (e ▸ h), fun _ => by simp, fun _ _ => by simp, by simp⟩

theorem writeA_changes (i : Fin 16) (v : Word) (s : State) (h : W (.reg (.a i))) : changes W k s (writeA i v s) :=
  writeReg_changes (.a i) v s h

theorem writeRpc_changes (v : Word) (s : State) (h : W .rpc) : changes W k s (writeRpc v s) :=
  ⟨fun r _ => by cases r <;> rfl, fun n => (n h).elim, fun _ _ => rfl, rfl⟩

theorem writeX_changes (x : XReg) (v : DWord) (s : State) (hl : W (.reg (lowReg x))) (hh : W (.reg (highReg x))) :
    changes W k s (writeX x v s) :=
  changes_trans (writeReg_changes _ _ _ hl) (writeReg_changes _ _ _ hh)

/-- The register a mode writes, as a destination. -/
def sideDsts (e : EffAddr) : List Dst := (e.side.map fun w => Dst.reg (.a w.1)).toList

theorem sideDsts_evalAddr1 (m : Addr1) (s : State) : sideDsts (evalAddr1 m s) = side1 m := by cases m <;> rfl

theorem sideDsts_evalAddr2 (m : Addr2) (n : Nat) (s : State) : sideDsts (evalAddr2 m n s) = side2 m := by cases m <;> rfl

theorem applySide_changes (e : EffAddr) (s : State) (h : ∀ x ∈ sideDsts e, W x) : changes W k s (applySide e s) := by
  unfold applySide
  split
  · exact changes_refl _ _ _
  · rename_i w hw
    exact writeA_changes _ _ _ (h _ (by simp [sideDsts, hw]))

theorem raise_changes (c : Cause) (s : State) : changes W k s (raise c s) := by
  unfold raise
  split
  · exact changes_refl _ _ _
  · exact changes_of_eq rfl rfl rfl rfl rfl rfl

theorem raiseIf_changes (b : Bool) (c : Cause) (s : State) : changes W k s (raiseIf b c s) := by
  cases b
  · exact changes_refl _ _ _
  · exact raise_changes c s

theorem checkSp_changes (s : State) : changes W k s (checkSp s) := raiseIf_changes _ _ _

theorem checkTransfer_changes (target : Word) (s : State) : changes W k s (checkTransfer target s) := by
  unfold checkTransfer
  split
  · exact changes_refl _ _ _
  · exact raiseIf_changes _ _ _

theorem writeStatus_changes (q : StatusReg) (v : Word) (s : State) : changes W k s (writeStatus q v s) := by
  cases q <;> exact changes_of_eq rfl rfl rfl rfl rfl rfl

theorem writeSum_changes (b : IBank) (z : Fin 16) (v : Word) (o neg : Bool) (s : State) (h : W (.reg (bankReg b z))) :
    changes W k s (writeSum b z v o neg s) := by
  cases b with
  | a => exact writeReg_changes (.a z) v s h
  | d =>
    cases o
    · exact writeReg_changes (.d z) v s h
    · exact changes_trans (changes_of_eq rfl rfl rfl rfl rfl rfl)
        (writeReg_changes (.d z) v { s with cur := { s.cur with ests := recordOverflow (drawBit 0 s) neg s.cur.ests } } h)

theorem writeTestDst_changes (d : TestDst) (b : Bool) (s : State) : changes W k s (spend 1 (writeTestDst d b s)) := by
  rcases d with f | _ | _ | _
  · cases f <;> exact changes_of_eq rfl rfl rfl rfl rfl rfl
  all_goals exact changes_of_eq rfl rfl rfl rfl rfl rfl

@[simp] theorem scrambleWork_mem (s : State) : (scrambleWork s).cur.mem = s.cur.mem := by simp only [scrambleWork, spend_cur]
@[simp] theorem scrambleWork_rpc (s : State) : (scrambleWork s).cur.rpc = s.cur.rpc := by simp only [scrambleWork, spend_cur]
@[simp] theorem scrambleWork_dbg (s : State) : (scrambleWork s).dbg = s.dbg := by simp only [scrambleWork, spend_dbg]
@[simp] theorem scrambleWork_cfg (s : State) : (scrambleWork s).cfg = s.cfg := by simp only [scrambleWork, spend_cfg]

/-- A protected transfer frees the working registers (R254). -/
theorem scrambleWork_changes (s : State) (h : ∀ r, W (.reg r)) : changes W k s (scrambleWork s) :=
  ⟨fun r n => (n (h r)).elim, fun _ => scrambleWork_rpc s, fun _ _ => by rw [scrambleWork_mem], scrambleWork_dbg s⟩

theorem swapStacks_changes (src dst : StackId) (pushed : Option Word) (s : State) (h : W (.reg (.a 15))) :
    changes W k s (swapStacks src dst pushed s) := by
  rcases swapStacks_cases src dst pushed s with ⟨-, -, e⟩ | ⟨sp, -, -, e⟩ | ⟨-, e⟩ <;> rw [e]
  · exact changes_refl _ _ _
  · exact writeA_changes 15 sp s h
  · exact changes_trans (changes_of_eq rfl rfl rfl rfl rfl rfl)
      (writeA_changes 15 _ { s with cur := { s.cur with secsp := s.cur.secsp.set src (pushed.getD (readSp s)) } } h)

theorem pushProt_changes (f : ProtFrame) (s : State) : changes W k s (pushProt f s) := by
  unfold pushProt
  split
  · split <;> exact changes_of_eq rfl rfl rfl rfl rfl rfl
  · exact changes_refl _ _ _

/-! ### Operations that may stop -/

theorem stopUnlessFaulted_changes {r : Refusal} (h : stopUnlessFaulted r s = .next t) : changes W k s t := by
  unfold stopUnlessFaulted at h
  split at h <;> cases h
  exact changes_refl _ _ _

theorem memRead_changes {a : Word} {n : Nat} {v : DWord} (h : memRead a n s = .next (v, t)) : changes W k s t := by
  obtain ⟨hc, -, -, -, -, hd, -⟩ := memRead_next a n s v t h
  exact changes_of_eq (by rw [hc]) (by rw [hc]) (by rw [hc]) (by rw [hc]) (by rw [hc]) hd

/-- What only stores changes no register. -/
theorem changes_of_memoryOnly (h : memoryOnly s t) : changes W 1 s t := by
  obtain ⟨⟨m, l, f, e⟩, -, -, -, -, hd, -⟩ := h
  exact ⟨fun r _ => by cases r <;> simp [curReg, e], fun _ => by rw [e], fun n => by omega, hd⟩

theorem memWrite_changes {a : Word} {n : Nat} {v : DWord} (h : memWrite a n v s = .next t) : changes W 1 s t :=
  changes_of_memoryOnly (memWrite_memoryOnly _ _ _ _ _ h)

theorem pushFrame_changes {sp v : Word} {n : Nat} (h : pushFrame sp n v s = .next t) : changes W 1 s t := by
  obtain ⟨u, hu, ht⟩ := andThen_eq_next h
  refine changes_trans (memWrite_changes hu) ?_
  split at ht
  · exact changes_of_memoryOnly (scribble_memoryOnly _ _ _ _ ht)
  · cases ht; exact changes_refl _ _ _

theorem jumpTo_changes {delay : Fin 8} {late : Late} {target : Word} (h : jumpTo delay late target s = .next t) : changes W k s t := by
  rcases jumpTo_next _ _ _ _ _ h with ⟨-, e, -⟩ | ⟨-, -, e⟩ | ⟨-, -, e⟩ <;> rw [e] <;> exact changes_of_eq rfl rfl rfl rfl rfl rfl

theorem loadReg_changes {n : Nat} {f : Word → DWord → Word} {r : Reg} {e : EffAddr} (h : loadReg n f r e s = .next t)
    (hW : ∀ x ∈ .reg r :: sideDsts e, W x) : changes W k s t := by
  obtain ⟨v, hv, ht⟩ := andThen_eq_next h
  cases ht
  exact changes_trans (memRead_changes hv) (changes_trans (writeReg_changes _ _ _ (hW _ (by simp)))
    (applySide_changes _ _ fun x hx => hW x (by simp [hx])))

theorem loadPair_changes {x : XReg} {e : EffAddr} (h : loadPair x e s = .next t) (hW : ∀ y ∈ pairDsts x ++ sideDsts e, W y) :
    changes W k s t := by
  obtain ⟨v, hv, ht⟩ := andThen_eq_next h
  cases ht
  exact changes_trans (memRead_changes hv) (changes_trans (writeX_changes _ _ _ (hW _ (by simp [pairDsts])) (hW _ (by simp [pairDsts])))
    (applySide_changes _ _ fun y hy => hW y (by simp [hy])))

theorem storeVal_changes {n : Nat} {v : DWord} {e : EffAddr} (h : storeVal n v e s = .next t) (hW : ∀ x ∈ sideDsts e, W x) :
    changes W 1 s t := by
  obtain ⟨u, hu, ht⟩ := andThen_eq_next h
  cases ht
  exact changes_trans (memWrite_changes hu) (applySide_changes _ _ hW)

theorem moveMem_changes {n : Nat} {dst src : EffAddr} (h : moveMem n dst src s = .next t) (hW : ∀ x ∈ sideDsts dst ++ sideDsts src, W x) :
    changes W 1 s t := by
  obtain ⟨v, hv, ht⟩ := andThen_eq_next h
  obtain ⟨u, hu, ht⟩ := andThen_eq_next ht
  cases ht
  exact changes_trans (memRead_changes hv) (changes_trans (memWrite_changes hu) (changes_trans
    (applySide_changes _ _ fun x hx => hW x (by simp [hx])) (applySide_changes _ _ fun x hx => hW x (by simp [hx]))))

theorem modifyMem_changes {n : Nat} {f : DWord → DWord} {e : EffAddr} (h : modifyMem n f e s = .next t) (hW : ∀ x ∈ sideDsts e, W x) :
    changes W 1 s t := by
  obtain ⟨v, hv, ht⟩ := andThen_eq_next h
  obtain ⟨u, hu, ht⟩ := andThen_eq_next ht
  cases ht
  exact changes_trans (memRead_changes hv) (changes_trans (memWrite_changes hu) (applySide_changes _ _ hW))

theorem callTo_changes {target : Word} {delay : Fin 8} (h : callTo target delay s = .next t) (hr : W .rpc) (hs : W (.reg (.a 15))) :
    changes W 1 s t := by
  obtain ⟨u, hu, ht⟩ := andThen_eq_next h
  have hu : changes W 1 s u := changes_trans (checkSp_changes s) (changes_trans (checkTransfer_changes target _) (pushFrame_changes hu))
  have hsp : changes W 1 u (writeSp (readSp s + 8) u) := writeA_changes _ _ _ hs
  refine changes_trans hu (changes_trans hsp (changes_trans ?_ (jumpTo_changes ht)))
  split
  · exact writeRpc_changes _ _ hr
  · exact changes_refl _ _ _

theorem returnTo_changes {delay : Fin 8} (h : returnTo delay s = .next t) (hr : W .rpc) (hs : W (.reg (.a 15))) : changes W k s t := by
  obtain ⟨v, hv, ht⟩ := andThen_eq_next h
  exact changes_trans (checkSp_changes s) (changes_trans (checkTransfer_changes s.pre.rpc _) (changes_trans (memRead_changes hv)
    (changes_trans (writeRpc_changes _ _ hr) (changes_trans (writeA_changes 15 _ _ hs) (jumpTo_changes ht)))))

theorem branchTo_changes {target : Word} {delay : Fin 8} (h : branchTo target delay s = .next t) : changes W k s t :=
  changes_trans (checkTransfer_changes target s) (jumpTo_changes h)

theorem enterProtected_changes {target : Word} {pushed : Option Word} (h : enterProtected target pushed s = .next t)
    (hW : ∀ r, W (.reg r)) : changes W k s t := by
  have h1 := swapStacks_changes (W := W) (k := k) (stackOf s.cfg s.pre.ists.currlink) (targetStack target s) pushed (scrambleWork s) (hW _)
  have h2 := jumpTo_changes (W := W) (k := k) h
  exact changes_trans (scrambleWork_changes s hW) (changes_trans h1 (changes_trans (changes_of_eq rfl rfl rfl rfl rfl rfl) h2))

theorem callProt_changes {target : Word} (h : callProt target s = .next t) (hr : W .rpc) (hW : ∀ r, W (.reg r)) : changes W 1 s t := by
  obtain ⟨u, hu, ht⟩ := andThen_eq_next h
  exact changes_trans (checkSp_changes s) (changes_trans (raiseIf_changes _ _ _) (changes_trans (pushFrame_changes hu)
    (changes_trans (writeRpc_changes _ _ hr) (changes_trans (pushProt_changes _ _) (enterProtected_changes ht hW)))))

theorem returnProt_changes (h : returnProt s = .next t) (hr : W .rpc) (hW : ∀ r, W (.reg r)) : changes W k s t := by
  unfold returnProt at h
  split at h
  · exact changes_trans (checkSp_changes s) (stopUnlessFaulted_changes h)
  · simp only at h
    split at h
    · exact changes_trans (checkSp_changes s) (stopUnlessFaulted_changes h)
    · obtain ⟨v, hv, ht⟩ := andThen_eq_next h
      have h1 : changes W k s (writeRpc (lowWord v.1) (scrambleWork v.2)) := changes_trans (checkSp_changes s)
        (changes_trans (memRead_changes hv) (changes_trans (scrambleWork_changes v.2 hW) (writeRpc_changes _ _ hr)))
      generalize writeRpc (lowWord v.1) (scrambleWork v.2) = w at h1 ht
      refine changes_trans h1 (changes_trans ?_ (jumpTo_changes ht))
      refine changes_trans (t := writeSp _ _) (changes_trans ?_ (writeA_changes 15 _ _ (hW _))) (changes_of_eq rfl rfl rfl rfl rfl rfl)
      split
      · exact changes_refl _ _ _
      · exact changes_of_eq rfl rfl rfl rfl rfl rfl

theorem returnInt_changes {delay : Fin 8} (h : returnInt delay s = .next t) (hr : W .rpc) (hs : W (.reg (.a 15))) : changes W k s t := by
  unfold returnInt at h
  split at h
  · obtain ⟨v, hv, ht⟩ := andThen_eq_next h
    have h2 := jumpTo_changes (W := W) (k := k) ht
    exact changes_trans (checkSp_changes s) (changes_trans (checkTransfer_changes s.pre.rpc _) (changes_trans (memRead_changes hv)
      (changes_trans (writeRpc_changes _ _ hr) (changes_trans (writeA_changes 15 _ _ hs)
        (changes_trans (changes_of_eq rfl rfl rfl rfl rfl rfl) h2)))))
  · exact stopUnlessFaulted_changes h

theorem returnRealtime_changes {delay : Fin 8} (h : returnRealtime delay s = .next t) (hW : ∀ x, W x) : changes W k s t := by
  unfold returnRealtime at h
  split at h
  · exact stopUnlessFaulted_changes h
  · have h2 := jumpTo_changes (W := W) (k := k) h
    refine changes_trans ?_ h2
    exact ⟨fun r n => (n (hW _)).elim, fun n => (n (hW _)).elim, fun _ _ => rfl, rfl⟩

/-! ### Instructions whose meaning branches -/

theorem execAtomic_changes {n : BitVec 8} (h : execAtomic n s = .next t) : changes W k s t := by
  unfold execAtomic at h
  split_ifs at h
  · exact stopUnlessFaulted_changes h
  all_goals cases h; exact changes_of_eq rfl rfl rfl rfl rfl rfl

theorem execBranch_changes {target : BrTarget} {c : Cond} {delay : Fin 8} (h : execBranch target c delay s = .next t) :
    changes W k s t := by
  unfold execBranch at h
  split_ifs at h
  · exact branchTo_changes h
  · cases h; exact changes_refl _ _ _

theorem execBcmpz_changes {label : Word} {c : DCond} {x : Fin 16} {delay : Fin 8} (h : execBcmpz label c x delay s = .next t) :
    changes W k s t := by
  have hf : changes W k s (bcmpzFlags (readD x s) s) := changes_of_eq rfl rfl rfl rfl rfl rfl
  unfold execBcmpz at h
  split_ifs at h
  · exact changes_trans hf (branchTo_changes h)
  · cases h; exact hf

theorem execLdRpc_changes {a : Word} (h : execLdRpc a s = .next t) (hr : W .rpc) : changes W k s t := by
  obtain ⟨v, hv, ht⟩ := andThen_eq_next h
  cases ht
  exact changes_trans (memRead_changes hv) (writeRpc_changes _ _ hr)

theorem execStatusOp_changes {op : StatusOp} (h : execStatusOp op s = .next t) (hW : ∀ x ∈ (statusProfile op).dests, W x) :
    changes W (statusProfile op).stores s t := by
  cases op with
  | load r m =>
    obtain ⟨v, hv, ht⟩ := andThen_eq_next h
    cases ht
    refine changes_trans (memRead_changes hv) (changes_trans (writeStatus_changes _ _ _) (applySide_changes _ _ fun x hx => hW x ?_))
    rw [sideDsts_evalAddr1] at hx
    exact List.mem_cons_of_mem _ hx
  | store r m => exact storeVal_changes h fun x hx => hW x (by rwa [sideDsts_evalAddr1] at hx)
  | toReg r dst => cases h; exact writeReg_changes _ _ _ (hW _ (List.mem_singleton_self _))
  | ofReg r src => cases h; exact writeStatus_changes _ _ _
  | andImm r imm => cases h; exact writeStatus_changes _ _ _
  | orImm r imm => cases h; exact writeStatus_changes _ _ _

theorem execSubReg_changes {b : IBank} {z y x : Fin 16} (h : execSubReg b z y x s = .next t) (hz : W (.reg (bankReg b z))) :
    changes W k s t := by
  unfold execSubReg at h
  split at h <;> cases h <;> exact writeSum_changes _ _ _ _ _ _ hz

theorem execMvReg_changes {op : MvRegs} (h : execMvReg op s = .next t) (hW : ∀ x ∈ (profile (.mvReg op)).dests, W x) :
    changes W k s t := by
  cases op with
  | word dst src => cases h; exact writeReg_changes _ _ _ (hW _ (List.mem_singleton_self _))
  | pair dst src =>
    cases h
    exact writeX_changes _ _ _ (hW _ List.mem_cons_self) (hW _ (List.mem_cons_of_mem _ (List.mem_singleton_self _)))

theorem execCmp_changes {op : CmpRegs} (h : execCmp op s = .next t) : changes W k s t := by
  cases op <;> cases h <;> exact changes_of_eq rfl rfl rfl rfl rfl rfl

theorem execIncCirc_changes {y : Fin 4} {x : Fin 16} (h : execIncCirc y x s = .next t) (hy : W (.reg (.a (indexReg y)))) :
    changes W k s t := by
  simp only [execIncCirc] at h
  split at h <;> cases h <;> exact writeA_changes _ _ _ hy

theorem execDecCirc_changes {y : Fin 4} {x : Fin 16} (h : execDecCirc y x s = .next t) (hy : W (.reg (.a (indexReg y)))) :
    changes W k s t := by
  simp only [execDecCirc] at h
  split at h <;> cases h <;> exact writeA_changes _ _ _ hy

/-- An EMUSTOP0 either halts before its packet or has no effect (R296). -/
theorem execEmustop0_cases (s : State) :
    (breakArmed s = false ∧ execEmustop0 s = .next s)
      ∨ (breakArmed s = true ∧ ∃ t, execEmustop0 s = .next t ∧ t.pkt.halted = true ∧ t.dbg.mode = .halt) := by
  cases h : breakArmed s with
  | false => exact .inl ⟨rfl, by simp [execEmustop0, h]⟩
  | true => exact .inr ⟨rfl, _, by rw [execEmustop0, if_pos h], rfl, rfl⟩

/-! ### All instructions -/

/-- What an instruction may write in the state before its packet: what its profile names there, every register where a protected transfer
frees them (R254), and everything where it says so. -/
def named (i : Instr) (s : State) (x : Dst) : Prop :=
  x ∈ destsOf i s ∨ Dst.everything ∈ destsOf i s ∨ (hasProt [i] = true ∧ ∃ r, x = .reg r)

/-- An instruction without a condition that spares nothing writes all that its profile names. -/
theorem named_of_mem {i : Instr} {x : Dst} (hg : goes i s = true) (hs : spares i s x = false) (hx : x ∈ (profile i).dests) :
    named i s x :=
  .inl ((mem_destsOf x i s).2 ⟨hg, hx, hs⟩)

/-- The destinations of an operand of a load, as its profile has them. -/
theorem named_of_eq {i : Instr} {l : List Dst} (hg : goes i s = true) (hs : ∀ x, spares i s x = false) (hl : l = (profile i).dests) :
    ∀ x ∈ l, named i s x :=
  fun x hx => named_of_mem hg (hs x) (hl ▸ hx)

/-- An instruction that does not halt before its packet changes what it names, and memory only where it stores (R16, R18). -/
theorem exec_changes {i : Instr} (h : exec i s = .next t) (hb : i = .emustop0 → breakArmed s = false) :
    changes (named i s) (profile i).stores s t := by
  cases i with
  | add32Addr1 | addS16Addr1 | addS8Addr1 | andU16Addr1 | andU8Addr1 | andorB0Addr1 | andorW0Addr1 | mvU16Addr1 | mvU8Addr1 | retAddr1
    | s16tofAddr1 | sub32Addr1 | subS16Addr1 | subS8Addr1 | subr32Addr1 | subrS16Addr1 | subrS8Addr1 | u16tofAddr1 | and32Addr2
    | andorAddr2 | mv16Addr2 | mv32Addr2 | mv64Addr2 | mv8Addr2 | or32Addr2 | xor32Addr2 | s16tofDirm | s16tofDirmIx | u16tofDirm
    | u16tofDirmIx | preserve | xc | xcp | eccselftest => cases h
  | and16Addr1 m v => exact modifyMem_changes (show execAnd16Addr1 m v s = .next t from h) (named_of_eq rfl (fun _ => rfl) (sideDsts_evalAddr1 m s))
  | and8Addr1 m v => exact modifyMem_changes (show execAnd8Addr1 m v s = .next t from h) (named_of_eq rfl (fun _ => rfl) (sideDsts_evalAddr1 m s))
  | or16Addr1 m v => exact modifyMem_changes (show execOr16Addr1 m v s = .next t from h) (named_of_eq rfl (fun _ => rfl) (sideDsts_evalAddr1 m s))
  | or8Addr1 m v => exact modifyMem_changes (show execOr8Addr1 m v s = .next t from h) (named_of_eq rfl (fun _ => rfl) (sideDsts_evalAddr1 m s))
  | xor16Addr1 m v => exact modifyMem_changes (show execXor16Addr1 m v s = .next t from h) (named_of_eq rfl (fun _ => rfl) (sideDsts_evalAddr1 m s))
  | xor8Addr1 m v => exact modifyMem_changes (show execXor8Addr1 m v s = .next t from h) (named_of_eq rfl (fun _ => rfl) (sideDsts_evalAddr1 m s))
  | ld32Addr1 r m | ldB0Addr1 r m | ldB1Addr1 r m | ldB2Addr1 r m | ldB3Addr1 r m | ldS16Addr1 r m | ldS8Addr1 r m | ldU16Addr1 r m
    | ldU8Addr1 r m | ldW0Addr1 r m | ldW1Addr1 r m =>
    exact loadReg_changes h (named_of_eq rfl (fun _ => rfl) (congrArg (List.cons _) (sideDsts_evalAddr1 m s)))
  | ld32Addr2 r m => exact loadReg_changes h (named_of_eq rfl (fun _ => rfl) (congrArg (List.cons _) (sideDsts_evalAddr2 m _ s)))
  | ld32Dirm | ld32DirmIx | ldB0Dirm | ldB0DirmIx | ldB1Dirm | ldB1DirmIx | ldB2Dirm | ldB2DirmIx | ldB3Dirm | ldB3DirmIx | ldS16Dirm
    | ldS16DirmIx | ldS8Dirm | ldS8DirmIx | ldU16Dirm | ldU16DirmIx | ldU8Dirm | ldU8DirmIx | ldW0Dirm | ldW0DirmIx | ldW1Dirm
    | ldW1DirmIx => exact loadReg_changes h (named_of_eq rfl (fun _ => rfl) rfl)
  | ld64Addr1 x m => exact loadPair_changes h (named_of_eq rfl (fun _ => rfl) (congrArg (pairDsts x ++ ·) (sideDsts_evalAddr1 m s)))
  | ld64Addr2 x m => exact loadPair_changes h (named_of_eq rfl (fun _ => rfl) (congrArg (pairDsts x ++ ·) (sideDsts_evalAddr2 m _ s)))
  | ld64Dirm | ld64DirmIx => exact loadPair_changes h (named_of_eq rfl (fun _ => rfl) rfl)
  | mv16Addr1 d m | mv32Addr1 d m | mv64Addr1 d m | mv8Addr1 d m =>
    exact moveMem_changes h (named_of_eq rfl (fun _ => rfl) (congrArg₂ (· ++ ·) (sideDsts_evalAddr1 d s) (sideDsts_evalAddr1 m s)))
  | mv32Addr3 => exact moveMem_changes h (named_of_eq rfl (fun _ => rfl) rfl)
  | st16Addr1 m | st32Addr1 m | st64Addr1 m | st8Addr1 m | stB0Addr1 m | stB1Addr1 m | stB2Addr1 m | stB3Addr1 m | stW0Addr1 m
    | stW1Addr1 m => exact storeVal_changes h (named_of_eq rfl (fun _ => rfl) (sideDsts_evalAddr1 m s))
  | st16Addr2 m | st32Addr2 m | st64Addr2 m | st8Addr2 m =>
    exact storeVal_changes h (named_of_eq rfl (fun _ => rfl) (sideDsts_evalAddr2 m _ s))
  | st32Dirm | st32DirmIx | st64Dirm | st64DirmIx | stB0Dirm | stB0DirmIx | stB1Dirm | stB1DirmIx | stB2Dirm | stB2DirmIx | stB3Dirm
    | stB3DirmIx | stW0Dirm | stW0DirmIx | stW1Dirm | stW1DirmIx => exact storeVal_changes h (named_of_eq rfl (fun _ => rfl) rfl)
  | callLabel | callReg => exact callTo_changes h (named_of_mem rfl rfl (by simp [profile])) (named_of_mem rfl rfl (by simp [profile]))
  | ret => exact returnTo_changes h (named_of_mem rfl rfl (by simp [profile])) (named_of_mem rfl rfl (by simp [profile]))
  | branch => exact execBranch_changes h
  | bcmpz => exact execBcmpz_changes h
  | callProtLabel | callProtReg => exact callProt_changes h (named_of_mem rfl rfl (by simp [profile])) fun r => .inr (.inr ⟨rfl, r, rfl⟩)
  | lbProt => exact enterProtected_changes h fun r => .inr (.inr ⟨rfl, r, rfl⟩)
  | retProt => exact returnProt_changes h (named_of_mem rfl rfl (by simp [profile])) fun r => .inr (.inr ⟨rfl, r, rfl⟩)
  | entry1Prot | entry2Prot | exitProt | isr2Prot | nop => cases h; exact changes_refl _ _ _
  | emustop0 =>
    cases ((execEmustop0_cases s).resolve_right fun g => by simp [hb rfl] at g).2.symm.trans h
    exact changes_refl _ _ _
  | enint | disint | idle => cases h; exact changes_of_eq rfl rfl rfl rfl rfl rfl
  | atomic => exact execAtomic_changes h
  | retiInt | retiIntD => exact returnInt_changes h (named_of_mem rfl rfl (by simp [profile])) (named_of_mem rfl rfl (by simp [profile]))
  | retiRtint | retiRtintD =>
    exact returnRealtime_changes h fun x => .inr (.inl ((mem_destsOf _ _ s).2 ⟨rfl, List.mem_singleton_self _, rfl⟩))
  | isr1Prot | movRpc | addU16 | subU16 | addBitrev =>
    cases h; exact writeA_changes _ _ _ (named_of_mem rfl rfl (List.mem_singleton_self _))
  | crc z => cases h; exact writeReg_changes (.d z) _ _ (named_of_mem rfl rfl (List.mem_singleton_self _))
  | ftos16 z =>
    cases h
    exact changes_trans (t := setStickyFp s) (changes_of_eq rfl rfl rfl rfl rfl rfl)
      (writeReg_changes (.d z) _ _ (named_of_mem rfl rfl List.mem_cons_self))
  | smpyf z | saddf z | addf z =>
    cases h
    exact changes_trans (t := setStickyFp s) (changes_of_eq rfl rfl rfl rfl rfl rfl)
      (writeReg_changes (.m z) _ _ (named_of_mem rfl rfl List.mem_cons_self))
  | ldRpc => exact execLdRpc_changes h (named_of_mem rfl rfl (List.mem_singleton_self _))
  | statusOp op => exact execStatusOp_changes h (named_of_eq rfl (fun _ => rfl) rfl)
  | addImm b | addReg b | subImm b =>
    cases h; exact writeSum_changes _ _ _ _ _ _ (named_of_mem rfl rfl (by cases b <;> exact List.mem_cons_self))
  | subReg b => exact execSubReg_changes h (named_of_mem rfl rfl (by cases b <;> exact List.mem_cons_self))
  | mvImm => cases h; exact writeReg_changes _ _ _ (named_of_mem rfl rfl (List.mem_singleton_self _))
  | mvReg => exact execMvReg_changes h (named_of_eq rfl (fun _ => rfl) rfl)
  | cmp => exact execCmp_changes h
  | tbit => cases h; exact writeTestDst_changes _ _ _
  | tflg => cases h; exact writeTestDst_changes (.flag _) _ _
  | incCirc => exact execIncCirc_changes h (named_of_mem rfl rfl (List.mem_singleton_self _))
  | decCirc => exact execDecCirc_changes h (named_of_mem rfl rfl (List.mem_singleton_self _))

/-- An instruction leaves the debugger's side alone, unless it halts before its packet (R296). -/
theorem exec_dbg {i : Instr} (h : exec i s = .next t) : t.dbg = s.dbg ∨ (t.pkt.halted = true ∧ t.dbg.mode = .halt) := by
  by_cases hb : i = .emustop0 → breakArmed s = false
  · obtain ⟨-, -, -, hd⟩ := exec_changes h hb
    exact .inl hd
  · obtain ⟨rfl, hb⟩ := Classical.not_imp.1 hb
    obtain ⟨hf, -⟩ | ⟨-, u, hu, hh, hm⟩ := execEmustop0_cases s
    · exact (hb fun _ => hf).elim
    · cases hu.symm.trans h
      exact .inr ⟨hh, hm⟩

end Sys2Proof.Proofs
end

section
/-! PROOFS. The step of a running CPU down to the packet at the program counter, and what every step leaves: O8, O56. -/

namespace Sys2Proof.Proofs

open Sys2Proof.Machine Sys2Proof.Laws

variable {s t : State} {is : List Instr} {fin : Nat}

/-! ### From the step to the packet -/

/-- A packet leaves the debugger's side alone, unless it is halted (R296). -/
theorem execAll_dbg (h : execAll is s = .next t) : t.dbg = s.dbg ∨ t.dbg.mode = .halt := by
  induction is generalizing s with
  | nil => cases h; exact .inl rfl
  | cons i is ih =>
    simp only [execAll] at h
    split at h
    · cases h; exact .inl rfl
    · obtain ⟨u, hu, ht⟩ := andThen_eq_next h
      rcases exec_dbg hu with e | ⟨hh, hm⟩
      · rw [← e]; exact ih ht
      · right
        cases is with
        | nil => cases ht; exact hm
        | cons j js => simp only [execAll, hh, if_true] at ht; cases ht; exact hm

@[simp] theorem scrambleLate_dbg (is : List Instr) (s : State) : (scrambleLate is s).dbg = s.dbg := by
  unfold scrambleLate; split <;> simp

@[simp] theorem stickyLate_dbg (is : List Instr) (s : State) : (stickyLate is s).dbg = s.dbg := by
  obtain ⟨_, _, _, _, _, e, -⟩ := stickyLate_cases is s
  rw [e]

@[simp] theorem commit_dbg (s : State) : (commit s).dbg = s.dbg := by
  obtain ⟨-, -, -, h, -⟩ := commit_settled s
  exact h

@[simp] theorem countDelay_dbg (s : State) : (countDelay s).dbg = s.dbg := by
  rcases countDelay_cases s with ⟨-, e⟩ | ⟨p, -, -, e⟩ | ⟨p, -, -, e⟩ <;> rw [e]
  rcases writeLate_cases p.late { s with cur := { s.cur with pc := p.target, pending := none }, pkt := { s.pkt with jumped := true } } with
    ⟨-, e⟩ | ⟨-, e⟩ | ⟨k, -, e⟩ <;> rw [e]

@[simp] theorem countAtomic_dbg (s : State) : (countAtomic s).dbg = s.dbg := by unfold countAtomic; split <;> rfl

@[simp] theorem failFormation_dbg (f : Formed) (s : State) : (failFormation f s).dbg = s.dbg := by cases f <;> simp [failFormation]

@[simp] theorem linearCheck_dbg (s : State) : (linearCheck s).dbg = s.dbg := by
  unfold linearCheck
  repeat' split
  all_goals simp

/-- The end of a packet leaves the debugger's side alone. -/
theorem closePacket_dbg (h : closePacket s = .next t) : t.dbg = s.dbg := by
  simp only [closePacket] at h
  split_ifs at h <;> cases h <;> simp

@[simp] theorem checkMarker_dbg (is : List Instr) (s : State) : (checkMarker is s).dbg = s.dbg := by
  unfold checkMarker; repeat' split
  all_goals simp

/-- A packet that faulted outside its instructions leaves the debugger's side alone. -/
theorem unlessFaulted_dbg {o : Res State} (h : unlessFaulted s o = .next t) (ho : ∀ u, o ≠ .next u) : t.dbg = s.dbg := by
  rcases unlessFaulted_cases s o with ⟨-, e⟩ | ⟨-, e⟩ <;> rw [e] at h
  · exact (ho _ h).elim
  · cases h; simp

theorem runFormed_dbg (h : runFormed is fin s = .next t) : t.dbg = s.dbg ∨ t.dbg.mode = .halt := by
  simp only [runFormed] at h
  split at h
  · exact .inl (by simpa using unlessFaulted_dbg h (by simp))
  · obtain ⟨u, hu, ht⟩ := andThen_eq_next h
    simpa [closePacket_dbg ht, openPacket] using execAll_dbg hu

/-- A packet ends with the debugger's side as it was, or in the debug-halt state. -/
theorem runPacket_dbg {ecc : Bool} (h : runPacket ecc s = .next t) : t.dbg = s.dbg ∨ t.dbg.mode = .halt := by
  have h0 : (raiseIf ecc .eccDoubleBit (openStep s)).dbg = s.dbg := by cases ecc <;> simp [openStep]
  simp only [runPacket] at h
  split at h
  · exact .inl ((unlessFaulted_dbg h (by simp)).trans h0)
  · split at h
    · rw [← h0]; exact runFormed_dbg h
    · cases h; exact .inl (by simp [h0])
    · exact .inl ((unlessFaulted_dbg h (by simp)).trans h0)
    · exact .inl ((unlessFaulted_dbg h (by simp)).trans h0)

/-- With no events to come a delivery changes nothing. -/
theorem deliver_of_no_inputs (h : s.inputs = []) : deliver s = s := by
  have ht : { s with inputs := s.inputs.tail } = s := by rw [h]; cases s; simp_all
  unfold deliver
  simp only [ht]
  split
  · rfl
  · simp [nextBatch, h, applyEvents]

/-- A running CPU at which no interrupt enters executes the packet at the program counter, or waits. -/
theorem step_of_running (h : running s) (hc : choose s.cur = .packet) :
    step s = if s.cur.idle then .next (settle s) else runPacket false s := by
  obtain ⟨hcfg, hin, hf, hm, hp⟩ := h
  have hb : boundary false s = runOrIdle false s := by
    unfold boundary; split
    · rfl
    · rw [hc]
  have ha : ∀ t, runOrIdle false s = .next t → afterStep t = t := by
    intro t ht
    have hd : t.dbg.mode = .run ∨ t.dbg.mode = .halt := by
      simp only [runOrIdle] at ht
      split_ifs at ht
      · cases ht; exact .inl hm
      · rcases runPacket_dbg ht with e | e
        · exact .inl (by rw [e, hm])
        · exact .inr e
    rcases hd with e | e <;> simp [afterStep, e]
  have hs : step s = andThen (runOrIdle false s) fun t => .next (afterStep t) := by
    simp [step, stepAfter, deliver_of_no_inputs hin, nextBatch, hin, hcfg, hf, runStep, hm, haltNow, hp, hb]
  rw [hs]
  change _ = runOrIdle false s
  cases ho : runOrIdle false s with
  | next t => simp [ha t ho]
  | fault r => rfl
  | refused r => rfl

/-- A packet that may be executed runs its instructions between the opening and the closing. -/
theorem runFormed_of_ok (hm : missingMarker s.cur.expect is = none) (hr : packetRefusal is s = none) :
    runFormed is fin s
      = andThen (execAll (arrange is) (openPacket fin s)) fun t => closePacket (stickyLate is (scrambleLate is t)) := by
  simp [runFormed, checkMarker, hm, hr]

/-- The packet that the bytes at an even program counter form. -/
theorem runPacket_of_formed (hpc : s.cur.pc.toNat % 2 = 0)
    (hf : formPacket 8 s.cur.pc.toNat 0 (openStep s) = .next (.packet is fin)) : runPacket false s = runFormed is fin (openStep s) := by
  simp [runPacket, hpc, hf]

theorem step_of_runsPacket (h : runsPacket is fin s) :
    step s = andThen (execAll (arrange is) (openPacket fin (openStep s))) fun t => closePacket (stickyLate is (scrambleLate is t)) := by
  obtain ⟨hrun, hc, hi, hpc, hf, hr, hm⟩ := h
  rw [step_of_running hrun hc, hi, if_neg Bool.false_ne_true, runPacket_of_formed hpc hf, runFormed_of_ok (s := openStep s) hm hr]

/-! ### A packet of one instruction -/

/-- An instruction alone in its packet is in one of the phases. -/
theorem arrange_singleton (i : Instr) : arrange [i] = [i] := by
  have h : phaseOf i = 0 ∨ phaseOf i = 1 ∨ phaseOf i = 2 ∨ phaseOf i = 3 ∨ phaseOf i = 4 := by
    unfold phaseOf; repeat' split
    all_goals simp
  rcases h with h | h | h | h | h <;> simp [arrange, List.range, List.range.loop, h]

/-- An ADDR1 mode writes an address register or nothing (R186). -/
theorem mem_side1 {x : Dst} {m : Addr1} (h : x ∈ side1 m) : ∃ j, x = .reg (.a j) := by
  cases m <;> simp_all [side1]

/-- An ADDR2 mode writes an address register or nothing (R200). -/
theorem mem_side2 {x : Dst} {m : Addr2} (h : x ∈ side2 m) : ∃ j, x = .reg (.a j) := by
  cases m <;> simp_all [side2]

theorem ests_not_mem_side1 (m : Addr1) : Dst.ests ∉ side1 m := fun h => by simpa using mem_side1 h

theorem ests_not_mem_side2 (m : Addr2) : Dst.ests ∉ side2 m := fun h => by simpa using mem_side2 h

/-- Only the operations on the status registers write ESTS as a whole (R305). -/
theorem statusOp_of_ests {i : Instr} (h : Dst.ests ∈ (profile i).dests) : ∃ op, i = .statusOp op := by
  cases i with
  | statusOp op => exact ⟨op, rfl⟩
  | mvReg op => cases op <;> simp [profile, writes, pairDsts] at h
  | cmp op => cases op <;> simp [profile, writes] at h
  | tbit d => cases d <;> simp [profile, writes, testDst] at h
  | addImm b | addReg b | subImm b | subReg b => cases b <;> simp [profile, writes, sumDsts] at h
  | _ => simp [profile, quiet, writes, loads, stores, both, pairDsts, ests_not_mem_side1, ests_not_mem_side2] at h

/-- What writes ESTS as a whole is no sum and sets no floating-point flags. -/
theorem no_sticky_of_ests {i : Instr} (h : Dst.ests ∈ (profile i).dests) (s : State) :
    overflows i s = false ∧ Dst.fpFlags ∉ (profile i).dests := by
  obtain ⟨op, rfl⟩ := statusOp_of_ests h
  refine ⟨rfl, fun hf => ?_⟩
  have hs : ∀ m, Dst.fpFlags ∉ side1 m := fun m h => by simpa using mem_side1 h
  cases op with
  | load r m => cases r <;> simp [profile, statusProfile, loads, statusDst, hs] at hf
  | store r m => exact hs m hf
  | toReg r d => simp [profile, statusProfile, writes] at hf
  | ofReg r | andImm r | orImm r => cases r <;> simp [profile, statusProfile, writes, statusDst] at hf

theorem stickyLate_singleton (i : Instr) (s : State) : stickyLate [i] s = s := by
  by_cases h : Dst.ests ∈ (profile i).dests
  · obtain ⟨ho, hf⟩ := no_sticky_of_ests h s
    simp [stickyLate, ho, hf]
  · exact stickyLate_of_no_write _ _ (.inl (by simpa using h))

/-- RET.PROT stores nothing itself. -/
theorem scrambleLate_singleton (i : Instr) (s : State) : scrambleLate [i] s = s := by
  by_cases h : i = .retProt
  · subst h; simp [scrambleLate, profile]
  · simp [scrambleLate, Ne.symm h]

/-- An instruction has at most three words (R172). -/
theorem sizeWords_le (w : Nat) : sizeWords w ≤ 3 := by
  unfold sizeWords; split_ifs <;> omega

/-- The first instruction is the whole packet where it decodes and carries the last mark (R174, R175). -/
theorem formPacket_of_last {a n fuel : Nat} {i : Instr} (hn : n = sizeWords (codeWord s.cur.mem a)) (h1 : fetchable a 1 s = .next none)
    (h2 : fetchable a n s = .next none) (hd : decode (codeBytes s.cur.mem a n) = .ok (i, []))
    (hl : fld (codeWord s.cur.mem a) 15 1 = 1 ↔ s.cfg.ilinkLast = true) :
    formPacket (fuel + 1) a 0 s = .next (.packet [i] (a + 2 * n)) := by
  have h3 := sizeWords_le (codeWord s.cur.mem a)
  have hb : ¬ 128 < 0 + 16 * n := by omega
  have hi : ((fld (codeWord s.cur.mem a) 15 1 == 1) == s.cfg.ilinkLast) = true := by
    rw [beq_iff_eq, Bool.eq_iff_iff, beq_iff_eq]; exact hl
  simp only [formPacket, h1, andThen_next, ifFetched, ← hn, if_neg hb, h2, hd, hi, if_true]

/-- Settles O56: the packet of one instruction is the special case of the packet of several. -/
theorem stepRunsDecodedInstruction : Obligations.StepRunsDecodedInstruction := by
  unfold Obligations.StepRunsDecodedInstruction
  refine ⟨?_, fun s is fin h => step_of_runsPacket h⟩
  intro s i n hrun hc hi hpc hn h1 h2 hd hl hr hm
  have hf : formPacket 8 s.cur.pc.toNat 0 (openStep s) = .next (.packet [i] (s.cur.pc.toNat + 2 * n)) :=
    formPacket_of_last (s := openStep s) hn h1 h2 hd hl
  rw [step_of_runsPacket ⟨hrun, hc, hi, hpc, hf, hr, hm⟩, arrange_singleton, execAll, if_neg (by simp [openPacket, PacketCtx.empty])]
  cases exec i (openPacket (s.cur.pc.toNat + 2 * n) (openStep s)) with
  | next t => simp [execAll, scrambleLate_singleton, stickyLate_singleton]
  | fault r => rfl
  | refused r => rfl

/-! ### What every step leaves -/

/-- Between packets, with the configuration of `s`. -/
def settledFrom (s t : State) : Prop := t.pre = t.cur ∧ t.pkt = PacketCtx.empty ∧ t.cfg = s.cfg

theorem settledFrom_settle (s : State) : settledFrom s (settle s) := ⟨rfl, rfl, rfl⟩

theorem settledFrom_commit (h : t.cfg = s.cfg) : settledFrom s (commit t) := by
  obtain ⟨h1, h2, h3, -⟩ := commit_settled t
  exact ⟨h1, h2, h3.trans h⟩

theorem settledFrom_takeReset (s : State) : settledFrom s (takeReset s) := ⟨rfl, rfl, rfl⟩

theorem settledFrom_enterHalt (h : t.cfg = s.cfg) : settledFrom s (enterHalt t) := ⟨rfl, rfl, h⟩

theorem settledFrom_of_cfg {u : State} (h : settledFrom t u) (hc : t.cfg = s.cfg) : settledFrom s u := by
  obtain ⟨h1, h2, h3⟩ := h
  exact ⟨h1, h2, h3.trans hc⟩

@[simp] theorem failFormation_pkt (f : Formed) (s : State) : (failFormation f s).pkt = s.pkt := by cases f <;> simp [failFormation]

@[simp] theorem failFormation_cfg (f : Formed) (s : State) : (failFormation f s).cfg = s.cfg := by cases f <;> simp [failFormation]

theorem settledFrom_linearCheck (h : settledFrom s t) : settledFrom s (linearCheck t) := by
  obtain ⟨h1, h2, h3⟩ := h
  unfold linearCheck
  repeat' split
  all_goals exact ⟨by simp [h1], by simp [h2], by simp [h3]⟩

@[simp] theorem countDelay_cfg (s : State) : (countDelay s).cfg = s.cfg := by
  rcases countDelay_cases s with ⟨-, e⟩ | ⟨p, -, -, e⟩ | ⟨p, -, -, e⟩ <;> rw [e]
  rcases writeLate_cases p.late { s with cur := { s.cur with pc := p.target, pending := none }, pkt := { s.pkt with jumped := true } } with
    ⟨-, e⟩ | ⟨-, e⟩ | ⟨k, -, e⟩ <;> rw [e]

@[simp] theorem countAtomic_cfg (s : State) : (countAtomic s).cfg = s.cfg := by unfold countAtomic; split <;> rfl

theorem settledFrom_closePacket {u : State} (h : closePacket t = .next u) (hc : t.cfg = s.cfg) : settledFrom s u := by
  have he : (countAtomic (countDelay t)).cfg = s.cfg := by simpa using hc
  simp only [closePacket] at h
  split_ifs at h <;> cases h
  · exact settledFrom_commit hc
  · exact settledFrom_commit he
  · exact settledFrom_linearCheck (settledFrom_commit he)

@[simp] theorem scrambleLate_cfg (is : List Instr) (s : State) : (scrambleLate is s).cfg = s.cfg := by
  unfold scrambleLate; split <;> simp

@[simp] theorem stickyLate_cfg (is : List Instr) (s : State) : (stickyLate is s).cfg = s.cfg := by
  obtain ⟨_, _, _, _, _, e, -⟩ := stickyLate_cases is s
  rw [e]

@[simp] theorem checkMarker_cfg (is : List Instr) (s : State) : (checkMarker is s).cfg = s.cfg := by
  unfold checkMarker; repeat' split
  all_goals simp

theorem settledFrom_unlessFaulted {o : Res State} {u : State} (h : unlessFaulted t o = .next u) (ho : ∀ u, o ≠ .next u)
    (hc : t.cfg = s.cfg) : settledFrom s u := by
  rcases unlessFaulted_cases t o with ⟨-, e⟩ | ⟨-, e⟩ <;> rw [e] at h
  · exact (ho _ h).elim
  · cases h; exact settledFrom_commit hc

theorem settledFrom_runFormed {u : State} (h : runFormed is fin t = .next u) (hc : t.cfg = s.cfg) : settledFrom s u := by
  simp only [runFormed] at h
  split at h
  · exact settledFrom_unlessFaulted h (by simp) (by simpa using hc)
  · obtain ⟨v, hv, hu⟩ := andThen_eq_next h
    obtain ⟨-, hcfg, -⟩ := execAll_keepsContext hv
    exact settledFrom_closePacket hu (by simpa [hcfg, openPacket] using hc)

theorem settledFrom_runPacket {ecc : Bool} (h : runPacket ecc s = .next t) : settledFrom s t := by
  have h0 : (raiseIf ecc .eccDoubleBit (openStep s)).cfg = s.cfg := by cases ecc <;> simp [openStep]
  simp only [runPacket] at h
  split at h
  · exact settledFrom_unlessFaulted h (by simp) h0
  · split at h
    · exact settledFrom_runFormed h h0
    · cases h; exact settledFrom_commit (by simp [h0])
    · exact settledFrom_unlessFaulted h (by simp) h0
    · exact settledFrom_unlessFaulted h (by simp) h0

theorem settledFrom_runOrIdle {ecc : Bool} (h : runOrIdle ecc s = .next t) : settledFrom s t := by
  simp only [runOrIdle] at h
  split_ifs at h
  · cases h; exact settledFrom_settle s
  · exact settledFrom_runPacket h

theorem enterRealtime_cfg {nmi : Bool} {vector : Word} {prio : BitVec 8} (h : enterRealtime nmi vector prio s = .next t) : t.cfg = s.cfg := by
  unfold enterRealtime at h
  split at h <;> cases h
  rfl

theorem enterInt_cfg {q : IntRequest} (h : enterInt q s = .next t) : t.cfg = s.cfg := by
  simp only [enterInt] at h
  split_ifs at h
  obtain ⟨u, hu, ht⟩ := andThen_eq_next h
  cases ht
  obtain ⟨-, hc, -⟩ := keepsContext_trans (raiseIf_keepsContext _ .intWrongStack s)
    (keepsContext_trans (checkSp_keepsContext _) (pushFrame_keepsContext hu))
  exact hc

@[simp] theorem rtispWarn_cfg (s : State) : (rtispWarn s).cfg = s.cfg := by unfold rtispWarn; split <;> rfl

@[simp] theorem rtintLimits_cfg (s : State) : (rtintLimits s).cfg = s.cfg := by
  unfold rtintLimits; repeat' split
  all_goals simp

@[simp] theorem openStep_cfg (s : State) : (openStep s).cfg = s.cfg := rfl

theorem settledFrom_boundary {ecc : Bool} (h : boundary ecc s = .next t) : settledFrom s t := by
  simp only [boundary] at h
  split at h
  · exact settledFrom_runOrIdle h
  · split at h
    · obtain ⟨u, hu, ht⟩ := andThen_eq_next h
      cases ht; exact settledFrom_commit (by simp [enterRealtime_cfg hu])
    · obtain ⟨u, hu, ht⟩ := andThen_eq_next h
      cases ht; exact settledFrom_commit (by simp [enterRealtime_cfg hu])
    · obtain ⟨u, hu, ht⟩ := andThen_eq_next h
      cases ht; exact settledFrom_commit (by simp [enterInt_cfg hu])
    · exact settledFrom_runOrIdle h

theorem settledFrom_afterStep (h : settledFrom s t) : settledFrom s (afterStep t) := by
  unfold afterStep
  split
  · split
    · exact h
    · obtain ⟨-, -, hc⟩ := h
      exact settledFrom_enterHalt hc
  all_goals exact h

theorem settledFrom_runStep {ecc : Bool} (h : runStep ecc s = .next t) : settledFrom s t := by
  simp only [runStep] at h
  split at h
  · cases h; exact settledFrom_settle s
  · cases h; exact settledFrom_settle s
  · split_ifs at h
    · cases h; exact settledFrom_enterHalt rfl
    · obtain ⟨u, hu, ht⟩ := andThen_eq_next h
      cases ht; exact settledFrom_afterStep (settledFrom_boundary hu)

theorem settledFrom_stepAfter {es : List Event} (h : stepAfter es s = .next t) : settledFrom s t := by
  simp only [stepAfter] at h
  split_ifs at h
  · cases h; exact settledFrom_takeReset s
  · cases h; exact settledFrom_settle s
  · exact settledFrom_runStep h

/-! ### The environment does not change the configuration -/

@[simp] theorem busWrite_cfg (a : Word) (v : Byte) (s : State) : (busWrite a v s).cfg = s.cfg := by unfold busWrite; split <;> rfl

@[simp] theorem dbgCommand_cfg (m : DebugMode) (s : State) : (dbgCommand m s).cfg = s.cfg := by unfold dbgCommand; split <;> rfl

@[simp] theorem requestHalt_cfg (s : State) : (requestHalt s).cfg = s.cfg := by
  rcases requestHalt_cases s with e | ⟨-, e⟩ <;> rw [e]

@[simp] theorem dbgWriteReg_cfg (r : DebugReg) (v : Word) (s : State) : (dbgWriteReg r v s).cfg = s.cfg := by
  cases r with
  | reg r => exact writeReg_cfg r v s
  | pc => unfold dbgWriteReg; simp only; split <;> rfl
  | rpc => rfl
  | status q => cases q <;> rfl

theorem dbgAccess_cfg (a : Option Word) (f : State → State) (s : State) (hf : (f s).cfg = s.cfg) : (dbgAccess a f s).cfg = s.cfg := by
  rcases dbgAccess_cases a f s with e | e | ⟨-, -, -, e⟩ <;> rw [e] <;> simp [hf]

@[simp] theorem applyEvent_cfg (e : Event) (s : State) : (applyEvent e s).cfg = s.cfg := by
  cases e with
  | busWrite a v => exact busWrite_cfg a v s
  | dbgHalt => exact requestHalt_cfg s
  | dbgRun | dbgFreeRun | dbgStep | dbgSyncRun | dbgSync => simp only [applyEvent]; split <;> simp
  | dbgWrite r v => exact dbgAccess_cfg _ _ _ (dbgWriteReg_cfg r v s)
  | dbgWriteMem a v => exact dbgAccess_cfg _ _ _ (busWrite_cfg a v s)
  | _ => rfl

@[simp] theorem applyEvents_cfg (es : List Event) (s : State) : (applyEvents es s).cfg = s.cfg := by
  induction es generalizing s with
  | nil => rfl
  | cons e es ih => simp [applyEvents, ih]

@[simp] theorem deliver_cfg (s : State) : (deliver s).cfg = s.cfg := by
  simp only [deliver]; split <;> simp

/-- Settles O8: every way a step can answer ends in a commit or a settled state. -/
theorem stepEndsBetweenPackets : Obligations.StepEndsBetweenPackets := by
  unfold Obligations.StepEndsBetweenPackets
  exact fun s t h => settledFrom_of_cfg (settledFrom_stepAfter h) (deliver_cfg s)

end Sys2Proof.Proofs
end

section
/-! PROOFS. The packing rules: what a packet of given destinations is refused for, and what the step then does: O60. -/

namespace Sys2Proof.Proofs

open Sys2Proof.Machine Sys2Proof.Laws

variable {s : State} {is : List Instr}

/-! ### Destinations -/

/-- Two destinations that clash anywhere in a list make it a double write. -/
theorem distinctDsts_of_clash {x y : Dst} (h : x.clash y = true) (l1 l2 l3 : List Dst) :
    distinctDsts (l1 ++ x :: (l2 ++ y :: l3)) = false := by
  induction l1 with
  | nil => simp [distinctDsts, h]
  | cons z l1 ih => simp [distinctDsts, ih]

/-- A destination clashes with itself unless it is a sticky flag. -/
theorem clash_self {x : Dst} (h : x.isSticky = false) : x.clash x = true := by simp [Dst.clash, h]

theorem packetDsts_pair (i j : Instr) (s : State) : packetDsts [i, j] s = destsOf i s ++ destsOf j s := by simp [packetDsts]

theorem packetDsts_singleton (i : Instr) (s : State) : packetDsts [i] s = destsOf i s := by simp [packetDsts]

/-- An instruction without a condition that spares nothing writes what its profile names. -/
theorem destsOf_eq {i : Instr} (hg : goes i s = true) (hs : ∀ x, spares i s x = false) : destsOf i s = (profile i).dests := by
  simp [destsOf, hg, hs]

/-! ### When a packet is refused -/

/-- An instruction that no restriction names but those on destinations, accesses and delay slots. -/
def unrestricted : Instr → Bool
  | .idle => false
  | .preserve => false
  | .eccselftest => false
  | .xc => false
  | .xcp => false
  | .atomic _ => false
  | _ => true

/-- Two clashing destinations are a double write, whatever else the packet breaks (R18). -/
theorem packetRefusal_of_double (h : distinctDsts (packetDsts is s) = false) : packetRefusal is s = some .doubleWrite := by
  simp [packetRefusal, h]

/-- Outside delay slots only the destinations and the accesses of such instructions are restricted (R18, R19, R177). -/
theorem packetRefusal_of_unrestricted (hu : ∀ i ∈ is, unrestricted i = true) (hp : s.cur.pending = none) (hx : s.cur.xcCover = 0)
    (hl : (is.map fun i => (profile i).loads).sum ≤ 2) (hs : (is.map fun i => (profile i).stores).sum ≤ 1) :
    packetRefusal is s = if distinctDsts (packetDsts is s) then none else some .doubleWrite := by
  have hn : ∀ i, unrestricted i = false → i ∉ is := fun i hi hm => by simp [hu i hm] at hi
  have ha : hasAtomic is = false := by
    simp only [hasAtomic, List.any_eq_false]
    intro i hi
    have := hu i hi
    split <;> simp_all [unrestricted]
  have h1 := hn .idle rfl
  have h2 := hn .preserve rfl
  have h3 := hn .eccselftest rfl
  have h4 := hn .xc rfl
  have h5 := hn .xcp rfl
  cases hd : distinctDsts (packetDsts is s) with
  | false => simp [packetRefusal, hd]
  | true => simp [packetRefusal, hd, hp, hx, ha, h1, h2, h3, h4, h5, Nat.not_lt.2 hl, Nat.not_lt.2 hs]

theorem packetRefusal_pair {i j : Instr} (hi : unrestricted i = true) (hj : unrestricted j = true) (hp : s.cur.pending = none)
    (hx : s.cur.xcCover = 0) (hl : (profile i).loads + (profile j).loads ≤ 2) (hs : (profile i).stores + (profile j).stores ≤ 1) :
    packetRefusal [i, j] s = if distinctDsts (destsOf i s ++ destsOf j s) then none else some .doubleWrite := by
  rw [packetRefusal_of_unrestricted (by simp [hi, hj]) hp hx (by simpa using hl) (by simpa using hs), packetDsts_pair]

/-! ### Two branches -/

/-- A conditional branch: the program counter is its one destination, and only where it goes (R238, R239). -/
theorem destsOf_branch (t : BrTarget) (c : Cond) (m : Fin 8) (s : State) :
    destsOf (.branch t c m) s = if goes (.branch t c m) s then [.pc] else [] := rfl

theorem destsOf_bcmpz (w : Word) (c : DCond) (x : Fin 16) (m : Fin 8) (s : State) :
    destsOf (.bcmpz w c x m) s = if goes (.bcmpz w c x m) s then [.pc] else [] := rfl

/-- Two instructions that write the program counter or, where they do not go, nothing: at most one may go (R177). -/
theorem packetRefusal_branches {i j : Instr} (hi : destsOf i s = if goes i s then [.pc] else [])
    (hj : destsOf j s = if goes j s then [.pc] else []) (ui : unrestricted i = true) (uj : unrestricted j = true)
    (hl : (profile i).loads + (profile j).loads = 0) (hs : (profile i).stores + (profile j).stores = 0) :
    (goes i s = true → goes j s = true → packetRefusal [i, j] s = some .doubleWrite ∧ packetRefusal [j, i] s = some .doubleWrite)
      ∧ (goes i s = false ∨ goes j s = false → s.cur.pending = none → s.cur.xcCover = 0 →
        packetRefusal [i, j] s = none ∧ packetRefusal [j, i] s = none) := by
  constructor
  · intro gi gj
    exact ⟨packetRefusal_of_double (by rw [packetDsts_pair, hi, hj, gi, gj]; rfl),
      packetRefusal_of_double (by rw [packetDsts_pair, hi, hj, gi, gj]; rfl)⟩
  · intro g hp hx
    rw [packetRefusal_pair ui uj hp hx (by omega) (by omega), packetRefusal_pair uj ui hp hx (by omega) (by omega), hi, hj]
    rcases g with g | g <;> rw [g]
    · cases goes j s <;> exact ⟨rfl, rfl⟩
    · cases goes i s <;> exact ⟨rfl, rfl⟩

/-! ### A write of ESTS beside an instruction that may set sticky flags -/

/-- An instruction that may set a sticky flag writes that and one D or M register, and nothing restricts it (R73, R453, R468). -/
theorem sticky_cases {j : Instr} (h : Dst.ovFlags ∈ (profile j).dests ∨ Dst.fpFlags ∈ (profile j).dests) :
    ∃ (r : Reg) (f : Dst), (∀ a, r ≠ .a a) ∧ (f = .ovFlags ∨ f = .fpFlags) ∧ profile j = writes [.reg r, f]
      ∧ (∀ s, destsOf j s = [.reg r, f]) ∧ unrestricted j = true := by
  have hs : ∀ m f, f = Dst.ovFlags ∨ f = Dst.fpFlags → f ∉ side1 m := fun m f hf h => by
    obtain ⟨a, rfl⟩ := mem_side1 h; simp at hf
  have hs2 : ∀ m f, f = Dst.ovFlags ∨ f = Dst.fpFlags → f ∉ side2 m := fun m f hf h => by
    obtain ⟨a, rfl⟩ := mem_side2 h; simp at hf
  cases j with
  | addImm b z | addReg b z | subImm b z | subReg b z =>
    cases b with
    | a => simp [profile, writes, sumDsts] at h
    | d => exact ⟨.d z, .ovFlags, by simp, .inl rfl, rfl, fun _ => rfl, rfl⟩
  | ftos16 z => exact ⟨.d z, .fpFlags, by simp, .inr rfl, rfl, fun _ => rfl, rfl⟩
  | smpyf z | saddf z | addf z => exact ⟨.m z, .fpFlags, by simp, .inr rfl, rfl, fun _ => rfl, rfl⟩
  | statusOp op =>
    cases op with
    | load r m => cases r <;> simp [profile, statusProfile, loads, statusDst, hs] at h
    | store r m => simp [profile, statusProfile, stores, hs] at h
    | toReg r d => simp [profile, statusProfile, writes] at h
    | ofReg r | andImm r | orImm r => cases r <;> simp [profile, statusProfile, writes, statusDst] at h
  | mvReg op => cases op <;> simp [profile, writes, pairDsts] at h
  | cmp op => cases op <;> simp [profile, writes] at h
  | tbit d => cases d <;> simp [profile, writes, testDst] at h
  | _ => simp [profile, quiet, writes, loads, stores, both, pairDsts, hs, hs2] at h

/-- A write of ESTS as a whole: ESTS and, where it is a load, at most an address register and one load. -/
theorem estsWrite_cases {i : Instr} {r : Reg} {m : Addr1} {w : Word}
    (h : i = .statusOp (.ofReg .ests r) ∨ i = .statusOp (.load .ests m) ∨ i = .statusOp (.andImm .ests w) ∨ i = .statusOp (.orImm .ests w)) :
    ∃ l : List Dst, (l = [] ∨ ∃ a, l = [.reg (.a a)]) ∧ (∀ s, destsOf i s = .ests :: l) ∧ unrestricted i = true
      ∧ (profile i).loads ≤ 1 ∧ (profile i).stores = 0 := by
  rcases h with rfl | rfl | rfl | rfl
  · exact ⟨[], .inl rfl, fun _ => rfl, rfl, Nat.zero_le _, rfl⟩
  · refine ⟨side1 m, ?_, fun s => destsOf_eq rfl fun _ => rfl, rfl, Nat.le_refl _, rfl⟩
    cases m with
    | off | offScaled | spNeg | index => exact .inl rfl
    | offPost | postInc | postDec | preDec | indexSet => exact .inr ⟨_, rfl⟩
  · exact ⟨[], .inl rfl, fun _ => rfl, rfl, Nat.zero_le _, rfl⟩
  · exact ⟨[], .inl rfl, fun _ => rfl, rfl, Nat.zero_le _, rfl⟩

/-- ESTS, the address register of its mode, a D or M register and sticky flags do not clash, in either order. -/
theorem distinctDsts_ests_sticky {l : List Dst} {r : Reg} {f : Dst} (hl : l = [] ∨ ∃ a, l = [.reg (.a a)]) (hr : ∀ a, r ≠ .a a)
    (hf : f = .ovFlags ∨ f = .fpFlags) :
    distinctDsts ((.ests :: l) ++ [.reg r, f]) = true ∧ distinctDsts ([.reg r, f] ++ (.ests :: l)) = true := by
  have hr' : ∀ a, ¬ Reg.a a = r := fun a e => hr a e.symm
  rcases hl with rfl | ⟨a, rfl⟩ <;> rcases hf with rfl | rfl <;>
    simp [distinctDsts, Dst.clash, Dst.isSticky, Dst.inDsts, Dst.inEsts, hr, hr']

theorem packetRefusal_ests_sticky {i j : Instr} {r : Reg} {m : Addr1} {w : Word} (hp : s.cur.pending = none) (hx : s.cur.xcCover = 0)
    (hi : i = .statusOp (.ofReg .ests r) ∨ i = .statusOp (.load .ests m) ∨ i = .statusOp (.andImm .ests w) ∨ i = .statusOp (.orImm .ests w))
    (hj : Dst.ovFlags ∈ (profile j).dests ∨ Dst.fpFlags ∈ (profile j).dests) :
    packetRefusal [i, j] s = none ∧ packetRefusal [j, i] s = none := by
  obtain ⟨l, hl, hd, hu, hld, hst⟩ := estsWrite_cases hi
  obtain ⟨q, f, hq, hf, hpj, hdj, huj⟩ := sticky_cases hj
  obtain ⟨h1, h2⟩ := distinctDsts_ests_sticky hl hq hf
  have hlj : (profile j).loads = 0 := by rw [hpj]; rfl
  have hsj : (profile j).stores = 0 := by rw [hpj]; rfl
  constructor
  · rw [packetRefusal_pair hu huj hp hx (by omega) (by omega), hd, hdj, if_pos h1]
  · rw [packetRefusal_pair huj hu hp hx (by omega) (by omega), hd, hdj, if_pos h2]

/-! ### Destinations that the state spares -/

/-- An LB.PROT spares A15 exactly where it stays on its STACK (R249). -/
theorem destsOf_lbProt (a : Word) (s : State) :
    destsOf (.lbProt a) s = if targetStack a s = stackOf s.cfg s.pre.ists.currlink then [.pc] else [.reg (.a 15), .pc] := by
  change [Dst.reg (.a 15), .pc].filter
    (fun x => !(x == .reg (.a 15) && targetStack a s == stackOf s.cfg s.pre.ists.currlink)) = _
  by_cases h : targetStack a s = stackOf s.cfg s.pre.ists.currlink <;> simp [h]

/-- A RETI.INT spares INTE exactly where the parameter has that leave it (R287). -/
theorem destsOf_retiInt {i : Instr} {d : Fin 8} (h : i = .retiInt ∨ i = .retiIntD d) (s : State) :
    destsOf i s = if s.cfg.retiIntRestoresInte = some false then [.rpc, .reg (.a 15), .pc] else [.rpc, .reg (.a 15), .pc, .inte] := by
  have hd : destsOf i s = [Dst.rpc, .reg (.a 15), .pc, .inte].filter
      (fun x => !(x == .inte && s.cfg.retiIntRestoresInte == some false)) := by rcases h with rfl | rfl <;> rfl
  by_cases h : s.cfg.retiIntRestoresInte = some false <;> simp [hd, h]

/-- INTE beside a RETI.INT is written twice exactly where that writes it (R18, log entry 48). -/
theorem distinctDsts_retiInt_inte {i j : Instr} {d : Fin 8} (hi : i = .retiInt ∨ i = .retiIntD d) (hj : destsOf j s = [.inte]) :
    distinctDsts (destsOf i s ++ destsOf j s) = decide (s.cfg.retiIntRestoresInte = some false) := by
  rw [destsOf_retiInt hi, hj]
  split <;> rename_i h <;> simp only [h, decide_true, decide_false] <;> rfl

/-! ### Delay slots -/

/-- A part of destinations that do not clash does not clash. -/
theorem distinctDsts_filter (p : Dst → Bool) (l : List Dst) (h : distinctDsts l = true) : distinctDsts (l.filter p) = true := by
  induction l with
  | nil => rfl
  | cons x l ih =>
    simp only [distinctDsts, Bool.and_eq_true, List.all_eq_true] at h
    obtain ⟨hx, hl⟩ := h
    rw [List.filter_cons]
    split
    · simp only [distinctDsts, Bool.and_eq_true, List.all_eq_true]
      exact ⟨fun y hy => hx y (List.mem_of_mem_filter hy), ih hl⟩
    · exact ih hl

theorem distinctDsts_destsOf {i : Instr} (h : distinctDsts (profile i).dests = true) (s : State) : distinctDsts (destsOf i s) = true := by
  unfold destsOf
  split
  · exact distinctDsts_filter _ _ h
  · rfl

/-- The destinations of a discontinuity do not clash, and it makes at most one access. -/
theorem disc_profile {i : Instr} (h : (profile i).disc = true) :
    distinctDsts (profile i).dests = true ∧ (profile i).loads ≤ 2 ∧ (profile i).stores ≤ 1 := by
  cases i with
  | callLabel | callReg | ret | branch | bcmpz | callProtLabel | callProtReg | lbProt | retProt | retiInt | retiIntD | retiRtint
    | retiRtintD => exact ⟨rfl, Nat.le_of_ble_eq_true rfl, Nat.le_of_ble_eq_true rfl⟩
  | statusOp op => cases op <;> cases h
  | mvReg op => cases op <;> cases h
  | cmp op => cases op <;> cases h
  | _ => cases h

/-- A discontinuity in a delay slot is refused (R220 item 1, R263). -/
theorem packetRefusal_disc {i : Instr} {p : Pending} (h : (profile i).disc = true) (hp : s.cur.pending = some p) :
    packetRefusal [i] s = some (.placement 1) := by
  obtain ⟨hd, hl, hs⟩ := disc_profile h
  have hd := distinctDsts_destsOf hd s
  simp [packetRefusal, packetDsts_singleton, hd, Nat.not_lt.2 hl, Nat.not_lt.2 hs, hp, hasDisc, h]

/-- An IDLE in a delay slot is refused (R220 item 2). -/
theorem packetRefusal_idle {p : Pending} (hp : s.cur.pending = some p) : packetRefusal [.idle] s = some (.placement 2) := by
  have hd : distinctDsts (packetDsts [.idle] s) = true := rfl
  have hq : profile .idle = quiet := rfl
  simp [packetRefusal, hd, hp, hasDisc, hq, quiet]

/-- An EMUSTOP0 in a delay slot is refused (R220 item 6). -/
theorem packetRefusal_emustop0 {p : Pending} (hp : s.cur.pending = some p) : packetRefusal [.emustop0] s = some (.placement 6) := by
  have hd : distinctDsts (packetDsts [.emustop0] s) = true := rfl
  have hq : profile .emustop0 = quiet := rfl
  simp [packetRefusal, hd, hp, hasDisc, hq, quiet]

/-- A software access to RPC in the delay slot of a CALL is refused (R220 item 9). -/
theorem packetRefusal_rpcAccess {i : Instr} {x : Fin 16} {a : Word} {p : Pending} (hi : i = .movRpc x ∨ i = .ldRpc a)
    (hp : s.cur.pending = some p) (hl : p.late = .rpc) (hx : s.cur.xcCover = 0) : packetRefusal [i] s = some (.placement 9) := by
  have hd : distinctDsts (packetDsts [i] s) = true := by rcases hi with rfl | rfl <;> rfl
  have hr : hasRpcAccess [i] = true := by rcases hi with rfl | rfl <;> rfl
  have hq : hasDisc [i] = false ∧ (profile i).loads ≤ 2 ∧ (profile i).stores ≤ 1 := by
    rcases hi with rfl | rfl <;> exact ⟨rfl, Nat.le_of_ble_eq_true rfl, Nat.zero_le _⟩
  obtain ⟨hn, hld, hst⟩ := hq
  rcases hi with rfl | rfl <;> simp [packetRefusal, hd, hp, hl, hx, hn, hr, Nat.not_lt.2 hld, Nat.not_lt.2 hst]

/-! ### Company that is refused -/

/-- An IDLE is alone in its packet (R220 item 4). -/
theorem packetRefusal_idle_company {i : Instr} (hp : s.cur.pending = none) (hx : s.cur.xcCover = 0)
    (hd : distinctDsts (packetDsts [.idle, i] s) = true) (hl : (profile i).loads ≤ 2) (hs : (profile i).stores ≤ 1) :
    packetRefusal [.idle, i] s = some (.placement 4) := by
  have hl0 : (profile .idle).loads = 0 := rfl
  have hs0 : (profile .idle).stores = 0 := rfl
  simp [packetRefusal, hd, hp, hx, hl0, hs0, Nat.not_lt.2 hl, Nat.not_lt.2 hs]

/-- An ATOMIC is not beside a RET (R221). -/
theorem packetRefusal_atomic_ret (n : BitVec 8) (d : Fin 8) (hp : s.cur.pending = none) (hx : s.cur.xcCover = 0) :
    packetRefusal [.atomic n, .ret d] s = some (.placement 21) := by
  have hd : distinctDsts (packetDsts [.atomic n, .ret d] s) = true := rfl
  have hq : hasAtomic [.atomic n, .ret d] = true ∧ hasDisc [.atomic n, .ret d] = true := ⟨rfl, rfl⟩
  have ha : profile (.atomic n) = writes [.atomic] ∧ profile (.ret d) = ⟨[.rpc, .reg (.a 15), .pc], 1, 0, true⟩ := ⟨rfl, rfl⟩
  simp [packetRefusal, hd, hp, hx, hq, ha, writes]

/-! ### The step -/

/-- A packet that lacks no marker and that the rules refuse makes the step that refusal (R220, decision D24). -/
theorem step_of_refused {fin : Nat} {e : Refusal} (hrun : running s) (hc : choose s.cur = .packet) (hi : s.cur.idle = false)
    (hpc : s.cur.pc.toNat % 2 = 0) (hf : formPacket 8 s.cur.pc.toNat 0 (openStep s) = .next (.packet is fin))
    (hm : missingMarker s.cur.expect is = none) (hr : packetRefusal is (openStep s) = some e) : step s = .refused e := by
  have hn : (openStep s).cur.fault = none := by obtain ⟨-, -, hn, -⟩ := hrun; exact hn
  have hm : missingMarker (openStep s).cur.expect is = none := hm
  rw [step_of_running hrun hc, hi, if_neg Bool.false_ne_true, runPacket_of_formed hpc hf]
  simp [runFormed, checkMarker, hm, hr, unlessFaulted, hn]

/-- Settles O60: each clause is the rule of its section above. -/
theorem packetRestrictions : Obligations.PacketRestrictions := by
  unfold Obligations.PacketRestrictions
  refine ⟨fun s is fin e hrun hc hi hpc hf hm hr => step_of_refused hrun hc hi hpc hf hm hr, ?_, ?_, ?_, ?_, ?_, ?_, ?_, ?_, ?_⟩
  · intro s is x y l1 l2 l3 hd hc
    exact packetRefusal_of_double (by rw [hd]; exact distinctDsts_of_clash hc l1 l2 l3)
  · intro s is hd ha
    rw [packetRefusal, if_neg (by simp [hd]), if_pos ha]
  · intro s x i
    refine packetRefusal_of_double ?_
    change distinctDsts ([] ++ Dst.reg (.a x) :: ([] ++ .reg (.a x) :: [])) = false
    exact distinctDsts_of_clash (clash_self rfl) _ _ _
  · rintro s i j t u c e w d x m n k rfl (rfl | rfl)
    · exact packetRefusal_branches (destsOf_branch t c m s) (destsOf_branch u e n s) rfl rfl rfl rfl
    · exact packetRefusal_branches (destsOf_branch t c m s) (destsOf_bcmpz w d x k s) rfl rfl rfl rfl
  · exact fun s i j r m w hp hx hi hj => packetRefusal_ests_sticky hp hx hi hj
  · intro s a y u hp hx
    rw [packetRefusal_pair rfl rfl hp hx (Nat.zero_le _) (Nat.zero_le _), destsOf_lbProt,
      show destsOf (.addU16 15 y u) s = [.reg (.a 15)] from rfl]
    split <;> rfl
  · intro s i j d hp hx hi hj
    have hd : destsOf j s = [.inte] := by rcases hj with rfl | rfl <;> rfl
    have hpi : unrestricted i = true ∧ (profile i).loads = 1 ∧ (profile i).stores = 0 := by rcases hi with rfl | rfl <;> exact ⟨rfl, rfl, rfl⟩
    have hpj : unrestricted j = true ∧ (profile j).loads = 0 ∧ (profile j).stores = 0 := by rcases hj with rfl | rfl <;> exact ⟨rfl, rfl, rfl⟩
    obtain ⟨ui, li, si⟩ := hpi
    obtain ⟨uj, lj, sj⟩ := hpj
    rw [packetRefusal_pair ui uj hp hx (by omega) (by omega), distinctDsts_retiInt_inte hi hd]
    simp only [decide_eq_true_eq]
  · exact fun s p hp => ⟨fun i hi => packetRefusal_disc hi hp, packetRefusal_idle hp, packetRefusal_emustop0 hp,
      fun x a hl hx => ⟨packetRefusal_rpcAccess (a := a) (.inl rfl) hp hl hx, packetRefusal_rpcAccess (x := x) (.inr rfl) hp hl hx⟩⟩
  · exact fun s hp hx => ⟨fun i _ hd hl hs => packetRefusal_idle_company hp hx hd hl hs, fun n d => packetRefusal_atomic_ret n d hp hx⟩

end Sys2Proof.Proofs
end

section
/-! PROOFS. Noninterference inside a packet: from two states that differ only in what other instructions may have written, every
operation, and so every instruction, answers alike and writes the same. With the frame of `exec_changes` this is O13. -/

namespace Sys2Proof.Proofs

open Sys2Proof.Machine Sys2Proof.Laws

variable {s t u v w x : State}

/-! ### Parallel steps -/

/-- From `s` to `t` and from `u` to `v` the same was written, and `t` and `v` differ again only in what other instructions may have
written: `SameEffect` of two next states. -/
def parallel (s t u v : State) : Prop := SameEffect (.next t) (.next v) s u

theorem sameWrite_trans {α : Type} {p q r p' q' r' : α} (h : sameWrite p q p' q') (g : sameWrite q r q' r') : sameWrite p r p' r' := by
  rcases g with ⟨rfl, rfl⟩ | e
  · exact h
  · exact .inr e

theorem parallel_trans (h : parallel s t u v) (g : parallel t w v x) : parallel s w u x := by
  obtain ⟨-, h2, h3, h4⟩ := h
  obtain ⟨g1, g2, g3, g4⟩ := g
  exact ⟨g1, fun r => sameWrite_trans (h2 r) (g2 r), sameWrite_trans h3 g3, fun b => sameWrite_trans (h4 b) (g4 b)⟩

theorem parallel_refl (h : samePacket s u) : parallel s s u u := ⟨h, fun _ => .inl ⟨rfl, rfl⟩, .inl ⟨rfl, rfl⟩, fun _ => .inl ⟨rfl, rfl⟩⟩

/-- `s` with the working registers, RPC and memory of `c`: what other instructions of a packet may have written. -/
def withWork (c : Arch) (s : State) : State :=
  { s with cur := { s.cur with a := c.a, d := c.d, m := c.m, rpc := c.rpc, mem := c.mem, stored := c.stored } }

theorem samePacket_iff : samePacket s u ↔ ∃ c, u = withWork c s := by
  constructor
  · rintro ⟨a, d, m, rpc, mem, stored, rfl⟩
    exact ⟨{ s.cur with a := a, d := d, m := m, rpc := rpc, mem := mem, stored := stored }, rfl⟩
  · rintro ⟨c, rfl⟩
    exact ⟨_, _, _, _, _, _, rfl⟩

/-- An operation that neither reads nor writes what other instructions may have written goes on in parallel. -/
theorem parallel_of_commutes {f : State → State} (hf : ∀ c s, f (withWork c s) = withWork c (f s)) (h : samePacket s u) :
    parallel s (f s) u (f u) := by
  obtain ⟨c, rfl⟩ := samePacket_iff.1 h
  have hs : f s = withWork s.cur (f s) := hf s.cur s
  have hr : ∀ r, curReg (f s) r = curReg s r := fun r => by rw [hs]; cases r <;> rfl
  have hu : ∀ r, curReg (f (withWork c s)) r = curReg (withWork c s) r := fun r => by rw [hf]; cases r <;> rfl
  refine ⟨samePacket_iff.2 ⟨c, hf c s⟩, fun r => .inl ⟨hr r, hu r⟩, .inl ⟨?_, ?_⟩, fun b => .inl ⟨?_, ?_⟩⟩
  · rw [hs]; rfl
  · rw [hf]; rfl
  · rw [hs]; rfl
  · rw [hf]; rfl

/-- Two outcomes with the same effect: next states in parallel, or one and the same stop. -/
theorem sameEffect_cases {o o' : Res State} (h : SameEffect o o' s u) :
    (∃ t v, o = .next t ∧ o' = .next v ∧ parallel s t u v) ∨ (∃ e, o = .fault e ∧ o' = .fault e) ∨ ∃ e, o = .refused e ∧ o' = .refused e := by
  cases o with
  | next t => cases o' with
    | next v => exact .inl ⟨t, v, rfl, rfl, h⟩
    | fault e | refused e => exact h.elim
  | fault e => cases o' with
    | fault e' => cases (show e = e' from h); exact .inr (.inl ⟨e, rfl, rfl⟩)
    | next v | refused e => exact h.elim
  | refused e => cases o' with
    | refused e' => cases (show e = e' from h); exact .inr (.inr ⟨e, rfl, rfl⟩)
    | next v | fault e => exact h.elim

theorem sameEffect_trans {o o' : Res State} (h : parallel s t u v) (g : SameEffect o o' t v) : SameEffect o o' s u := by
  rcases sameEffect_cases g with ⟨w, x, rfl, rfl, g⟩ | ⟨e, rfl, rfl⟩ | ⟨e, rfl, rfl⟩
  · exact parallel_trans h g
  · rfl
  · rfl

/-- In sequence. -/
theorem sameEffect_andThen {o o' : Res State} {f f' : State → Res State} (h : SameEffect o o' s u)
    (hf : ∀ t v, parallel s t u v → SameEffect (f t) (f' v) t v) : SameEffect (andThen o f) (andThen o' f') s u := by
  rcases sameEffect_cases h with ⟨t, v, rfl, rfl, g⟩ | ⟨e, rfl, rfl⟩ | ⟨e, rfl, rfl⟩
  · exact sameEffect_trans g (hf t v g)
  · rfl
  · rfl

/-! ### What two states of one packet share -/

/-- The draw counter is not among what other instructions may have written. -/
theorem samePacket_free (h : samePacket s u) : u.free = s.free := by obtain ⟨_, _, _, _, _, _, rfl⟩ := h; rfl

theorem samePacket_pre (h : samePacket s u) : u.pre = s.pre := by obtain ⟨_, _, _, _, _, _, rfl⟩ := h; rfl

theorem samePacket_cfg (h : samePacket s u) : u.cfg = s.cfg := by obtain ⟨_, _, _, _, _, _, rfl⟩ := h; rfl

theorem samePacket_readA (h : samePacket s u) (i : Fin 16) : readA i u = readA i s := by simp [readA, samePacket_pre h]

theorem samePacket_readD (h : samePacket s u) (i : Fin 16) : readD i u = readD i s := by simp [readD, samePacket_pre h]

theorem samePacket_readReg (h : samePacket s u) (r : Reg) : readReg r u = readReg r s := by
  cases r <;> simp [readReg, readA, readD, readM, samePacket_pre h]

theorem samePacket_drawBit (h : samePacket s u) (k : Nat) : drawBit k u = drawBit k s := by simp [drawBit, samePacket_free h]

theorem samePacket_drawWord (h : samePacket s u) (k : Nat) : drawWord k u = drawWord k s := by simp [drawWord, samePacket_free h]

theorem samePacket_drawData (h : samePacket s u) : drawData u = drawData s := by simp [drawData, samePacket_free h]

theorem samePacket_fault (h : samePacket s u) : u.cur.fault = s.cur.fault := by obtain ⟨_, _, _, _, _, _, rfl⟩ := h; rfl

/-! ### Operations that always answer -/

theorem spend_parallel (n : Nat) (h : samePacket s u) : parallel s (spend n s) u (spend n u) := parallel_of_commutes (fun _ _ => rfl) h

theorem emit_parallel (o : Output) (h : samePacket s u) : parallel s (emit o s) u (emit o u) := parallel_of_commutes (fun _ _ => rfl) h

theorem raise_parallel (c : Cause) (h : samePacket s u) : parallel s (raise c s) u (raise c u) :=
  parallel_of_commutes (fun w s => by
    have hw : (withWork w s).cur.fault = s.cur.fault := rfl
    cases hf : s.cur.fault with
    | none => simp only [raise, hw, hf]; rfl
    | some d => simp only [raise, hw, hf]) h

theorem raiseIf_parallel (b : Bool) (c : Cause) (h : samePacket s u) : parallel s (raiseIf b c s) u (raiseIf b c u) := by
  cases b
  · exact parallel_refl h
  · exact raise_parallel c h

theorem checkSp_parallel (h : samePacket s u) : parallel s (checkSp s) u (checkSp u) := by
  have h' := h
  obtain ⟨a, d, m, rpc, mem, stored, rfl⟩ := h'
  exact raiseIf_parallel _ _ h

theorem checkTransfer_parallel (target : Word) (h : samePacket s u) : parallel s (checkTransfer target s) u (checkTransfer target u) := by
  have h' := h
  obtain ⟨a, d, m, rpc, mem, stored, rfl⟩ := h'
  unfold checkTransfer
  cases linkOf s.cfg target with
  | none => exact parallel_refl h
  | some l => exact raiseIf_parallel _ _ h

theorem writeReg_parallel (r : Reg) (b : Word) (h : samePacket s u) : parallel s (writeReg r b s) u (writeReg r b u) := by
  refine ⟨?_, fun q => ?_, .inl (by simp), fun _ => .inl (by simp)⟩
  · obtain ⟨a, d, m, rpc, mem, stored, rfl⟩ := h
    cases r <;> exact ⟨_, _, _, _, _, _, rfl⟩
  · by_cases e : q = r
    · exact .inr (by rw [e, curReg_writeReg_same, curReg_writeReg_same])
    · exact .inl ⟨curReg_writeReg_of_ne b s e, curReg_writeReg_of_ne b u e⟩

theorem writeA_parallel (i : Fin 16) (b : Word) (h : samePacket s u) : parallel s (writeA i b s) u (writeA i b u) := writeReg_parallel (.a i) b h

theorem writeX_parallel (r : XReg) (b : DWord) (h : samePacket s u) : parallel s (writeX r b s) u (writeX r b u) :=
  have h1 := writeReg_parallel (lowReg r) (lowWord b) h
  parallel_trans h1 (writeReg_parallel _ _ h1.1)

theorem writeRpc_parallel (b : Word) (h : samePacket s u) : parallel s (writeRpc b s) u (writeRpc b u) := by
  refine ⟨?_, fun q => .inl (by cases q <;> exact ⟨rfl, rfl⟩), .inr rfl, fun _ => .inl ⟨rfl, rfl⟩⟩
  obtain ⟨a, d, m, rpc, mem, stored, rfl⟩ := h
  exact ⟨_, _, _, _, _, _, rfl⟩

theorem applySide_parallel (e : EffAddr) (h : samePacket s u) : parallel s (applySide e s) u (applySide e u) := by
  unfold applySide
  split
  · exact parallel_refl h
  · exact writeA_parallel _ _ h

theorem writeStatus_parallel (q : StatusReg) (b : Word) (h : samePacket s u) : parallel s (writeStatus q b s) u (writeStatus q b u) :=
  parallel_of_commutes (fun _ _ => by cases q <;> rfl) h

theorem writeSum_parallel (b : IBank) (z : Fin 16) (y : Word) (o neg : Bool) (h : samePacket s u) :
    parallel s (writeSum b z y o neg s) u (writeSum b z y o neg u) := by
  cases b with
  | a => exact writeA_parallel z y h
  | d =>
    cases o with
    | false => exact writeReg_parallel (.d z) y h
    | true =>
      have h1 := parallel_of_commutes
        (f := fun s => spend 1 { s with cur := { s.cur with ests := recordOverflow (drawBit 0 s) neg s.cur.ests } }) (fun _ _ => rfl) h
      exact parallel_trans h1 (writeReg_parallel (.d z) y h1.1)

theorem setStickyFp_parallel (h : samePacket s u) : parallel s (setStickyFp s) u (setStickyFp u) := parallel_of_commutes (fun _ _ => rfl) h

theorem writeTestDst_parallel (f : TestDst) (b : Bool) (h : samePacket s u) :
    parallel s (spend 1 (writeTestDst f b s)) u (spend 1 (writeTestDst f b u)) :=
  parallel_of_commutes (f := fun s => spend 1 (writeTestDst f b s))
    (fun _ _ => by
      rcases f with g | _ | _ | _
      · cases g <;> rfl
      all_goals rfl) h

/-- A protected transfer frees every register but A15 with the same values. -/
theorem curReg_scrambleWork (r : Reg) (s : State) :
    curReg (scrambleWork s) r = match r with
      | .a i => if i = 15 then s.cur.a[i] else drawWord i.val s
      | .d i => drawWord (16 + i.val) s
      | .m i => drawWord (32 + i.val) s := by
  cases r <;> simp [curReg, scrambleWork]

theorem scrambleWork_parallel (h : samePacket s u) : parallel s (scrambleWork s) u (scrambleWork u) := by
  refine ⟨?_, fun r => ?_, .inl (by simp), fun _ => .inl (by simp)⟩
  · obtain ⟨a, d, m, rpc, mem, stored, rfl⟩ := h
    exact ⟨_, _, _, _, _, _, rfl⟩
  · have hd := samePacket_drawWord h
    rw [curReg_scrambleWork, curReg_scrambleWork]
    cases r with
    | a i =>
      by_cases e : i = 15
      · exact .inl (by simp [e, curReg])
      · exact .inr (by simp [e, hd])
    | d i | m i => exact .inr (hd _).symm

theorem swapStacks_parallel (src dst : StackId) (pushed : Option Word) (h : samePacket s u) :
    parallel s (swapStacks src dst pushed s) u (swapStacks src dst pushed u) := by
  unfold swapStacks
  split
  · split
    · exact writeA_parallel 15 _ h
    · exact parallel_refl h
  · have h1 := parallel_of_commutes
      (f := fun s => { s with cur := { s.cur with secsp := s.cur.secsp.set src (pushed.getD (readSp s)) } }) (fun _ _ => rfl) h
    have h2 := parallel_trans h1 (writeA_parallel 15 s.pre.secsp[dst] h1.1)
    obtain ⟨_, _, _, _, _, _, rfl⟩ := h
    exact h2

theorem pushProt_parallel (f : ProtFrame) (h : samePacket s u) : parallel s (pushProt f s) u (pushProt f u) :=
  parallel_of_commutes (fun w s => by
    change (if s.pre.protStack.length < s.cfg.maxPsp then _ else _) = _
    unfold pushProt
    split
    · change (if s.pre.warnPsp ≤ s.pre.protStack.length + 1 then _ else _) = _
      simp only
      split <;> rfl
    · rfl) h

/-! ### Memory -/

/-- Setting one byte writes the same to every two memories. -/
theorem put_sameWrite (m m' : Memory) (a b : Nat) (y : Byte) :
    sameWrite (memByte m b) (memByte (m.put (a % 4294967296) y) b) (memByte m' b) (memByte (m'.put (a % 4294967296) y) b) := by
  by_cases e : b % 4294967296 = a % 4294967296
  · exact .inr (by simp only [memByte, e, find_put_same])
  · exact .inl ⟨memByte_put_other _ _ _ _ e, memByte_put_other _ _ _ _ e⟩

/-- A little-endian write writes the same to every two memories. -/
theorem writeLE_sameWrite (m m' : Memory) (a n y b : Nat) :
    sameWrite (memByte m b) (memByte (writeLE m a n y) b) (memByte m' b) (memByte (writeLE m' a n y) b) := by
  induction n generalizing m m' a y with
  | zero => exact .inl ⟨rfl, rfl⟩
  | succ n ih => exact sameWrite_trans (put_sameWrite m m' a b _) (ih _ _ _ _)

theorem storeBytes_parallel (a : Word) (n : Nat) (y : DWord) (h : samePacket s u) :
    parallel s (storeBytes a n y s) u (storeBytes a n y u) := by
  refine ⟨?_, fun q => .inl (by cases q <;> exact ⟨rfl, rfl⟩), .inl ⟨rfl, rfl⟩, fun b => writeLE_sameWrite _ _ _ _ _ b⟩
  obtain ⟨_, _, _, _, _, _, rfl⟩ := h
  exact ⟨_, _, _, _, _, _, rfl⟩

theorem markStored_parallel (a : Word) (n : Nat) (h : samePacket s u) : parallel s (markStored a n s) u (markStored a n u) := by
  refine ⟨?_, fun q => .inl (by cases q <;> exact ⟨rfl, rfl⟩), .inl ⟨rfl, rfl⟩, fun _ => .inl ⟨rfl, rfl⟩⟩
  obtain ⟨_, _, _, _, _, _, rfl⟩ := h
  exact ⟨_, _, _, _, _, _, rfl⟩

theorem storeFree_parallel (a : Word) (n : Nat) (y : DWord) (h : samePacket s u) :
    parallel s (storeFree a n y s) u (storeFree a n y u) := by
  unfold storeFree
  rw [samePacket_drawBit h]
  cases drawBit 0 s with
  | false => have h1 := markStored_parallel a n h; exact parallel_trans h1 (spend_parallel 1 h1.1)
  | true => have h1 := storeBytes_parallel a n y h; exact parallel_trans h1 (spend_parallel 1 h1.1)

/-- A refused access to memory. -/
theorem accessError_parallel (c : Cause) (o : Output) (h : samePacket s u) : parallel s (raise c (emit o s)) u (raise c (emit o u)) :=
  have h1 := emit_parallel o h
  parallel_trans h1 (raise_parallel c h1.1)

/-! ### Operations that may stop -/

/-- A read gives one value from both states, and goes on in parallel. -/
theorem sameEffect_memRead (a : Word) (n : Nat) {f f' : DWord × State → Res State} (h : samePacket s u)
    (hf : ∀ y t v, parallel s t u v → SameEffect (f (y, t)) (f' (y, v)) t v) :
    SameEffect (andThen (memRead a n s) f) (andThen (memRead a n u) f') s u := by
  have hgo : ∀ y t v, parallel s t u v → SameEffect (andThen (.next (y, t)) f) (andThen (.next (y, v)) f') s u :=
    fun y t v g => sameEffect_trans g (hf y t v g)
  unfold memRead
  rw [samePacket_pre h, samePacket_cfg h, samePacket_fault h, samePacket_drawData h]
  repeat' split
  · have h1 := raise_parallel .addressingFault h; exact hgo _ _ _ (parallel_trans h1 (spend_parallel 1 h1.1))
  · have h1 := accessError_parallel .protectionViolation (.accessError a.toNat) h; exact hgo _ _ _ (parallel_trans h1 (spend_parallel 1 h1.1))
  · exact hgo _ _ _ (spend_parallel 1 h)
  · rfl
  · have h1 := emit_parallel (.deviceRead a.toNat n) h; exact hgo _ _ _ (parallel_trans h1 (spend_parallel 1 h1.1))
  · exact hgo _ _ _ (parallel_refl h)

theorem sameEffect_memWrite (a : Word) (n : Nat) (y : DWord) (h : samePacket s u) :
    SameEffect (memWrite a n y s) (memWrite a n y u) s u := by
  unfold memWrite
  rw [samePacket_pre h, samePacket_cfg h, samePacket_fault h]
  repeat' split
  · exact raise_parallel _ h
  · exact accessError_parallel _ _ h
  · exact parallel_refl h
  · rfl
  · have h1 := emit_parallel (.deviceWrite a.toNat n (lowBytes n y)) h; exact parallel_trans h1 (markStored_parallel a n h1.1)
  · exact storeFree_parallel a n y h
  · exact storeFree_parallel a n y h
  · exact storeBytes_parallel a n y h
  · exact storeBytes_parallel a n y h
  · exact storeBytes_parallel a n y h

theorem sameEffect_scribble (a : Word) (n : Nat) (h : samePacket s u) : SameEffect (scribble a n s) (scribble a n u) s u := by
  induction n generalizing a s u with
  | zero => exact parallel_refl h
  | succ n ih =>
    simp only [scribble]
    rw [samePacket_pre h, samePacket_cfg h, samePacket_fault h, samePacket_drawData h]
    repeat' split
    · exact accessError_parallel _ _ h
    · exact parallel_refl h
    · rfl
    · have h1 := markStored_parallel a 1 h
      have h2 := parallel_trans h1 (spend_parallel 1 h1.1)
      exact sameEffect_trans h2 (ih _ h2.1)
    · have h1 := storeBytes_parallel a 1 (drawData s) h
      have h2 := parallel_trans h1 (spend_parallel 1 h1.1)
      exact sameEffect_trans h2 (ih _ h2.1)

theorem sameEffect_pushFrame (sp : Word) (n : Nat) (y : Word) (h : samePacket s u) :
    SameEffect (pushFrame sp n y s) (pushFrame sp n y u) s u := by
  unfold pushFrame
  rw [samePacket_pre h, samePacket_cfg h]
  refine sameEffect_andThen (sameEffect_memWrite _ _ _ h) fun t v g => ?_
  split
  · exact sameEffect_scribble _ _ g.1
  · exact parallel_refl g.1

theorem sameEffect_stopUnlessFaulted (r : Refusal) (h : samePacket s u) : SameEffect (stopUnlessFaulted r s) (stopUnlessFaulted r u) s u := by
  unfold stopUnlessFaulted
  rw [samePacket_fault h]
  split
  · exact parallel_refl h
  · rfl

theorem sameEffect_jumpTo (delay : Fin 8) (late : Late) (target : Word) (h : samePacket s u) :
    SameEffect (jumpTo delay late target s) (jumpTo delay late target u) s u := by
  unfold jumpTo
  split
  · exact sameEffect_stopUnlessFaulted _ h
  · split
    · exact parallel_of_commutes (f := fun s => { s with cur := { s.cur with pc := target }, pkt := { s.pkt with jumped := true } })
        (fun _ _ => rfl) h
    · exact parallel_of_commutes (f := fun s => { s with cur := { s.cur with pending := some ⟨target, delay.val, late⟩ } })
        (fun _ _ => rfl) h

/-- A jump after parallel steps. -/
theorem sameEffect_jumpTo_of_parallel {delay : Fin 8} {late : Late} {target : Word} (h : parallel s t u v) :
    SameEffect (jumpTo delay late target t) (jumpTo delay late target v) s u :=
  sameEffect_trans h (sameEffect_jumpTo _ _ _ h.1)

/-! ### Instructions through a memory operand -/

theorem sameEffect_loadReg (n : Nat) (f : Word → DWord → Word) (r : Reg) (e : EffAddr) (h : samePacket s u) :
    SameEffect (loadReg n f r e s) (loadReg n f r e u) s u := by
  unfold loadReg
  refine sameEffect_memRead _ _ h fun y t v g => ?_
  rw [samePacket_readReg h]
  have h1 := writeReg_parallel r (f (readReg r s) y) g.1
  exact parallel_trans h1 (applySide_parallel e h1.1)

theorem sameEffect_loadPair (r : XReg) (e : EffAddr) (h : samePacket s u) : SameEffect (loadPair r e s) (loadPair r e u) s u :=
  sameEffect_memRead _ _ h fun y _ _ g =>
    have h1 := writeX_parallel r y g.1
    parallel_trans h1 (applySide_parallel e h1.1)

theorem sameEffect_storeVal (n : Nat) (y : DWord) (e : EffAddr) (h : samePacket s u) :
    SameEffect (storeVal n y e s) (storeVal n y e u) s u :=
  sameEffect_andThen (sameEffect_memWrite _ _ _ h) fun _ _ g => applySide_parallel e g.1

theorem sameEffect_moveMem (n : Nat) (dst src : EffAddr) (h : samePacket s u) : SameEffect (moveMem n dst src s) (moveMem n dst src u) s u :=
  sameEffect_memRead _ _ h fun y _ _ g => sameEffect_andThen (sameEffect_memWrite _ _ y g.1) fun _ _ k =>
    have h1 := applySide_parallel src k.1
    parallel_trans h1 (applySide_parallel dst h1.1)

theorem sameEffect_modifyMem (n : Nat) (f : DWord → DWord) (e : EffAddr) (h : samePacket s u) :
    SameEffect (modifyMem n f e s) (modifyMem n f e u) s u :=
  sameEffect_memRead _ _ h fun y _ _ g => sameEffect_andThen (sameEffect_memWrite _ _ (f y) g.1) fun _ _ k => applySide_parallel e k.1

/-! ### Control transfer -/

theorem sameEffect_callTo (target : Word) (delay : Fin 8) (h : samePacket s u) : SameEffect (callTo target delay s) (callTo target delay u) s u := by
  have h1 := checkSp_parallel h
  have h2 := parallel_trans h1 (checkTransfer_parallel target h1.1)
  have hp := sameEffect_trans h2 (sameEffect_pushFrame (readSp s) 8 s.pre.rpc h2.1)
  obtain ⟨_, _, _, _, _, _, rfl⟩ := h
  refine sameEffect_andThen hp fun t v g => ?_
  have h3 := writeA_parallel 15 (readSp s + 8) g.1
  by_cases hd : delay = 0
  · simp only [hd, if_true]
    exact sameEffect_jumpTo_of_parallel (parallel_trans h3 (writeRpc_parallel _ h3.1))
  · simp only [hd, if_false]
    exact sameEffect_jumpTo_of_parallel h3

theorem sameEffect_returnTo (delay : Fin 8) (h : samePacket s u) : SameEffect (returnTo delay s) (returnTo delay u) s u := by
  have h1 := checkSp_parallel h
  have h2 := parallel_trans h1 (checkTransfer_parallel s.pre.rpc h1.1)
  have hu := h
  obtain ⟨_, _, _, _, _, _, rfl⟩ := hu
  refine sameEffect_trans h2 (sameEffect_memRead (readSp s - 8) 4 h2.1 fun y t v g => ?_)
  have h3 := writeRpc_parallel (lowWord y) g.1
  exact sameEffect_jumpTo_of_parallel (parallel_trans h3 (writeA_parallel 15 (readSp s - 8) h3.1))

theorem sameEffect_branchTo (target : Word) (delay : Fin 8) (h : samePacket s u) :
    SameEffect (branchTo target delay s) (branchTo target delay u) s u :=
  sameEffect_jumpTo_of_parallel (checkTransfer_parallel target h)

theorem sameEffect_enterProtected (target : Word) (pushed : Option Word) (h : samePacket s u) :
    SameEffect (enterProtected target pushed s) (enterProtected target pushed u) s u := by
  have h1 := scrambleWork_parallel h
  have h2 := parallel_trans h1 (swapStacks_parallel (stackOf s.cfg s.pre.ists.currlink) (targetStack target s) pushed h1.1)
  have h3 := parallel_of_commutes (f := fun t => { t with cur := { t.cur with
    dsts := { t.cur.dsts with clink := s.pre.ists.currlink }
    ists := { t.cur.ists with atomic := 0, currsp := targetStack target s }
    expect := .entryPair } }) (fun _ _ => rfl) h2.1
  obtain ⟨_, _, _, _, _, _, rfl⟩ := h
  exact sameEffect_jumpTo_of_parallel (parallel_trans h2 h3)

theorem sameEffect_callProt (target : Word) (h : samePacket s u) : SameEffect (callProt target s) (callProt target u) s u := by
  have h1 := checkSp_parallel h
  have h2 := parallel_trans h1 (raiseIf_parallel (s.cfg.maxPsp ≤ s.pre.protStack.length) .protectedCallStackFull h1.1)
  have hp := sameEffect_trans h2 (sameEffect_pushFrame (readSp s) 8 s.pre.rpc h2.1)
  obtain ⟨_, _, _, _, _, _, rfl⟩ := h
  refine sameEffect_andThen hp fun t v g => ?_
  have h3 := writeRpc_parallel s.pkt.seqPc g.1
  have h4 := parallel_trans h3 (pushProt_parallel ⟨s.pre.ists.currlink, stackOf s.cfg s.pre.ists.currlink, s.pkt.seqPc⟩ h3.1)
  exact sameEffect_trans h4 (sameEffect_enterProtected target (some (readSp s + 8)) h4.1)

theorem sameEffect_returnProt (h : samePacket s u) : SameEffect (returnProt s) (returnProt u) s u := by
  have h1 := checkSp_parallel h
  have hu := h
  obtain ⟨_, _, _, _, _, _, rfl⟩ := hu
  unfold returnProt
  cases hs : s.pre.protStack with
  | nil => exact sameEffect_trans h1 (sameEffect_stopUnlessFaulted _ h1.1)
  | cons f rest =>
    simp only
    split
    · exact sameEffect_trans h1 (sameEffect_stopUnlessFaulted _ h1.1)
    · refine sameEffect_trans h1 (sameEffect_memRead _ 4 h1.1 fun y t v g => ?_)
      have h2 := scrambleWork_parallel g.1
      have h3 := parallel_trans h2 (writeRpc_parallel (lowWord y) h2.1)
      have h4 := parallel_trans h3 (parallel_of_commutes (f := fun w => if f.stack = stackOf s.cfg s.pre.ists.currlink then w
        else { w with cur := { w.cur with secsp := w.cur.secsp.set (stackOf s.cfg s.pre.ists.currlink) (readSp s) } })
        (fun _ _ => by split <;> rfl) h3.1)
      have h5 := parallel_trans h4 (writeA_parallel 15
        ((if f.stack = stackOf s.cfg s.pre.ists.currlink then readSp s else s.pre.secsp[f.stack]) - 8) h4.1)
      have h6 := parallel_trans h5 (parallel_of_commutes (f := fun w => spend 1 { w with cur := { w.cur with
        protStack := rest
        dsts := { w.cur.dsts with rlink := s.pre.ists.currlink, clink := Fin.ofNat 16 (drawWord 0 w).toNat }
        ists := { w.cur.ists with atomic := 0, currsp := f.stack }
        expect := .exitMark } }) (fun _ _ => rfl) h5.1)
      exact sameEffect_jumpTo_of_parallel h6

theorem sameEffect_returnInt (delay : Fin 8) (h : samePacket s u) : SameEffect (returnInt delay s) (returnInt delay u) s u := by
  have h1 := checkSp_parallel h
  have h2 := parallel_trans h1 (checkTransfer_parallel s.pre.rpc h1.1)
  have hst := sameEffect_stopUnlessFaulted .retiIntOutside h
  obtain ⟨_, _, _, _, _, _, rfl⟩ := h
  unfold returnInt
  simp only
  split
  · rename_i f rest _ _
    refine sameEffect_trans h2 (sameEffect_memRead _ 4 h2.1 fun y t v g => ?_)
    have h3 := writeRpc_parallel (lowWord y) g.1
    have h4 := parallel_trans h3 (writeA_parallel 15 (readSp s - BitVec.ofNat 32 s.cfg.intFrameBytes) h3.1)
    have h5 := parallel_trans h4 (parallel_of_commutes (f := fun w => spend 1 { w with cur := { w.cur with
      dsts := { w.cur.dsts with ints := f.ints, prio := f.prio, inte := inteAfterReti f w }
      intSaves := rest
      ists := { w.cur.ists with intf := w.cur.ists.intf && !rest.isEmpty } } }) (fun _ _ => rfl) h4.1)
    exact sameEffect_jumpTo_of_parallel h5
  · exact hst

theorem sameEffect_returnRealtime (delay : Fin 8) (h : samePacket s u) :
    SameEffect (returnRealtime delay s) (returnRealtime delay u) s u := by
  have hst := sameEffect_stopUnlessFaulted .retiRtintEmpty h
  obtain ⟨_, _, _, _, _, _, rfl⟩ := h
  unfold returnRealtime
  simp only
  split
  · exact hst
  · refine sameEffect_jumpTo_of_parallel ⟨⟨_, _, _, _, _, _, rfl⟩, fun r => .inr ?_, .inr rfl, fun _ => .inl ⟨rfl, rfl⟩⟩
    cases r <;> rfl

/-! ### Instructions whose meaning branches -/

theorem setInte_parallel (b : Bool) (h : samePacket s u) :
    parallel s { s with cur := { s.cur with dsts := { s.cur.dsts with inte := b } } } u
      { u with cur := { u.cur with dsts := { u.cur.dsts with inte := b } } } :=
  parallel_of_commutes (f := fun w => { w with cur := { w.cur with dsts := { w.cur.dsts with inte := b } } }) (fun _ _ => rfl) h

theorem setIdle_parallel (h : samePacket s u) :
    parallel s { s with cur := { s.cur with idle := true } } u { u with cur := { u.cur with idle := true } } :=
  parallel_of_commutes (f := fun w => { w with cur := { w.cur with idle := true } }) (fun _ _ => rfl) h

theorem sameEffect_execAtomic (n : BitVec 8) (h : samePacket s u) : SameEffect (execAtomic n s) (execAtomic n u) s u := by
  have hst := sameEffect_stopUnlessFaulted (.atomicCount n.toNat) h
  have hu := h
  obtain ⟨_, _, _, _, _, _, rfl⟩ := hu
  unfold execAtomic
  simp only
  split
  · exact hst
  · split
    · exact parallel_of_commutes (f := fun w => { w with
        cur := { w.cur with ists := { w.cur.ists with atomic := n } }, pkt := { w.pkt with atomicLoaded := true } }) (fun _ _ => rfl) h
    · exact parallel_of_commutes (f := fun w => { w with cur := { w.cur with ists := { w.cur.ists with atomic := 0 } } }) (fun _ _ => rfl) h

theorem sameEffect_execBranch (target : BrTarget) (c : Cond) (delay : Fin 8) (h : samePacket s u) :
    SameEffect (execBranch target c delay s) (execBranch target c delay u) s u := by
  have hb := sameEffect_branchTo (brTarget target s) delay h
  have ht : brTarget target u = brTarget target s := by cases target <;> simp [brTarget, readA, samePacket_pre h]
  unfold execBranch
  rw [ht, samePacket_pre h]
  split
  · exact hb
  · exact parallel_refl h

theorem sameEffect_execBcmpz (label : Word) (c : DCond) (y : Fin 16) (delay : Fin 8) (h : samePacket s u) :
    SameEffect (execBcmpz label c y delay s) (execBcmpz label c y delay u) s u := by
  have hf : parallel s (bcmpzFlags (readD y s) s) u (bcmpzFlags (readD y s) u) := parallel_of_commutes (fun _ _ => rfl) h
  unfold execBcmpz
  rw [samePacket_readD h, samePacket_pre h]
  split
  · exact sameEffect_trans hf (sameEffect_branchTo label delay hf.1)
  · exact hf

/-- An EMUSTOP0 that halts puts back the state before the packet, whatever was written (R296). -/
theorem sameEffect_execEmustop0 (h : samePacket s u) : SameEffect (execEmustop0 s) (execEmustop0 u) s u := by
  obtain ⟨c, rfl⟩ := samePacket_iff.1 h
  have hw : breakArmed (withWork c s) = breakArmed s := rfl
  unfold execEmustop0
  rw [hw]
  split
  · exact ⟨⟨_, _, _, _, _, _, rfl⟩, fun _ => .inr rfl, .inr rfl, fun _ => .inr rfl⟩
  · exact parallel_refl h

theorem sameEffect_execLdRpc (a : Word) (h : samePacket s u) : SameEffect (execLdRpc a s) (execLdRpc a u) s u :=
  sameEffect_memRead _ _ h fun y _ _ g => writeRpc_parallel (lowWord y) g.1

theorem sameEffect_execStatusOp (op : StatusOp) (h : samePacket s u) : SameEffect (execStatusOp op s) (execStatusOp op u) s u := by
  have hu := h
  obtain ⟨_, _, _, _, _, _, rfl⟩ := hu
  cases op with
  | load r m =>
    refine sameEffect_memRead (evalAddr1 m s).addr 4 h fun y t v g => ?_
    have h1 := writeStatus_parallel r (lowWord y) g.1
    exact parallel_trans h1 (applySide_parallel (evalAddr1 m s) h1.1)
  | store r m => exact sameEffect_storeVal 4 ((readStatus r s).setWidth 64) (evalAddr1 m s) h
  | toReg r dst => exact writeReg_parallel dst (readStatus r s) h
  | ofReg r src => exact writeStatus_parallel r (readReg src s) h
  | andImm r imm => exact writeStatus_parallel r (readStatus r s &&& imm) h
  | orImm r imm => exact writeStatus_parallel r (readStatus r s ||| imm) h

theorem sameEffect_execSubReg (b : IBank) (z y q : Fin 16) (h : samePacket s u) : SameEffect (execSubReg b z y q s) (execSubReg b z y q u) s u := by
  have hu := h
  obtain ⟨_, _, _, _, _, _, rfl⟩ := hu
  unfold execSubReg
  cases hc : s.cfg.subOrder <;> exact writeSum_parallel b z _ _ _ h

theorem sameEffect_execMvReg (op : MvRegs) (h : samePacket s u) : SameEffect (execMvReg op s) (execMvReg op u) s u := by
  have hu := h
  obtain ⟨_, _, _, _, _, _, rfl⟩ := hu
  cases op with
  | word dst src => exact writeReg_parallel dst (readReg src s) h
  | pair dst src => exact writeX_parallel dst (readX src s) h

theorem sameEffect_execCmp (op : CmpRegs) (h : samePacket s u) : SameEffect (execCmp op s) (execCmp op u) s u := by
  cases op with
  | a y q => exact parallel_of_commutes (f := fun w => { w with cur := { w.cur with
      dsts := { w.cur.dsts with flags := compareFlags false (readA y w) (readA q w) } } }) (fun _ _ => rfl) h
  | d y q => exact parallel_of_commutes (f := fun w => { w with cur := { w.cur with
      ests := { w.cur.ests with flags := compareFlags true (readD y w) (readD q w) } } }) (fun _ _ => rfl) h
  | m y q => exact parallel_of_commutes (f := fun w => { w with cur := { w.cur with ests := { w.cur.ests with
      zf := (compareFlagsM (readM y w) (readM q w)).1, nf := (compareFlagsM (readM y w) (readM q w)).2 } } }) (fun _ _ => rfl) h

/-- The free value that a circular update outside its range leaves. -/
theorem writeDrawn_parallel (i : Fin 16) (h : samePacket s u) :
    parallel s (spend 1 (writeA i (drawWord 0 s) s)) u (spend 1 (writeA i (drawWord 0 s) u)) :=
  have h1 := writeA_parallel i (drawWord 0 s) h
  parallel_trans h1 (spend_parallel 1 h1.1)

theorem sameEffect_execIncCirc (y : Fin 4) (q : Fin 16) (h : samePacket s u) : SameEffect (execIncCirc y q s) (execIncCirc y q u) s u := by
  simp only [execIncCirc, samePacket_readA h, samePacket_drawWord h]
  split
  · exact writeA_parallel _ _ h
  · exact writeDrawn_parallel _ h

theorem sameEffect_execDecCirc (y : Fin 4) (q : Fin 16) (h : samePacket s u) : SameEffect (execDecCirc y q s) (execDecCirc y q u) s u := by
  simp only [execDecCirc, samePacket_readA h, samePacket_drawWord h]
  split
  · exact writeA_parallel _ _ h
  · exact writeDrawn_parallel _ h

/-! ### All instructions -/

/-- Every instruction answers alike and writes the same, whatever others of its packet have written (R16). -/
theorem sameEffect_exec (i : Instr) (h : samePacket s u) : SameEffect (exec i s) (exec i u) s u := by
  have hu := h
  obtain ⟨_, _, _, _, _, _, rfl⟩ := hu
  cases i with
  | add32Addr1 | addS16Addr1 | addS8Addr1 | andU16Addr1 | andU8Addr1 | andorB0Addr1 | andorW0Addr1 | mvU16Addr1 | mvU8Addr1 | retAddr1
    | s16tofAddr1 | sub32Addr1 | subS16Addr1 | subS8Addr1 | subr32Addr1 | subrS16Addr1 | subrS8Addr1 | u16tofAddr1 | and32Addr2
    | andorAddr2 | mv16Addr2 | mv32Addr2 | mv64Addr2 | mv8Addr2 | or32Addr2 | xor32Addr2 | s16tofDirm | s16tofDirmIx | u16tofDirm
    | u16tofDirmIx | preserve | xc | xcp | eccselftest => rfl
  | and16Addr1 m v => exact sameEffect_modifyMem 2 (fun y => y &&& v.setWidth 64) (evalAddr1 m s) h
  | and8Addr1 m v => exact sameEffect_modifyMem 1 (fun y => y &&& v.setWidth 64) (evalAddr1 m s) h
  | or16Addr1 m v => exact sameEffect_modifyMem 2 (fun y => y ||| v.setWidth 64) (evalAddr1 m s) h
  | or8Addr1 m v => exact sameEffect_modifyMem 1 (fun y => y ||| v.setWidth 64) (evalAddr1 m s) h
  | xor16Addr1 m v => exact sameEffect_modifyMem 2 (fun y => y ^^^ v.setWidth 64) (evalAddr1 m s) h
  | xor8Addr1 m v => exact sameEffect_modifyMem 1 (fun y => y ^^^ v.setWidth 64) (evalAddr1 m s) h
  | ld32Addr1 r m | ldB0Addr1 r m | ldB1Addr1 r m | ldB2Addr1 r m | ldB3Addr1 r m | ldS16Addr1 r m | ldS8Addr1 r m | ldU16Addr1 r m
    | ldU8Addr1 r m | ldW0Addr1 r m | ldW1Addr1 r m => exact sameEffect_loadReg _ _ r (evalAddr1 m s) h
  | ld32Addr2 r m => exact sameEffect_loadReg _ _ r (evalAddr2 m 4 s) h
  | ld32Dirm r a | ldB0Dirm r a | ldB1Dirm r a | ldB2Dirm r a | ldB3Dirm r a | ldS16Dirm r a | ldS8Dirm r a | ldU16Dirm r a
    | ldU8Dirm r a | ldW0Dirm r a | ldW1Dirm r a => exact sameEffect_loadReg _ _ r (evalDirect a) h
  | ld32DirmIx r b o | ldB0DirmIx r b o | ldB1DirmIx r b o | ldB2DirmIx r b o | ldB3DirmIx r b o | ldS16DirmIx r b o | ldS8DirmIx r b o
    | ldU16DirmIx r b o | ldU8DirmIx r b o | ldW0DirmIx r b o | ldW1DirmIx r b o => exact sameEffect_loadReg _ _ r (evalIndexed b o s) h
  | ld64Addr1 r m => exact sameEffect_loadPair r (evalAddr1 m s) h
  | ld64Addr2 r m => exact sameEffect_loadPair r (evalAddr2 m 8 s) h
  | ld64Dirm r a => exact sameEffect_loadPair r (evalDirect a) h
  | ld64DirmIx r b o => exact sameEffect_loadPair r (evalIndexed b o s) h
  | mv16Addr1 d m | mv32Addr1 d m | mv64Addr1 d m | mv8Addr1 d m => exact sameEffect_moveMem _ (evalAddr1 d s) (evalAddr1 m s) h
  | mv32Addr3 d m => exact sameEffect_moveMem 4 (evalAddr3 d s) (evalAddr3 m s) h
  | st16Addr1 m v | st8Addr1 m v => exact sameEffect_storeVal _ (v.setWidth 64) (evalAddr1 m s) h
  | st16Addr2 m v => exact sameEffect_storeVal 2 (v.setWidth 64) (evalAddr2 m 2 s) h
  | st8Addr2 m v => exact sameEffect_storeVal 1 (v.setWidth 64) (evalAddr2 m 1 s) h
  | st32Addr1 m r | stB0Addr1 m r | stB1Addr1 m r | stB2Addr1 m r | stB3Addr1 m r | stW0Addr1 m r
    | stW1Addr1 m r => exact sameEffect_storeVal _ (laneOf _ (readReg r s)) (evalAddr1 m s) h
  | st32Addr2 m r => exact sameEffect_storeVal 4 (laneOf 0 (readReg r s)) (evalAddr2 m 4 s) h
  | st32Dirm a r | stB0Dirm a r | stB1Dirm a r | stB2Dirm a r | stB3Dirm a r | stW0Dirm a r
    | stW1Dirm a r => exact sameEffect_storeVal _ (laneOf _ (readReg r s)) (evalDirect a) h
  | st32DirmIx b o r | stB0DirmIx b o r | stB1DirmIx b o r | stB2DirmIx b o r | stB3DirmIx b o r | stW0DirmIx b o r
    | stW1DirmIx b o r => exact sameEffect_storeVal _ (laneOf _ (readReg r s)) (evalIndexed b o s) h
  | st64Addr1 m r => exact sameEffect_storeVal 8 (readX r s) (evalAddr1 m s) h
  | st64Addr2 m r => exact sameEffect_storeVal 8 (readX r s) (evalAddr2 m 8 s) h
  | st64Dirm a r => exact sameEffect_storeVal 8 (readX r s) (evalDirect a) h
  | st64DirmIx b o r => exact sameEffect_storeVal 8 (readX r s) (evalIndexed b o s) h
  | callLabel a d => exact sameEffect_callTo a d h
  | callReg y d => exact sameEffect_callTo (readA y s) d h
  | ret d => exact sameEffect_returnTo d h
  | branch t c d => exact sameEffect_execBranch t c d h
  | bcmpz a c y d => exact sameEffect_execBcmpz a c y d h
  | callProtLabel a => exact sameEffect_callProt a h
  | callProtReg y => exact sameEffect_callProt (readA y s) h
  | lbProt a => exact sameEffect_enterProtected a none h
  | retProt => exact sameEffect_returnProt h
  | entry1Prot | entry2Prot | exitProt | isr2Prot | nop => exact parallel_refl h
  | enint => exact setInte_parallel true h
  | disint => exact setInte_parallel false h
  | idle => exact setIdle_parallel h
  | emustop0 => exact sameEffect_execEmustop0 h
  | atomic n => exact sameEffect_execAtomic n h
  | retiInt => exact sameEffect_returnInt 0 h
  | retiIntD d => exact sameEffect_returnInt d h
  | retiRtint => exact sameEffect_returnRealtime 0 h
  | retiRtintD d => exact sameEffect_returnRealtime d h
  | isr1Prot => exact writeA_parallel 15 s.pre.secsp[s.pre.ists.currsp] h
  | movRpc y => exact writeA_parallel y s.pre.rpc h
  | ldRpc a => exact sameEffect_execLdRpc a h
  | statusOp op => exact sameEffect_execStatusOp op h
  | addU16 z y v => exact writeA_parallel z (readA y s + zext32 v) h
  | subU16 z y v => exact writeA_parallel z (readA y s - zext32 v) h
  | addBitrev z y q => exact writeA_parallel z (rev32 (rev32 (readA y s) + rev32 (readA q s))) h
  | addImm b z y v => exact writeSum_parallel b z _ _ _ h
  | addReg b z y q => exact writeSum_parallel b z _ _ _ h
  | subImm b z y v => exact writeSum_parallel b z _ _ _ h
  | subReg b z y q => exact sameEffect_execSubReg b z y q h
  | mvImm r v => exact writeReg_parallel r v h
  | mvReg op => exact sameEffect_execMvReg op h
  | cmp op => exact sameEffect_execCmp op h
  | tbit f => exact writeTestDst_parallel f (drawBit 0 s) h
  | tflg f => exact writeTestDst_parallel (.flag f) (drawBit 0 s) h
  | incCirc y q => exact sameEffect_execIncCirc y q h
  | decCirc y q => exact sameEffect_execDecCirc y q h
  | ftos16 z y =>
    have h1 := setStickyFp_parallel h
    exact parallel_trans h1 (writeReg_parallel (.d z) (Config.ftos16 (readM y s)) h1.1)
  | crc z y q w => exact writeReg_parallel (.d z) (Config.crc (readD y s) (readD q s) (readD w s)) h
  | smpyf z y q =>
    have h1 := setStickyFp_parallel h
    exact parallel_trans h1 (writeReg_parallel (.m z) (fmul32 s.cfg.fp (readM y s) (readM q s)) h1.1)
  | saddf z y q | addf z y q =>
    have h1 := setStickyFp_parallel h
    exact parallel_trans h1 (writeReg_parallel (.m z) (fadd32 s.cfg.fp (readM y s) (readM q s)) h1.1)

/-- Settles O13: the same effect in every state of a packet, and the frame of what the profile names. -/
theorem instructionsReadStateBeforePacket : Obligations.InstructionsReadStateBeforePacket := by
  unfold Obligations.InstructionsReadStateBeforePacket
  refine ⟨fun i s u h => sameEffect_exec i h, fun i s t h hh he => ?_⟩
  have hb : i = .emustop0 → breakArmed s = false := by
    rintro rfl
    obtain ⟨hb, -⟩ | ⟨-, v, hv, hvh, -⟩ := execEmustop0_cases s
    · exact hb
    · cases hv.symm.trans h
      simp [hh] at hvh
  obtain ⟨hreg, hrpc, hmem, -⟩ := exec_changes h hb
  have hn : ∀ y, y ∉ destsOf i s → (hasProt [i] = false ∨ ∀ r, y ≠ .reg r) → ¬ named i s y := by
    rintro y hy hp (hn | hn | ⟨hn, r, e⟩)
    · exact hy hn
    · exact he hn
    · rcases hp with hp | hp
      · simp [hp] at hn
      · exact hp r e
  exact ⟨fun hp r hr => hreg r (hn _ hr (.inl hp)), fun hr => hrpc (hn _ hr (.inr (by simp))), hmem⟩

end Sys2Proof.Proofs
end

section
/-! PROOFS. Packets of two instructions, run through the step from any state: O9. -/

namespace Sys2Proof.Proofs

open Sys2Proof.Machine Sys2Proof.Laws

variable {s t : State} {is : List Instr} {fin : Nat}

/-! ### The end of a packet that goes on or has jumped -/

/-- Nothing but the ATOMIC counter is counted at the end of a packet outside delay slots. -/
theorem countAtomic_eq (s : State) :
    ∃ k, countAtomic s = { s with cur := { s.cur with ists := { s.cur.ists with atomic := k } } } := by
  unfold countAtomic
  split
  · exact ⟨s.cur.ists.atomic, rfl⟩
  · exact ⟨_, rfl⟩

/-- Code that runs on in its LINK passes the check of linear execution (R240). -/
theorem linearCheck_of_link (h : linkOf s.cfg s.cur.pc = some s.cur.ists.currlink) : linearCheck s = s := by simp [linearCheck, h]

/-- Outside delay slots, what is left after the ATOMIC counter is the end of the packet, where that has jumped or runs on in its LINK. -/
theorem closePacket_of_countAtomic (hh : s.pkt.halted = false) (hp : s.pre.pending = none) (ht : countAtomic s = t) (hf : t.cur.fault = none)
    (he : t.pkt.jumped = true ∨ (t.pkt.wraps = false ∧ linkOf t.cfg t.cur.pc = some t.cur.ists.currlink)) :
    closePacket s = .next (settle t) := by
  have hd : countDelay s = s := by simp [countDelay, hp]
  have hc : commit t = settle t := commit_of_no_fault t hf
  have hk : closePacket s = if t.cur.fault.isSome || t.pkt.jumped then .next (commit t)
      else if t.pkt.wraps then .refused .pastTop else .next (linearCheck (commit t)) := by
    rw [closePacket, if_neg (by simp [hh]), hd, ht]
  rw [hk, hf, hc]
  rcases he with hj | ⟨hw, hl⟩
  · simp [hj]
  · have hl' : linearCheck (settle t) = settle t := linearCheck_of_link hl
    simp [hw, hl']

/-- A packet outside delay slots that has jumped, or runs on in its LINK, ends with the state it built (R13). -/
theorem closePacket_of_linear (hh : s.pkt.halted = false) (hp : s.pre.pending = none) (hf : s.cur.fault = none)
    (he : s.pkt.jumped = true ∨ (s.pkt.wraps = false ∧ linkOf s.cfg s.cur.pc = some s.cur.ists.currlink)) :
    ∃ k, closePacket s = .next (settle { s with cur := { s.cur with ists := { s.cur.ists with atomic := k } } }) := by
  obtain ⟨k, hk⟩ := countAtomic_eq s
  exact ⟨k, closePacket_of_countAtomic hh hp hk hf he⟩

/-- The state `v` that a step answers after the instructions `is` have built `t`: the same, but for the ATOMIC counter and the sticky
flags that a write of ESTS leaves open (R282, log entry 76). -/
def endsFrom (is : List Instr) (t v : State) : Prop :=
  v.outputs = t.outputs ∧ v.cur = { t.cur with ists := v.cur.ists, ests := v.cur.ests }
    ∧ v.cur.ests = { t.cur.ests with
        ov := v.cur.ests.ov, ovneg := v.cur.ests.ovneg, luf := v.cur.ests.luf, lvf := v.cur.ests.lvf }
    ∧ ((∀ i ∈ is, overflows i t = false) → v.cur.ests.ov = t.cur.ests.ov ∧ v.cur.ests.ovneg = t.cur.ests.ovneg)
    ∧ ((∀ i ∈ is, Dst.fpFlags ∉ (profile i).dests) → v.cur.ests.luf = t.cur.ests.luf ∧ v.cur.ests.lvf = t.cur.ests.lvf)

/-- The packet of a step outside delay slots, once its instructions have run without a fault. -/
theorem step_of_execAll (hrun : runsPacket is fin s) (hx : execAll (arrange is) (openPacket fin (openStep s)) = .next t)
    (hp : s.cur.pending = none) (hh : t.pkt.halted = false) (hf : t.cur.fault = none) (hs : Instr.retProt ∉ is)
    (he : t.pkt.jumped = true ∨ (staysInLink fin s ∧ t.cur.pc = BitVec.ofNat 32 fin ∧ t.cur.ists.currlink = currLink s)) :
    ∃ v, step s = .next v ∧ endsFrom is t v := by
  obtain ⟨hpre, hcfg, -, -, hwr⟩ := execAll_keepsContext hx
  have hsc : scrambleLate is t = t := by simp [scrambleLate, hs]
  have hstep : step s = closePacket (stickyLate is t) := by rw [step_of_runsPacket hrun, hx, andThen_next, hsc]
  obtain ⟨ov, ovneg, luf, lvf, n, hst, ho, hfp⟩ := stickyLate_cases is t
  have hend : (stickyLate is t).pkt.jumped = true
      ∨ ((stickyLate is t).pkt.wraps = false ∧ linkOf (stickyLate is t).cfg (stickyLate is t).cur.pc = some (stickyLate is t).cur.ists.currlink) := by
    simp only [hst]
    refine he.imp_right fun ⟨⟨hfin, hl⟩, hpc, hcl⟩ => ⟨?_, ?_⟩
    · rw [hwr]; simpa [openPacket] using hfin
    · rw [hcfg, hpc, hcl]; exact hl
  obtain ⟨k, hk⟩ := closePacket_of_linear (s := stickyLate is t) (by rw [hst]; exact hh) (by rw [hst, hpre]; exact hp) (by rw [hst]; exact hf) hend
  refine ⟨_, hstep.trans hk, ?_⟩
  simp only [endsFrom, hst, settle, true_and]
  exact ⟨ho, hfp⟩

section Ends

variable {u v : State} (h : endsFrom is u v)
include h

theorem endsFrom_curReg (r : Reg) : curReg v r = curReg u r := by
  obtain ⟨-, hc, -⟩ := h
  cases r <;> simp only [curReg] <;> rw [hc]

theorem endsFrom_mem : v.cur.mem = u.cur.mem := by obtain ⟨-, hc, -⟩ := h; rw [hc]

theorem endsFrom_stored : v.cur.stored = u.cur.stored := by obtain ⟨-, hc, -⟩ := h; rw [hc]

theorem endsFrom_pc : v.cur.pc = u.cur.pc := by obtain ⟨-, hc, -⟩ := h; rw [hc]

theorem endsFrom_rpc : v.cur.rpc = u.cur.rpc := by obtain ⟨-, hc, -⟩ := h; rw [hc]

theorem endsFrom_dsts : v.cur.dsts = u.cur.dsts := by obtain ⟨-, hc, -⟩ := h; rw [hc]

theorem endsFrom_secsp : v.cur.secsp = u.cur.secsp := by obtain ⟨-, hc, -⟩ := h; rw [hc]

theorem endsFrom_expect : v.cur.expect = u.cur.expect := by obtain ⟨-, hc, -⟩ := h; rw [hc]

theorem endsFrom_fault : v.cur.fault = u.cur.fault := by obtain ⟨-, hc, -⟩ := h; rw [hc]

end Ends

/-- Two instructions one after the other. -/
theorem execAll_pair {i j : Instr} {u v : State} (hs : s.pkt.halted = false) (hi : exec i s = .next u) (hu : u.pkt.halted = false)
    (hj : exec j u = .next v) : execAll [i, j] s = .next v := by
  simp [execAll, hs, hi, hu, hj]

/-! ### The state in which a packet begins -/

/-- The state in which the instructions of the packet of `s` begin. -/
def opened (fin : Nat) (s : State) : State := openPacket fin (openStep s)

@[simp] theorem opened_pkt (fin : Nat) (s : State) :
    (opened fin s).pkt = { PacketCtx.empty with seqPc := BitVec.ofNat 32 fin, wraps := decide (4294967296 ≤ fin) } := rfl

@[simp] theorem opened_pc (fin : Nat) (s : State) : (opened fin s).cur.pc = BitVec.ofNat 32 fin := rfl

@[simp] theorem opened_currlink (fin : Nat) (s : State) : (opened fin s).cur.ists.currlink = currLink s := rfl

@[simp] theorem opened_fault (fin : Nat) (s : State) : (opened fin s).cur.fault = s.cur.fault := rfl

@[simp] theorem opened_curReg (r : Reg) (fin : Nat) (s : State) : curReg (opened fin s) r = curReg s r := by cases r <;> rfl

@[simp] theorem opened_readReg (r : Reg) (fin : Nat) (s : State) : readReg r (opened fin s) = curReg s r := by cases r <;> rfl

@[simp] theorem readReg_writeReg (r q : Reg) (y : Word) (s : State) : readReg r (writeReg q y s) = readReg r s := by
  cases r <;> simp [readReg, readA, readD, readM]

theorem fault_of_runsPacket (h : runsPacket is fin s) : s.cur.fault = none := by
  obtain ⟨⟨-, -, hf, -⟩, -⟩ := h
  exact hf

/-! ### Two moves -/

/-- Two moves exchange two registers (R16). -/
theorem step_swap {r q : Reg} (hl : staysInLink fin s) (hp : s.cur.pending = none)
    (h : runsPacket [.mvReg (.word r q), .mvReg (.word q r)] fin s) :
    ∃ t, step s = .next t ∧ curReg t r = curReg s q ∧ curReg t q = curReg s r ∧ keepsRegs [r, q] s t ∧ keepsMemory s t
      ∧ t.cur.pc = BitVec.ofNat 32 fin ∧ t.cur.fault = none := by
  have hf := fault_of_runsPacket h
  have hx : execAll (arrange [.mvReg (.word r q), .mvReg (.word q r)]) (opened fin s)
      = .next (writeReg q (curReg s r) (writeReg r (curReg s q) (opened fin s))) := by
    refine execAll_pair rfl (u := writeReg r (curReg s q) (opened fin s)) ?_ (by simp [PacketCtx.empty]) ?_
    · rw [← opened_readReg q fin s]; rfl
    · rw [← opened_readReg r fin s, ← readReg_writeReg r r (curReg s q)]; rfl
  obtain ⟨v, hv, he⟩ := step_of_execAll h hx hp (by simp [PacketCtx.empty]) (by simpa using hf) (by simp) (.inr ⟨hl, by simp, by simp⟩)
  refine ⟨v, hv, ?_, ?_, fun y hy => ?_, ⟨fun b => ?_, ?_⟩, ?_, ?_⟩
  · rw [endsFrom_curReg he]
    by_cases e : r = q
    · subst e; rw [curReg_writeReg_same]
    · rw [curReg_writeReg_of_ne _ _ e, curReg_writeReg_same]
  · rw [endsFrom_curReg he, curReg_writeReg_same]
  · simp only [List.mem_cons, List.not_mem_nil, or_false, not_or] at hy
    rw [endsFrom_curReg he, curReg_writeReg_of_ne _ _ hy.2, curReg_writeReg_of_ne _ _ hy.1, opened_curReg]
  · rw [endsFrom_mem he, writeReg_cur_mem, writeReg_cur_mem]; rfl
  · rw [endsFrom_stored he, writeReg_cur_stored, writeReg_cur_stored]; rfl
  · rw [endsFrom_pc he]; simp
  · rw [endsFrom_fault he]; simpa using hf

/-! ### A load beside a store -/

/-- The word read little-endian is the old word. -/
theorem loadWhole_readLE (a : Word) (old : Word) (s : State) : loadWhole old (BitVec.ofNat 64 (readLE s.pre.mem a.toNat 4)) = oldWord s a := by
  apply BitVec.eq_of_toNat_eq
  have h0 := (memByte s.pre.mem a.toNat).isLt
  have h1 := (memByte s.pre.mem (a.toNat + 1)).isLt
  have h2 := (memByte s.pre.mem (a.toNat + 2)).isLt
  have h3 := (memByte s.pre.mem (a.toNat + 3)).isLt
  simp only [loadWhole, lowWord, oldWord, oldByte, toNat_concat, BitVec.toNat_setWidth, BitVec.toNat_ofNat]
  simp only [readLE, Nat.add_zero, Nat.add_assoc, Nat.reduceAdd]
  omega

/-- The low word of a register, as a store takes it. -/
theorem toNat_laneOf_zero (y : Word) : (laneOf 0 y).toNat = y.toNat := by
  have := y.isLt
  simp only [laneOf, BitVec.ushiftRight_zero, BitVec.toNat_setWidth]
  omega

theorem lowBytes_laneOf_zero (y : Word) : lowBytes 4 (laneOf 0 y) = y.setWidth 64 := by
  have := y.isLt
  apply BitVec.eq_of_toNat_eq
  simp only [lowBytes, toNat_laneOf_zero, BitVec.toNat_ofNat, BitVec.toNat_setWidth]
  omega

/-- A load that its access lets through. -/
theorem exec_ld32Dirm {u : State} {y : DWord} {q : Reg} {a : Word} (h : memRead a 4 s = .next (y, u)) :
    exec (.ld32Dirm q a) s = .next (writeReg q (lowWord y) u) := by
  change andThen (memRead a 4 s) (fun v => .next (writeReg q (lowWord v.1) v.2)) = _
  rw [h]; rfl

/-- A store that its access lets through. -/
theorem exec_st32Dirm {u : State} {r : Reg} {a : Word} (h : memWrite a 4 (laneOf 0 (readReg r s)) s = .next u) :
    exec (.st32Dirm a r) s = .next u := by
  change andThen (memWrite a 4 (laneOf 0 (readReg r s)) s) (fun v => .next v) = _
  rw [h]; rfl

theorem arrange_store_load (a b : Word) (r q : Reg) : arrange [.st32Dirm a r, .ld32Dirm q b] = [.ld32Dirm q b, .st32Dirm a r] := rfl

/-- A load and a store of one address: the load reads the memory of before the packet (R155). -/
theorem step_load_store {r q : Reg} {a : Word} (hl : staysInLink fin s) (hp : s.cur.pending = none)
    (h : runsPacket [.st32Dirm a r, .ld32Dirm q a] fin s) (hro : readOk a 4 (openStep s)) (hwo : writeOk a 4 (openStep s)) :
    ∃ t, step s = .next t ∧ curReg t q = oldWord (openStep s) a ∧ newWord t a = curReg s r ∧ keepsRegs [q] s t
      ∧ keepsMemoryBut a 4 s t ∧ t.cur.fault = none := by
  have hf := fault_of_runsPacket h
  have hld := exec_ld32Dirm (q := q) (memRead_of_readOk a 4 (opened fin s) hro)
  rw [show lowWord _ = oldWord (openStep s) a from loadWhole_readLE a 0 (opened fin s)] at hld
  have hwo' : writeOk a 4 (writeReg q (oldWord (openStep s) a) (opened fin s)) := by cases q <;> exact hwo
  have hst := exec_st32Dirm (r := r) (memWrite_of_writeOk a 4 (laneOf 0 (readReg r _)) _ hwo')
  rw [readReg_writeReg, opened_readReg] at hst
  have hx := arrange_store_load a a r q ▸ execAll_pair (s := opened fin s) rfl hld (by simp [PacketCtx.empty]) hst
  obtain ⟨v, hv, he⟩ := step_of_execAll h hx hp (by simp [PacketCtx.empty]) (by simpa using hf) (by simp) (.inr ⟨hl, by simp, by simp⟩)
  have hreg : ∀ y, curReg v y = curReg (writeReg q (oldWord (openStep s) a) (opened fin s)) y := by
    intro y; rw [endsFrom_curReg he]; cases y <;> rfl
  refine ⟨v, hv, ?_, ?_, fun y hy => ?_, fun b hb => ?_, ?_⟩
  · rw [hreg, curReg_writeReg_same]
  · refine newWord_writeLE (opened fin s).cur.mem a _ v hro.1 fun k _ => ?_
    rw [endsFrom_mem he, storeBytes_cur_mem, writeReg_cur_mem, toNat_laneOf_zero]
  · rw [hreg, curReg_writeReg_of_ne _ _ (by simpa using hy), opened_curReg]
  · rw [endsFrom_mem he, storeBytes_cur_mem, writeReg_cur_mem]
    exact memByte_writeLE_other _ _ _ _ _ hb
  · rw [endsFrom_fault he]; simpa using hf

/-- A read of a peripheral is reported and gives a free value (R14). -/
theorem memRead_of_peripheral {a : Word} {n : Nat} (ha : a.toNat % n = 0) (hr : regionOf s.cfg a = some .peripheral)
    (hp : apAllows s.cfg false s.pre.ists.currlink s.pre.dsts.clink a = true) :
    memRead a n s = .next (drawData s, spend 1 (emit (.deviceRead a.toNat n) s)) := by
  simp [memRead, isAligned, ha, hp, hr]

/-- A store to a peripheral is reported and changes no memory. -/
theorem memWrite_of_peripheral {a : Word} {n : Nat} {y : DWord} (ha : a.toNat % n = 0) (hr : regionOf s.cfg a = some .peripheral)
    (hp : apAllows s.cfg true s.pre.ists.currlink s.pre.dsts.clink a = true) :
    memWrite a n y s = .next (markStored a n (emit (.deviceWrite a.toNat n (lowBytes n y)) s)) := by
  simp [memWrite, isAligned, ha, hp, hr]

/-- A store and a load of peripherals are reported loads first (R141, decision D12). -/
theorem step_devices {r q : Reg} {a b : Word} (hl : staysInLink fin s) (hp : s.cur.pending = none)
    (h : runsPacket [.st32Dirm a r, .ld32Dirm q b] fin s) (ha : a.toNat % 4 = 0) (hb : b.toNat % 4 = 0)
    (hra : regionOf s.cfg a = some .peripheral) (hrb : regionOf s.cfg b = some .peripheral)
    (hpa : apAllows s.cfg true (currLink s) s.cur.dsts.clink a = true) (hpb : apAllows s.cfg false (currLink s) s.cur.dsts.clink b = true) :
    ∃ t, step s = .next t ∧ t.cur.fault = none
      ∧ t.outputs = .deviceWrite a.toNat 4 ((curReg s r).setWidth 64) :: .deviceRead b.toNat 4 :: s.outputs := by
  have hf := fault_of_runsPacket h
  have hld := exec_ld32Dirm (q := q) (memRead_of_peripheral (s := opened fin s) hb hrb hpb)
  generalize hu : writeReg q _ _ = u at hld
  have hpre : u.pre = (opened fin s).pre := by rw [← hu]; simp
  have hcfg : u.cfg = s.cfg := by rw [← hu, writeReg_cfg]; rfl
  have hrr : readReg r u = curReg s r := by rw [← hu, readReg_writeReg]; exact opened_readReg r fin s
  have hst := exec_st32Dirm (r := r) (memWrite_of_peripheral (s := u) (n := 4) (y := laneOf 0 (readReg r u)) ha (by rw [hcfg]; exact hra)
    (by rw [hcfg, hpre]; exact hpa))
  have hx := arrange_store_load a b r q ▸ execAll_pair (s := opened fin s) rfl hld (by rw [← hu]; simp [PacketCtx.empty]) hst
  obtain ⟨v, hv, he⟩ := step_of_execAll h hx hp (by rw [← hu]; simp [PacketCtx.empty]) (by rw [← hu]; simpa using hf) (by simp)
    (.inr ⟨hl, by rw [← hu]; simp, by rw [← hu]; simp⟩)
  refine ⟨v, hv, ?_, ?_⟩
  · rw [endsFrom_fault he, ← hu]; simpa using hf
  · rw [he.1, hrr, lowBytes_laneOf_zero, ← hu, markStored_outputs, emit_outputs, writeReg_outputs, spend_outputs, emit_outputs]
    rfl

/-! ### A write of ESTS beside a result that may set sticky flags -/

/-- A write of ESTS and a product, in either order: the product and the word written, but for M.LUF and M.LVF. -/
theorem execAll_ests_smpyf {r : Reg} {k j i : Fin 32}
    (ho : is = [.statusOp (.ofReg .ests r), .smpyf k j i] ∨ is = [.smpyf k j i, .statusOp (.ofReg .ests r)]) (fin : Nat) (s : State) :
    ∃ t luf lvf, execAll (arrange is) (opened fin s) = .next t ∧ t.pkt = (opened fin s).pkt
      ∧ t.cur = { (opened fin s).cur with
        m := s.cur.m.set k (fmul32 s.cfg.fp s.cur.m[j] s.cur.m[i])
        ests := { writeEstsWord (readReg r (opened fin s)) with luf := luf, lvf := lvf } } := by
  rcases ho with rfl | rfl
  · exact ⟨_, _, _, execAll_pair rfl rfl rfl rfl, rfl, rfl⟩
  · exact ⟨_, _, _, execAll_pair rfl rfl rfl rfl, rfl, rfl⟩

/-- ESTS holds what was written but for M.LUF and M.LVF, which the product leaves open (R73, R468). -/
theorem step_ests_smpyf {r : Reg} {k j i : Fin 32} (hl : staysInLink fin s) (hp : s.cur.pending = none)
    (ho : is = [.statusOp (.ofReg .ests r), .smpyf k j i] ∨ is = [.smpyf k j i, .statusOp (.ofReg .ests r)]) (h : runsPacket is fin s) :
    ∃ t, step s = .next t ∧ t.cur.m[k] = fmul32 s.cfg.fp s.cur.m[j] s.cur.m[i] ∧ keepsRegs [.m k] s t ∧ t.cur.dsts = s.cur.dsts
      ∧ t.cur.ests = { writeEstsWord (curReg s r) with luf := t.cur.ests.luf, lvf := t.cur.ests.lvf } ∧ t.cur.fault = none := by
  have hf := fault_of_runsPacket h
  obtain ⟨t, luf, lvf, hx, hpkt, hc⟩ := execAll_ests_smpyf ho fin s
  rw [opened_readReg] at hc
  obtain ⟨v, hv, he⟩ := step_of_execAll h hx hp (by rw [hpkt]; rfl) (by rw [hc]; exact hf) (by rcases ho with rfl | rfl <;> simp)
    (.inr ⟨hl, by rw [hc]; rfl, by rw [hc]; rfl⟩)
  have hov : ∀ i ∈ is, overflows i t = false := by rcases ho with rfl | rfl <;> simp [overflows]
  obtain ⟨-, -, hests, hovs, -⟩ := id he
  obtain ⟨e1, e2⟩ := hovs hov
  have hm := endsFrom_curReg he
  refine ⟨v, hv, ?_, fun y hy => ?_, ?_, ?_, ?_⟩
  · have := hm (.m k)
    simpa [curReg, hc] using this
  · rw [hm]
    simp only [List.mem_singleton] at hy
    cases y with
    | a y | d y => simp only [curReg, hc]; rfl
    | m y =>
      have : (k : Nat) ≠ y := fun e => hy (by rw [Fin.ext e])
      simp [curReg, hc, this]
  · rw [endsFrom_dsts he, hc]; rfl
  · rw [hests, e1, e2, hc]
  · rw [endsFrom_fault he, hc]; exact hf

/-- A signed sum in range does not overflow. -/
theorem addOverflows_of_range {y x : Word} (h1 : -2147483648 ≤ y.toInt + x.toInt) (h2 : y.toInt + x.toInt < 2147483648) :
    addOverflows y x = false := by
  have : (y + x).toInt = y.toInt + x.toInt := by
    rw [BitVec.toInt_add]
    exact Int.bmod_eq_of_le (by simpa using h1) (by simpa using h2)
  simp [addOverflows, this]

/-- A Dx sum writes its register and, where it does not fit, D.OV and D.OVNEG (R453). -/
theorem writeSum_d (z : Fin 16) (v : Word) (o neg : Bool) (s : State) :
    ∃ ov ovneg, (writeSum .d z v o neg s).cur
        = { s.cur with d := s.cur.d.set z v, ests := { s.cur.ests with ov := ov, ovneg := ovneg } }
      ∧ (writeSum .d z v o neg s).pre = s.pre ∧ (writeSum .d z v o neg s).pkt = s.pkt
      ∧ (o = false → ov = s.cur.ests.ov ∧ ovneg = s.cur.ests.ovneg) := by
  cases o with
  | false => exact ⟨_, _, rfl, rfl, rfl, fun _ => ⟨rfl, rfl⟩⟩
  | true => exact ⟨_, _, rfl, rfl, rfl, fun h => by cases h⟩

/-- A write of ESTS and a Dx sum, in either order: the sum and the word written, but for D.OV and D.OVNEG where the sum does not fit. -/
theorem execAll_ests_addReg {r : Reg} {z y x : Fin 16}
    (ho : is = [.statusOp (.ofReg .ests r), .addReg .d z y x] ∨ is = [.addReg .d z y x, .statusOp (.ofReg .ests r)]) (fin : Nat) (s : State) :
    ∃ t ov ovneg, execAll (arrange is) (opened fin s) = .next t ∧ t.pkt = (opened fin s).pkt
      ∧ t.cur = { (opened fin s).cur with
        d := s.cur.d.set z (s.cur.d[y] + s.cur.d[x])
        ests := { writeEstsWord (curReg s r) with ov := ov, ovneg := ovneg } }
      ∧ (addOverflows s.cur.d[y] s.cur.d[x] = false →
        ov = (writeEstsWord (curReg s r)).ov ∧ ovneg = (writeEstsWord (curReg s r)).ovneg) := by
  have hr := opened_readReg r fin s
  rcases ho with rfl | rfl
  · obtain ⟨ov, ovneg, hc, -, hpkt, ho⟩ := writeSum_d z (s.cur.d[y] + s.cur.d[x]) (addOverflows s.cur.d[y] s.cur.d[x])
      (isNegative s.cur.d[y]) (writeStatus .ests (readReg r (opened fin s)) (opened fin s))
    rw [hr] at hc ho hpkt
    exact ⟨_, ov, ovneg, execAll_pair rfl rfl rfl rfl, by rw [hr]; exact hpkt, by rw [hr]; exact hc, ho⟩
  · obtain ⟨ov, ovneg, hc, hpre, hpkt, -⟩ := writeSum_d z (s.cur.d[y] + s.cur.d[x]) (addOverflows s.cur.d[y] s.cur.d[x])
      (isNegative s.cur.d[y]) (opened fin s)
    generalize hu : writeSum .d z (s.cur.d[y] + s.cur.d[x]) (addOverflows s.cur.d[y] s.cur.d[x]) (isNegative s.cur.d[y]) (opened fin s) = u
      at hc hpre hpkt
    have hru : readReg r u = curReg s r := by rw [← hr]; cases r <;> simp [readReg, readA, readD, readM, hpre]
    refine ⟨writeStatus .ests (readReg r u) u, (writeEstsWord (curReg s r)).ov, (writeEstsWord (curReg s r)).ovneg,
      execAll_pair rfl (congrArg Host.Outcome.next hu) (by rw [hpkt]; rfl) rfl, hpkt, ?_, fun _ => ⟨rfl, rfl⟩⟩
    rw [hru]
    simp only [writeStatus, hc]
    rfl

/-- ESTS holds what was written but for D.OV and D.OVNEG, which a sum that does not fit leaves open (R73, R453). -/
theorem step_ests_addReg {r : Reg} {z y x : Fin 16} (hl : staysInLink fin s) (hp : s.cur.pending = none)
    (ho : is = [.statusOp (.ofReg .ests r), .addReg .d z y x] ∨ is = [.addReg .d z y x, .statusOp (.ofReg .ests r)])
    (h : runsPacket is fin s) :
    ∃ t, step s = .next t ∧ t.cur.d[z] = s.cur.d[y] + s.cur.d[x] ∧ keepsRegs [.d z] s t ∧ t.cur.dsts = s.cur.dsts
      ∧ t.cur.ests = { writeEstsWord (curReg s r) with ov := t.cur.ests.ov, ovneg := t.cur.ests.ovneg }
      ∧ (-2147483648 ≤ s.cur.d[y].toInt + s.cur.d[x].toInt → s.cur.d[y].toInt + s.cur.d[x].toInt < 2147483648 →
        t.cur.ests = writeEstsWord (curReg s r))
      ∧ t.cur.fault = none := by
  have hf := fault_of_runsPacket h
  obtain ⟨t, ov, ovneg, hx, hpkt, hc, hov⟩ := execAll_ests_addReg ho fin s
  obtain ⟨v, hv, he⟩ := step_of_execAll h hx hp (by rw [hpkt]; rfl) (by rw [hc]; exact hf) (by rcases ho with rfl | rfl <;> simp)
    (.inr ⟨hl, by rw [hc]; rfl, by rw [hc]; rfl⟩)
  obtain ⟨hpre, -⟩ := execAll_keepsContext hx
  have hd : ∀ i, readD i t = s.cur.d[i] := fun i => by rw [readD, hpre]; rfl
  have hfp : ∀ i ∈ is, Dst.fpFlags ∉ (profile i).dests := by
    rcases ho with rfl | rfl <;> simp [profile, statusProfile, writes, statusDst, sumDsts]
  have hovs : addOverflows s.cur.d[y] s.cur.d[x] = false → ∀ i ∈ is, overflows i t = false := by
    intro hn i hi
    have hi : i = .statusOp (.ofReg .ests r) ∨ i = .addReg .d z y x := by rcases ho with rfl | rfl <;> simpa [or_comm] using hi
    rcases hi with rfl | rfl
    · rfl
    · rw [← hn, ← hd y, ← hd x]; rfl
  obtain ⟨-, -, hests, hos, hfs⟩ := id he
  obtain ⟨e1, e2⟩ := hfs hfp
  have hm := endsFrom_curReg he
  have hests' : v.cur.ests = { writeEstsWord (curReg s r) with ov := v.cur.ests.ov, ovneg := v.cur.ests.ovneg } := by rw [hests, e1, e2, hc]
  refine ⟨v, hv, ?_, fun q hq => ?_, ?_, hests', fun h1 h2 => ?_, ?_⟩
  · have := hm (.d z)
    simpa [curReg, hc] using this
  · rw [hm]
    simp only [List.mem_singleton] at hq
    cases q with
    | a q | m q => simp only [curReg, hc]; rfl
    | d q =>
      have : (z : Nat) ≠ q := fun e => hq (by rw [Fin.ext e])
      simp [curReg, hc, this]
  · rw [endsFrom_dsts he, hc]; rfl
  · have hn := addOverflows_of_range h1 h2
    obtain ⟨f1, f2⟩ := hos (hovs hn)
    obtain ⟨g1, g2⟩ := hov hn
    rw [hests', f1, f2, hc, g1, g2]
  · rw [endsFrom_fault he, hc]; exact hf

/-! ### LB.PROT within its STACK -/

/-- A protected transfer frees the working registers but A15, and nothing else (R254). -/
theorem scrambleWork_eq (s : State) :
    ∃ a d m n, scrambleWork s = { s with free := n, cur := { s.cur with a := a, d := d, m := m } } ∧ a[15] = s.cur.a[15] :=
  ⟨_, _, _, _, rfl, curReg_scrambleWork (.a 15) s⟩

/-- An LB.PROT to an even target on its own STACK swaps no stacks and leaves A15, RPC and memory (R249). -/
theorem enterProtected_same_stack {target : Word} {l : LinkId} (ht : target.toNat % 2 = 0) (hl : linkOf s.cfg target = some l)
    (hk : stackOf s.cfg l = stackOf s.cfg s.pre.ists.currlink) :
    ∃ t, enterProtected target none s = .next t ∧ t.pkt = { s.pkt with jumped := true } ∧ t.cur.a[15] = s.cur.a[15]
      ∧ t.cur.secsp = s.cur.secsp ∧ t.cur.pc = target ∧ t.cur.expect = .entryPair ∧ t.cur.rpc = s.cur.rpc ∧ t.cur.mem = s.cur.mem
      ∧ t.cur.stored = s.cur.stored ∧ t.cur.fault = s.cur.fault := by
  have hd : targetStack target s = stackOf s.cfg l := stackAt_of_link _ _ _ _ hl
  have hsw : ∀ w, swapStacks (stackOf s.cfg s.pre.ists.currlink) (stackOf s.cfg l) none w = w := fun w => by simp [swapStacks, hk]
  have ho : ¬ target.toNat % 2 = 1 := by omega
  obtain ⟨a, d, m, n, hw, ha⟩ := scrambleWork_eq s
  simp only [enterProtected, hd, hsw, hw, jumpTo, if_neg ho, if_true]
  exact ⟨_, rfl, rfl, ha, rfl, rfl, rfl, rfl, rfl, rfl, rfl⟩

theorem arrange_lbProt_addU16 {a : Word} {u : Half} (ho : is = [.lbProt a, .addU16 15 15 u] ∨ is = [.addU16 15 15 u, .lbProt a]) :
    arrange is = [.addU16 15 15 u, .lbProt a] := by rcases ho with rfl | rfl <;> rfl

/-- An LB.PROT within its STACK leaves A15 to an ADD.U16 beside it (R249, decision D40). -/
theorem step_lbProt_addU16 {a : Word} {u : Half} {l : LinkId} (hp : s.cur.pending = none)
    (ho : is = [.lbProt a, .addU16 15 15 u] ∨ is = [.addU16 15 15 u, .lbProt a]) (h : runsPacket is fin s) (ha : a.toNat % 2 = 0)
    (hla : linkOf s.cfg a = some l) (hk : stackOf s.cfg l = stackOf s.cfg (currLink s)) :
    ∃ t, step s = .next t ∧ t.cur.a[15] = s.cur.a[15] + u.setWidth 32 ∧ t.cur.secsp = s.cur.secsp ∧ t.cur.pc = a
      ∧ t.cur.expect = .entryPair ∧ t.cur.rpc = s.cur.rpc ∧ keepsMemory s t ∧ t.cur.fault = none := by
  have hf := fault_of_runsPacket h
  obtain ⟨t, hlb, hpkt, hsp, hsec, hpc, hex, hrpc, hmem, hsto, hft⟩ :=
    enterProtected_same_stack (s := writeA 15 (s.cur.a[15] + zext32 u) (opened fin s)) ha hla hk
  have hx := arrange_lbProt_addU16 ho ▸ execAll_pair (i := .addU16 15 15 u) (j := .lbProt a) (s := opened fin s) rfl rfl rfl hlb
  obtain ⟨v, hv, he⟩ := step_of_execAll h hx hp (by rw [hpkt]; rfl) (by rw [hft]; exact hf) (by rcases ho with rfl | rfl <;> simp)
    (.inl (by rw [hpkt]))
  refine ⟨v, hv, ?_, (endsFrom_secsp he).trans hsec, (endsFrom_pc he).trans hpc, (endsFrom_expect he).trans hex,
    (endsFrom_rpc he).trans hrpc, ⟨fun b => ?_, (endsFrom_stored he).trans hsto⟩, ?_⟩
  · have h15 : v.cur.a[15] = t.cur.a[15] := endsFrom_curReg he (.a 15)
    rw [h15, hsp, writeA_cur_a]
    exact Vector.getElem_set_self _
  · rw [endsFrom_mem he, hmem, writeA_cur_mem]; rfl
  · rw [endsFrom_fault he, hft]; exact hf

/-- Settles O9: each packet is one of those above. -/
theorem packetReadsOldState : Obligations.PacketReadsOldState := by
  unfold Obligations.PacketReadsOldState
  intro s r q a b z y x k j i u l fin hl hp
  exact ⟨step_swap hl hp, step_load_store hl hp, step_devices hl hp, fun is ho => step_ests_smpyf hl hp ho,
    fun is ho => step_ests_addReg hl hp ho, fun is ho h => step_lbProt_addU16 hp ho h⟩

end Sys2Proof.Proofs
end

section
/-! PROOFS. Where control goes: an instruction leaves the program counter, a pending discontinuity, CURRSP and the debugger's side alone, or
jumps from there to a target on the STACK that CURRSP names, or halts before its packet. One lemma for each shared operation, then `exec`. -/

namespace Sys2Proof.Proofs

open Sys2Proof.Machine Sys2Proof.Laws

variable {s t u : State}

/-- What decides where control goes after a packet and whether the CPU goes on at all. -/
structure Path where
  pc : Word
  pending : Option Pending
  currsp : StackId
  currlink : LinkId
  jumped : Bool
  halted : Bool
  dbg : Debug

/-- The path of a state under construction. -/
def pathOf (s : State) : Path :=
  ⟨s.cur.pc, s.cur.pending, s.cur.ists.currsp, s.cur.ists.currlink, s.pkt.jumped, s.pkt.halted, s.dbg⟩

/-- The path is as it was, and a fault stays. -/
def keepsPath (s t : State) : Prop := pathOf t = pathOf s ∧ (t.cur.fault = none → s.cur.fault = none)

theorem keepsPath_refl (s : State) : keepsPath s s := ⟨rfl, id⟩

theorem keepsPath_trans (h : keepsPath s t) (g : keepsPath t u) : keepsPath s u := ⟨g.1.trans h.1, fun n => h.2 (g.2 n)⟩

/-- The parts of the path one by one. -/
theorem pathOf_eq (h : pathOf t = pathOf s) :
    t.cur.pc = s.cur.pc ∧ t.cur.pending = s.cur.pending ∧ t.cur.ists.currsp = s.cur.ists.currsp
      ∧ t.cur.ists.currlink = s.cur.ists.currlink ∧ t.pkt.jumped = s.pkt.jumped ∧ t.pkt.halted = s.pkt.halted ∧ t.dbg = s.dbg := by
  simpa [pathOf] using h

/-! ### Operations that always answer -/

theorem raise_keepsPath (c : Cause) (s : State) : keepsPath s (raise c s) :=
  ⟨by simp [pathOf], fun n => by simp [raise_cur_fault] at n⟩

theorem raiseIf_keepsPath (b : Bool) (c : Cause) (s : State) : keepsPath s (raiseIf b c s) := by
  cases b
  · exact keepsPath_refl s
  · exact raise_keepsPath c s

theorem checkSp_keepsPath (s : State) : keepsPath s (checkSp s) := raiseIf_keepsPath _ _ _

theorem checkTransfer_keepsPath (target : Word) (s : State) : keepsPath s (checkTransfer target s) := by
  unfold checkTransfer
  split
  · exact keepsPath_refl s
  · exact raiseIf_keepsPath _ _ _

theorem writeA_keepsPath (i : Fin 16) (v : Word) (s : State) : keepsPath s (writeA i v s) := ⟨rfl, id⟩

theorem writeRpc_keepsPath (v : Word) (s : State) : keepsPath s (writeRpc v s) := ⟨rfl, id⟩

theorem scrambleWork_keepsPath (s : State) : keepsPath s (scrambleWork s) := ⟨rfl, id⟩

theorem writeReg_keepsPath (r : Reg) (v : Word) (s : State) : keepsPath s (writeReg r v s) := by cases r <;> exact ⟨rfl, id⟩

theorem writeX_keepsPath (x : XReg) (v : DWord) (s : State) : keepsPath s (writeX x v s) :=
  keepsPath_trans (writeReg_keepsPath _ _ _) (writeReg_keepsPath _ _ _)

theorem applySide_keepsPath (e : EffAddr) (s : State) : keepsPath s (applySide e s) := by
  unfold applySide
  split <;> exact ⟨rfl, id⟩

theorem writeStatus_keepsPath (q : StatusReg) (v : Word) (s : State) : keepsPath s (writeStatus q v s) := by cases q <;> exact ⟨rfl, id⟩

theorem writeSum_keepsPath (b : IBank) (z : Fin 16) (v : Word) (o neg : Bool) (s : State) : keepsPath s (writeSum b z v o neg s) := by
  cases b <;> cases o <;> exact ⟨rfl, id⟩

theorem writeTestDst_keepsPath (d : TestDst) (b : Bool) (s : State) : keepsPath s (spend 1 (writeTestDst d b s)) := by
  rcases d with f | _ | _ | _
  · cases f <;> exact ⟨rfl, id⟩
  all_goals exact ⟨rfl, id⟩

theorem swapStacks_keepsPath (src dst : StackId) (pushed : Option Word) (s : State) : keepsPath s (swapStacks src dst pushed s) := by
  rcases swapStacks_cases src dst pushed s with ⟨-, -, e⟩ | ⟨sp, -, -, e⟩ | ⟨-, e⟩ <;> rw [e] <;> exact ⟨rfl, id⟩

theorem pushProt_keepsPath (f : ProtFrame) (s : State) : keepsPath s (pushProt f s) := by
  unfold pushProt
  split
  · split <;> exact ⟨rfl, id⟩
  · exact keepsPath_refl s

/-! ### Operations that may stop -/

theorem stopUnlessFaulted_keepsPath {r : Refusal} (h : stopUnlessFaulted r s = .next t) : keepsPath s t := by
  unfold stopUnlessFaulted at h
  split at h <;> cases h
  exact keepsPath_refl s

theorem keepsPath_of_memoryOnly (h : memoryOnly s t) : keepsPath s t := by
  obtain ⟨⟨m, l, f, e⟩, hf, -, hk, -, hd, -⟩ := h
  exact ⟨by simp [pathOf, e, hk, hd], fun n => by_contra fun k => k ((hf k).symm.trans n)⟩

theorem memRead_keepsPath {a : Word} {n : Nat} {v : DWord} (h : memRead a n s = .next (v, t)) : keepsPath s t := by
  obtain ⟨e, hf, hr⟩ := memRead_next a n s v t h
  exact keepsPath_of_memoryOnly ⟨⟨s.cur.mem, s.cur.stored, _, e⟩, hf, hr⟩

theorem memWrite_keepsPath {a : Word} {n : Nat} {v : DWord} (h : memWrite a n v s = .next t) : keepsPath s t :=
  keepsPath_of_memoryOnly (memWrite_memoryOnly _ _ _ _ _ h)

theorem pushFrame_keepsPath {sp v : Word} {n : Nat} (h : pushFrame sp n v s = .next t) : keepsPath s t := by
  obtain ⟨u, hu, ht⟩ := andThen_eq_next h
  refine keepsPath_trans (memWrite_keepsPath hu) ?_
  split at ht
  · exact keepsPath_of_memoryOnly (scribble_memoryOnly _ _ _ _ ht)
  · cases ht; exact keepsPath_refl _

theorem loadReg_keepsPath {n : Nat} {f : Word → DWord → Word} {r : Reg} {e : EffAddr} (h : loadReg n f r e s = .next t) :
    keepsPath s t := by
  obtain ⟨v, hv, ht⟩ := andThen_eq_next h
  cases ht
  exact keepsPath_trans (memRead_keepsPath hv) (keepsPath_trans (writeReg_keepsPath _ _ _) (applySide_keepsPath _ _))

theorem loadPair_keepsPath {x : XReg} {e : EffAddr} (h : loadPair x e s = .next t) : keepsPath s t := by
  obtain ⟨v, hv, ht⟩ := andThen_eq_next h
  cases ht
  exact keepsPath_trans (memRead_keepsPath hv) (keepsPath_trans (writeX_keepsPath _ _ _) (applySide_keepsPath _ _))

theorem storeVal_keepsPath {n : Nat} {v : DWord} {e : EffAddr} (h : storeVal n v e s = .next t) : keepsPath s t := by
  obtain ⟨u, hu, ht⟩ := andThen_eq_next h
  cases ht
  exact keepsPath_trans (memWrite_keepsPath hu) (applySide_keepsPath _ _)

theorem moveMem_keepsPath {n : Nat} {dst src : EffAddr} (h : moveMem n dst src s = .next t) : keepsPath s t := by
  obtain ⟨v, hv, ht⟩ := andThen_eq_next h
  obtain ⟨u, hu, ht⟩ := andThen_eq_next ht
  cases ht
  exact keepsPath_trans (memRead_keepsPath hv)
    (keepsPath_trans (memWrite_keepsPath hu) (keepsPath_trans (applySide_keepsPath _ _) (applySide_keepsPath _ _)))

theorem modifyMem_keepsPath {n : Nat} {f : DWord → DWord} {e : EffAddr} (h : modifyMem n f e s = .next t) : keepsPath s t := by
  obtain ⟨v, hv, ht⟩ := andThen_eq_next h
  obtain ⟨u, hu, ht⟩ := andThen_eq_next ht
  cases ht
  exact keepsPath_trans (memRead_keepsPath hv) (keepsPath_trans (memWrite_keepsPath hu) (applySide_keepsPath _ _))

theorem execAtomic_keepsPath {n : BitVec 8} (h : execAtomic n s = .next t) : keepsPath s t := by
  unfold execAtomic at h
  split_ifs at h
  · exact stopUnlessFaulted_keepsPath h
  all_goals cases h; exact ⟨rfl, id⟩

theorem execLdRpc_keepsPath {a : Word} (h : execLdRpc a s = .next t) : keepsPath s t := by
  obtain ⟨v, hv, ht⟩ := andThen_eq_next h
  cases ht
  exact keepsPath_trans (memRead_keepsPath hv) ⟨rfl, id⟩

theorem execStatusOp_keepsPath {op : StatusOp} (h : execStatusOp op s = .next t) : keepsPath s t := by
  cases op with
  | load r m =>
    obtain ⟨v, hv, ht⟩ := andThen_eq_next h
    cases ht
    exact keepsPath_trans (memRead_keepsPath hv) (keepsPath_trans (writeStatus_keepsPath _ _ _) (applySide_keepsPath _ _))
  | store r m => exact storeVal_keepsPath h
  | toReg r dst => cases h; exact writeReg_keepsPath _ _ _
  | ofReg r src => cases h; exact writeStatus_keepsPath _ _ _
  | andImm r imm => cases h; exact writeStatus_keepsPath _ _ _
  | orImm r imm => cases h; exact writeStatus_keepsPath _ _ _

theorem execSubReg_keepsPath {b : IBank} {z y x : Fin 16} (h : execSubReg b z y x s = .next t) : keepsPath s t := by
  unfold execSubReg at h
  split at h <;> cases h <;> exact writeSum_keepsPath _ _ _ _ _ _

theorem execMvReg_keepsPath {op : MvRegs} (h : execMvReg op s = .next t) : keepsPath s t := by
  cases op <;> cases h
  · exact writeReg_keepsPath _ _ _
  · exact writeX_keepsPath _ _ _

theorem execCmp_keepsPath {op : CmpRegs} (h : execCmp op s = .next t) : keepsPath s t := by
  cases op <;> cases h <;> exact ⟨rfl, id⟩

theorem execIncCirc_keepsPath {y : Fin 4} {x : Fin 16} (h : execIncCirc y x s = .next t) : keepsPath s t := by
  simp only [execIncCirc] at h
  split at h <;> cases h <;> exact ⟨rfl, id⟩

theorem execDecCirc_keepsPath {y : Fin 4} {x : Fin 16} (h : execDecCirc y x s = .next t) : keepsPath s t := by
  simp only [execDecCirc] at h
  split at h <;> cases h <;> exact ⟨rfl, id⟩

/-! ### Jumps -/

/-- Code at `a`, where an EXE range covers it, lies on STACK `k` (R55). -/
def onStack (c : Params) (a : Word) (k : StackId) : Prop := ∀ l, linkOf c a = some l → k = stackOf c l

/-- The STACK of a covered target. -/
theorem onStack_stackAt (c : Params) (a : Word) (old : StackId) : onStack c a (stackAt c a old) :=
  fun l h => stackAt_of_link c a old l h

/-- From `s` to `t` control goes to a target, from a state on the same path but for CURRSP. Where nothing faults and CURRSP named the STACK
of the packet, the target lies on the STACK that CURRSP names after the jump (R55). -/
def jumpsFrom (s t : State) : Prop :=
  ∃ (delay : Fin 8) (late : Late) (target : Word) (u : State), jumpTo delay late target u = .next t
    ∧ (∃ k, pathOf u = { pathOf s with currsp := k }) ∧ (u.cur.fault = none → s.cur.fault = none)
    ∧ (u.cur.fault = none → s.cur.ists.currsp = stackOf s.cfg s.pre.ists.currlink →
      (delay = 0 → onStack s.cfg target u.cur.ists.currsp)
      ∧ (delay ≠ 0 → u.cur.ists.currsp = s.cur.ists.currsp ∧ onStack s.cfg target (lateStack late s.cur.ists.currsp)))

/-- What a jump leaves alone. -/
theorem jumpsFrom_keeps (h : jumpsFrom s t) :
    t.cur.ists.currlink = s.cur.ists.currlink ∧ t.pkt.halted = s.pkt.halted ∧ t.dbg = s.dbg ∧ (t.cur.fault = none → s.cur.fault = none) := by
  obtain ⟨delay, late, target, u, hj, ⟨k, hk⟩, hf, -⟩ := h
  simp only [pathOf, Path.mk.injEq] at hk
  obtain ⟨-, -, -, hl, -, hh, hd⟩ := hk
  obtain ⟨-, rfl, -⟩ | ⟨-, -, rfl⟩ | ⟨-, -, rfl⟩ := jumpTo_next _ _ _ _ _ hj <;> exact ⟨hl, hh, hd, hf⟩

/-- Everything a jump can do: nothing in the FAULT state, go to an even target at once, or be pending for one. -/
theorem jumpsFrom_cases (h : jumpsFrom s t) :
    (t.cur.pc = s.cur.pc ∧ t.cur.pending = s.cur.pending ∧ t.cur.fault ≠ none)
      ∨ (t.cur.pc.toNat % 2 = 0 ∧ t.cur.pending = s.cur.pending ∧ t.pkt.jumped = true
        ∧ (t.cur.fault = none → s.cur.ists.currsp = stackOf s.cfg s.pre.ists.currlink → onStack s.cfg t.cur.pc t.cur.ists.currsp))
      ∨ ∃ p : Pending, p.target.toNat % 2 = 0 ∧ t.cur.pc = s.cur.pc ∧ t.cur.pending = some p ∧ t.pkt.jumped = s.pkt.jumped
        ∧ (t.cur.fault = none → s.cur.ists.currsp = stackOf s.cfg s.pre.ists.currlink →
          t.cur.ists.currsp = s.cur.ists.currsp ∧ onStack s.cfg p.target (lateStack p.late s.cur.ists.currsp)) := by
  obtain ⟨delay, late, target, u, hj, ⟨k, hk⟩, -, hs⟩ := h
  simp only [pathOf, Path.mk.injEq] at hk
  obtain ⟨hpc, hp, -, -, hju, -⟩ := hk
  obtain ⟨-, rfl, hf⟩ | ⟨he, hd, rfl⟩ | ⟨he, hd, rfl⟩ := jumpTo_next _ _ _ _ _ hj
  · exact .inl ⟨hpc, hp, hf⟩
  · exact .inr (.inl ⟨he, hp, rfl, fun hf hc => (hs hf hc).1 hd⟩)
  · exact .inr (.inr ⟨⟨target, delay.val, late⟩, he, hpc, rfl, hju, fun hf hc => (hs hf hc).2 hd⟩)

/-- A jump within the STACK. -/
theorem jumpsFrom_of_keepsPath {delay : Fin 8} {late : Late} {target : Word} (hj : jumpTo delay late target u = .next t)
    (h : keepsPath s u) (hl : ∀ k, lateStack late k = k)
    (hs : u.cur.fault = none → s.cur.ists.currsp = stackOf s.cfg s.pre.ists.currlink → onStack s.cfg target s.cur.ists.currsp) :
    jumpsFrom s t := by
  obtain ⟨-, -, hk, -⟩ := pathOf_eq h.1
  exact ⟨delay, late, target, u, hj, ⟨s.cur.ists.currsp, h.1⟩, h.2,
    fun hf hc => ⟨fun _ => hk ▸ hs hf hc, fun _ => ⟨hk, (hl _).symm ▸ hs hf hc⟩⟩⟩

/-- A jump at once, with the value CURRSP takes. -/
theorem jumpsFrom_at_once {target : Word} (hj : jumpTo 0 .nothing target u = .next t) (hp : ∃ k, pathOf u = { pathOf s with currsp := k })
    (hf : u.cur.fault = none → s.cur.fault = none) (hs : onStack s.cfg target u.cur.ists.currsp) : jumpsFrom s t :=
  ⟨0, .nothing, target, u, hj, hp, hf, fun _ _ => ⟨fun _ => hs, fun n => (n rfl).elim⟩⟩

/-- A transfer that passes its check stays on the STACK of the packet (R237). -/
theorem onStack_of_checkTransfer {target : Word} (h : (checkTransfer target s).cur.fault = none)
    (hc : s.cur.ists.currsp = stackOf s.cfg s.pre.ists.currlink) : onStack s.cfg target s.cur.ists.currsp := by
  intro l hl
  by_contra n
  rw [hc] at n
  simp [checkTransfer, hl, raiseIf, Ne.symm n, raise_cur_fault] at h

/-- The same for a transfer that checks SP first (R505). -/
theorem onStack_of_checkSp_checkTransfer {target : Word} (h : (checkTransfer target (checkSp s)).cur.fault = none)
    (hc : s.cur.ists.currsp = stackOf s.cfg s.pre.ists.currlink) : onStack s.cfg target s.cur.ists.currsp := by
  obtain ⟨-, -, hk, -⟩ := pathOf_eq (checkSp_keepsPath s).1
  obtain ⟨hp, hg, -⟩ := checkSp_keepsContext s
  rw [← hk, ← hg]
  exact onStack_of_checkTransfer h (by rw [hk, hp, hg]; exact hc)

theorem callTo_jumpsFrom {target : Word} {delay : Fin 8} (h : callTo target delay s = .next t) : jumpsFrom s t := by
  obtain ⟨u, hu, ht⟩ := andThen_eq_next h
  have h1 : keepsPath s (checkTransfer target (checkSp s)) := keepsPath_trans (checkSp_keepsPath s) (checkTransfer_keepsPath target _)
  have h2 := pushFrame_keepsPath hu
  have h3 := writeA_keepsPath 15 (readSp s + 8) u
  refine jumpsFrom_of_keepsPath ht (keepsPath_trans h1 (keepsPath_trans h2 (keepsPath_trans h3 ?_))) (fun _ => rfl)
    fun hf => onStack_of_checkSp_checkTransfer (h2.2 ?_)
  · split
    · exact writeRpc_keepsPath _ _
    · exact keepsPath_refl _
  · split at hf <;> exact hf

theorem returnTo_jumpsFrom {delay : Fin 8} (h : returnTo delay s = .next t) : jumpsFrom s t := by
  obtain ⟨v, hv, ht⟩ := andThen_eq_next h
  have h1 : keepsPath s (checkTransfer s.pre.rpc (checkSp s)) := keepsPath_trans (checkSp_keepsPath s) (checkTransfer_keepsPath s.pre.rpc _)
  have h2 := memRead_keepsPath hv
  have h3 : keepsPath v.2 (writeSp (readSp s - 8) (writeRpc (lowWord v.1) v.2)) :=
    keepsPath_trans (writeRpc_keepsPath _ _) (writeA_keepsPath 15 _ _)
  exact jumpsFrom_of_keepsPath ht (keepsPath_trans h1 (keepsPath_trans h2 h3)) (fun _ => rfl)
    fun hf => onStack_of_checkSp_checkTransfer (h2.2 (h3.2 hf))

theorem branchTo_jumpsFrom {target : Word} {delay : Fin 8} (h : branchTo target delay s = .next t) : jumpsFrom s t :=
  jumpsFrom_of_keepsPath h (checkTransfer_keepsPath target s) (fun _ => rfl) onStack_of_checkTransfer

theorem enterProtected_jumpsFrom {target : Word} {pushed : Option Word} (h : enterProtected target pushed s = .next t) : jumpsFrom s t := by
  have h1 : keepsPath s (swapStacks (stackOf s.cfg s.pre.ists.currlink) (targetStack target s) pushed (scrambleWork s)) :=
    keepsPath_trans (scrambleWork_keepsPath s) (swapStacks_keepsPath _ _ _ _)
  simp only [enterProtected] at h
  generalize swapStacks (stackOf s.cfg s.pre.ists.currlink) (targetStack target s) pushed (scrambleWork s) = u at h h1
  exact jumpsFrom_at_once h ⟨targetStack target s, congrArg (fun p : Path => { p with currsp := targetStack target s }) h1.1⟩ h1.2
    (onStack_stackAt s.cfg target _)

/-- What precedes a jump may stay on the path. -/
theorem jumpsFrom_trans_keepsPath (h : keepsPath s u) (hc : u.cfg = s.cfg) (hp : u.pre = s.pre) (hj : jumpsFrom u t) : jumpsFrom s t := by
  obtain ⟨delay, late, target, v, hv, ⟨k, hk⟩, hf, hs⟩ := hj
  obtain ⟨-, -, e, -⟩ := pathOf_eq h.1
  rw [hc, hp, e] at hs
  exact ⟨delay, late, target, v, hv, ⟨k, by rw [hk, h.1]⟩, fun n => h.2 (hf n), hs⟩

theorem callProt_jumpsFrom {target : Word} (h : callProt target s = .next t) : jumpsFrom s t := by
  obtain ⟨u, hu, ht⟩ := andThen_eq_next h
  have h1 : keepsPath s u := keepsPath_trans (checkSp_keepsPath s) (keepsPath_trans (raiseIf_keepsPath _ _ _) (pushFrame_keepsPath hu))
  have c1 : keepsContext s u := keepsContext_trans (checkSp_keepsContext s)
    (keepsContext_trans (raiseIf_keepsContext _ _ _) (pushFrame_keepsContext hu))
  have h2 := keepsPath_trans h1 (keepsPath_trans (writeRpc_keepsPath s.pkt.seqPc u)
    (pushProt_keepsPath ⟨s.pre.ists.currlink, stackOf s.cfg s.pre.ists.currlink, s.pkt.seqPc⟩ _))
  obtain ⟨hp, hc, -⟩ := keepsContext_trans c1 (keepsContext_trans (writeRpc_keepsContext s.pkt.seqPc u)
    (pushProt_keepsContext ⟨s.pre.ists.currlink, stackOf s.cfg s.pre.ists.currlink, s.pkt.seqPc⟩ _))
  exact jumpsFrom_trans_keepsPath h2 hc hp (enterProtected_jumpsFrom ht)

theorem returnProt_path (h : returnProt s = .next t) : keepsPath s t ∨ jumpsFrom s t := by
  unfold returnProt at h
  split at h
  · exact .inl (keepsPath_trans (checkSp_keepsPath s) (stopUnlessFaulted_keepsPath h))
  · rename_i f rest hf
    simp only at h
    split at h
    · exact .inl (keepsPath_trans (checkSp_keepsPath s) (stopUnlessFaulted_keepsPath h))
    · rename_i hm
      simp only [Bool.or_eq_true, bne_iff_ne, not_or, not_not] at hm
      have hs : onStack s.cfg s.pre.rpc f.stack := fun l hl => by simpa [hl, eq_comm] using hm.2
      obtain ⟨v, hv, ht⟩ := andThen_eq_next h
      have h1 : keepsPath s (writeRpc (lowWord v.1) (scrambleWork v.2)) := keepsPath_trans (checkSp_keepsPath s)
        (keepsPath_trans (memRead_keepsPath hv) (keepsPath_trans (scrambleWork_keepsPath _) (writeRpc_keepsPath _ _)))
      generalize writeRpc (lowWord v.1) (scrambleWork v.2) = u at h1 ht
      have h2 : keepsPath u (if f.stack = stackOf s.cfg s.pre.ists.currlink then u
          else { u with cur := { u.cur with secsp := u.cur.secsp.set (stackOf s.cfg s.pre.ists.currlink) (readSp s) } }) := by
        split <;> exact ⟨rfl, id⟩
      have h3 := keepsPath_trans h1 (keepsPath_trans h2 (writeA_keepsPath 15
        ((if f.stack = stackOf s.cfg s.pre.ists.currlink then readSp s else s.pre.secsp[f.stack]) - 8) _))
      change jumpTo 0 .nothing s.pre.rpc (spend 1 { (writeSp _ _) with cur := _ }) = _ at ht
      change keepsPath s (writeSp _ _) at h3
      generalize writeSp _ _ = w at ht h3
      exact .inr (jumpsFrom_at_once ht ⟨f.stack, congrArg (fun p : Path => { p with currsp := f.stack }) h3.1⟩ h3.2 hs)

theorem returnInt_path {delay : Fin 8} (h : returnInt delay s = .next t) : keepsPath s t ∨ jumpsFrom s t := by
  unfold returnInt at h
  split at h
  · obtain ⟨v, hv, ht⟩ := andThen_eq_next h
    have h1 : keepsPath s (checkTransfer s.pre.rpc (checkSp s)) := keepsPath_trans (checkSp_keepsPath s) (checkTransfer_keepsPath s.pre.rpc _)
    have h2 := memRead_keepsPath hv
    have h3 : keepsPath v.2 (writeSp (readSp s - BitVec.ofNat 32 s.cfg.intFrameBytes) (writeRpc (lowWord v.1) v.2)) :=
      keepsPath_trans (writeRpc_keepsPath _ _) (writeA_keepsPath 15 _ _)
    simp only at ht
    generalize writeSp (readSp s - BitVec.ofNat 32 s.cfg.intFrameBytes) (writeRpc (lowWord v.1) v.2) = u at h3 ht
    exact .inr (jumpsFrom_of_keepsPath ht (keepsPath_trans h1 (keepsPath_trans h2 (keepsPath_trans h3 ⟨rfl, id⟩))) (fun _ => rfl)
      fun hf => onStack_of_checkSp_checkTransfer (h2.2 (h3.2 hf)))
  · exact .inl (stopUnlessFaulted_keepsPath h)

theorem returnRealtime_path {delay : Fin 8} (h : returnRealtime delay s = .next t) : keepsPath s t ∨ jumpsFrom s t := by
  unfold returnRealtime at h
  split at h
  · exact .inl (stopUnlessFaulted_keepsPath h)
  · refine .inr ⟨delay, _, _, _, h, ⟨_, rfl⟩, id, fun _ _ => ⟨fun hd => ?_, fun hd => ⟨if_neg hd, onStack_stackAt _ _ _⟩⟩⟩
    simp only [if_pos hd]
    exact onStack_stackAt _ _ _

/-! ### All instructions -/

/-- Whether an instruction is a discontinuity that goes, in the state before its packet. -/
def transfers (i : Instr) (s : State) : Bool := (profile i).disc && goes i s

/-- What an instruction may do to the path. -/
def pathCases (i : Instr) (s t : State) : Prop :=
  keepsPath s t ∨ (transfers i s = true ∧ jumpsFrom s t) ∨ (i = .emustop0 ∧ t.cur = s.pre ∧ t.pkt.halted = true)

theorem execBranch_path {target : BrTarget} {c : Cond} {delay : Fin 8} (h : execBranch target c delay s = .next t) :
    pathCases (.branch target c delay) s t := by
  unfold execBranch at h
  split_ifs at h with hc
  · exact .inr (.inl ⟨hc, branchTo_jumpsFrom h⟩)
  · cases h; exact .inl (keepsPath_refl s)

theorem execBcmpz_path {label : Word} {c : DCond} {x : Fin 16} {delay : Fin 8} (h : execBcmpz label c x delay s = .next t) :
    pathCases (.bcmpz label c x delay) s t := by
  unfold execBcmpz at h
  split_ifs at h with hc
  · exact .inr (.inl ⟨hc, branchTo_jumpsFrom (s := bcmpzFlags (readD x s) s) h⟩)
  · cases h; exact .inl ⟨rfl, id⟩

theorem execEmustop0_path (h : execEmustop0 s = .next t) : pathCases .emustop0 s t := by
  unfold execEmustop0 at h
  split_ifs at h <;> cases h
  · exact .inr (.inr ⟨rfl, rfl, rfl⟩)
  · exact .inl (keepsPath_refl s)

/-- Only a discontinuity that goes and an EMUSTOP0 that halts leave the path (R13, R296). -/
theorem exec_path {i : Instr} (h : exec i s = .next t) : pathCases i s t := by
  cases i with
  | add32Addr1 | addS16Addr1 | addS8Addr1 | andU16Addr1 | andU8Addr1 | andorB0Addr1 | andorW0Addr1 | mvU16Addr1 | mvU8Addr1 | retAddr1
    | s16tofAddr1 | sub32Addr1 | subS16Addr1 | subS8Addr1 | subr32Addr1 | subrS16Addr1 | subrS8Addr1 | u16tofAddr1 | and32Addr2
    | andorAddr2 | mv16Addr2 | mv32Addr2 | mv64Addr2 | mv8Addr2 | or32Addr2 | xor32Addr2 | s16tofDirm | s16tofDirmIx | u16tofDirm
    | u16tofDirmIx | preserve | xc | xcp | eccselftest => cases h
  | and16Addr1 m v => exact .inl (modifyMem_keepsPath (show execAnd16Addr1 m v s = .next t from h))
  | and8Addr1 m v => exact .inl (modifyMem_keepsPath (show execAnd8Addr1 m v s = .next t from h))
  | or16Addr1 m v => exact .inl (modifyMem_keepsPath (show execOr16Addr1 m v s = .next t from h))
  | or8Addr1 m v => exact .inl (modifyMem_keepsPath (show execOr8Addr1 m v s = .next t from h))
  | xor16Addr1 m v => exact .inl (modifyMem_keepsPath (show execXor16Addr1 m v s = .next t from h))
  | xor8Addr1 m v => exact .inl (modifyMem_keepsPath (show execXor8Addr1 m v s = .next t from h))
  | ld32Addr1 | ldB0Addr1 | ldB1Addr1 | ldB2Addr1 | ldB3Addr1 | ldS16Addr1 | ldS8Addr1 | ldU16Addr1 | ldU8Addr1 | ldW0Addr1
    | ldW1Addr1 | ld32Addr2 | ld32Dirm | ld32DirmIx | ldB0Dirm | ldB0DirmIx | ldB1Dirm | ldB1DirmIx | ldB2Dirm | ldB2DirmIx | ldB3Dirm
    | ldB3DirmIx | ldS16Dirm | ldS16DirmIx | ldS8Dirm | ldS8DirmIx | ldU16Dirm | ldU16DirmIx | ldU8Dirm | ldU8DirmIx | ldW0Dirm
    | ldW0DirmIx | ldW1Dirm | ldW1DirmIx => exact .inl (loadReg_keepsPath h)
  | ld64Addr1 | ld64Addr2 | ld64Dirm | ld64DirmIx => exact .inl (loadPair_keepsPath h)
  | mv16Addr1 | mv32Addr1 | mv64Addr1 | mv8Addr1 | mv32Addr3 => exact .inl (moveMem_keepsPath h)
  | st16Addr1 | st32Addr1 | st64Addr1 | st8Addr1 | stB0Addr1 | stB1Addr1 | stB2Addr1 | stB3Addr1 | stW0Addr1 | stW1Addr1 | st16Addr2
    | st32Addr2 | st64Addr2 | st8Addr2 | st32Dirm | st32DirmIx | st64Dirm | st64DirmIx | stB0Dirm | stB0DirmIx | stB1Dirm | stB1DirmIx
    | stB2Dirm | stB2DirmIx | stB3Dirm | stB3DirmIx | stW0Dirm | stW0DirmIx | stW1Dirm | stW1DirmIx => exact .inl (storeVal_keepsPath h)
  | callLabel | callReg => exact .inr (.inl ⟨rfl, callTo_jumpsFrom h⟩)
  | ret => exact .inr (.inl ⟨rfl, returnTo_jumpsFrom h⟩)
  | branch => exact execBranch_path h
  | bcmpz => exact execBcmpz_path h
  | callProtLabel | callProtReg => exact .inr (.inl ⟨rfl, callProt_jumpsFrom h⟩)
  | lbProt => exact .inr (.inl ⟨rfl, enterProtected_jumpsFrom h⟩)
  | retProt => exact (returnProt_path h).imp_right fun g => .inl ⟨rfl, g⟩
  | retiInt | retiIntD => exact (returnInt_path h).imp_right fun g => .inl ⟨rfl, g⟩
  | retiRtint | retiRtintD => exact (returnRealtime_path h).imp_right fun g => .inl ⟨rfl, g⟩
  | emustop0 => exact execEmustop0_path h
  | entry1Prot | entry2Prot | exitProt | enint | disint | isr1Prot | isr2Prot | idle | movRpc | nop | addU16 | subU16 | addBitrev
    | ftos16 | crc | smpyf | saddf | addf => cases h; exact .inl ⟨rfl, id⟩
  | atomic => exact .inl (execAtomic_keepsPath h)
  | ldRpc => exact .inl (execLdRpc_keepsPath h)
  | statusOp => exact .inl (execStatusOp_keepsPath h)
  | addImm | addReg | subImm => cases h; exact .inl (writeSum_keepsPath _ _ _ _ _ _)
  | subReg => exact .inl (execSubReg_keepsPath h)
  | mvImm => cases h; exact .inl (writeReg_keepsPath _ _ _)
  | mvReg => exact .inl (execMvReg_keepsPath h)
  | cmp => exact .inl (execCmp_keepsPath h)
  | tbit => cases h; exact .inl (writeTestDst_keepsPath _ _ _)
  | tflg => cases h; exact .inl (writeTestDst_keepsPath (.flag _) _ _)
  | incCirc => exact .inl (execIncCirc_keepsPath h)
  | decCirc => exact .inl (execDecCirc_keepsPath h)

end Sys2Proof.Proofs
end

section
/-! PROOFS. Once for every invariant: what a step can do to the state the environment leaves, what the opening and the end of a packet do to
its path, and what an event does to the program counter and CURRSP. -/

namespace Sys2Proof.Proofs

open Sys2Proof.Machine Sys2Proof.Laws

variable {s t u : State} {is : List Instr} {fin : Nat}

/-! ### The step -/

/-- The debugger holds the CPU: in debug halt, or waiting for a synchronous run (R582, R586). -/
def held (s : State) : Prop := s.dbg.mode = .halt ∨ s.dbg.mode = .waitSync

/-- Everything a boundary of a CPU that runs can do (R13, R521): wait, execute the packet at the program counter, enter an interrupt. -/
inductive BoundaryDoes (s t : State) : Prop where
  | wait (h : t = settle s)
  | packet (ecc : Bool) (h : runPacket ecc s = .next t)
  | realtime (nmi : Bool) (vector : Word) (prio : BitVec 8) (u : State) (hb : blocked s.cur = false)
      (hu : enterRealtime nmi vector prio (openStep s) = .next u) (h : t = commit (rtispWarn u) ∨ t = commit (rtintLimits (rtispWarn u)))
  | int (q : IntRequest) (u : State) (hb : blocked s.cur = false) (hu : enterInt q (openStep s) = .next u) (h : t = commit u)

/-- Everything a step can do once the events have arrived (R13, R582, R600). -/
inductive StepDoes (s t : State) : Prop where
  | reset (hw : s.cfg.wf = true) (h : t = takeReset s)
  | wait (h : t = settle s)
  | halt (hb : blocked s.cur = false) (h : t = enterHalt s)
  | boundary (hf : s.cur.fault = none) (hd : ¬ held s) (u : State) (hu : BoundaryDoes s u) (h : t = afterStep u)

theorem runOrIdle_does {ecc : Bool} (h : runOrIdle ecc s = .next t) : BoundaryDoes s t := by
  simp only [runOrIdle] at h
  split_ifs at h
  · cases h; exact .wait rfl
  · exact .packet ecc h

/-- An interrupt enters only where nothing blocks it (R525). -/
theorem blocked_of_choose {c : Arch} (h : choose c ≠ .packet) : blocked c = false := by
  cases hb : blocked c with
  | false => rfl
  | true => exact (h (by simp [choose, hb])).elim

theorem boundary_does {ecc : Bool} (h : boundary ecc s = .next t) : BoundaryDoes s t := by
  simp only [boundary] at h
  split at h
  · exact runOrIdle_does h
  · split at h
    all_goals rename_i hc
    · obtain ⟨u, hu, ht⟩ := andThen_eq_next h
      cases ht
      exact .realtime true _ _ u (blocked_of_choose (by rw [hc]; simp)) hu (.inl rfl)
    · obtain ⟨u, hu, ht⟩ := andThen_eq_next h
      cases ht
      exact .realtime false _ _ u (blocked_of_choose (by rw [hc]; simp)) hu (.inr rfl)
    · obtain ⟨u, hu, ht⟩ := andThen_eq_next h
      cases ht
      exact .int _ u (blocked_of_choose (by rw [hc]; simp)) hu rfl
    · exact runOrIdle_does h

theorem runStep_does {ecc : Bool} (hf : s.cur.fault = none) (h : runStep ecc s = .next t) : StepDoes s t := by
  simp only [runStep] at h
  split at h
  · cases h; exact .wait rfl
  · cases h; exact .wait rfl
  · rename_i h1 h2
    split_ifs at h with hn
    · cases h
      simp only [haltNow, Bool.and_eq_true, Bool.not_eq_true'] at hn
      obtain ⟨⟨-, hb⟩, -⟩ := hn
      exact .halt hb rfl
    · obtain ⟨u, hu, ht⟩ := andThen_eq_next h
      cases ht
      exact .boundary hf (fun hd => hd.elim h1 h2) u (boundary_does hu) rfl

/-- A step that answers does one of these things with the state that the events of its batch have left. -/
theorem step_does (h : step s = .next t) : StepDoes (deliver s) t := by
  simp only [step, stepAfter] at h
  split_ifs at h with hw _ hf
  · cases h; exact .reset (by simpa using hw) rfl
  · cases h; exact .wait rfl
  · exact runStep_does (by simpa using hf) h

/-- After its boundary a single step goes back into debug halt, unless it faulted or is not at an interrupt boundary (R583). -/
theorem afterStep_cases (s : State) : afterStep s = s ∨ (blocked s.cur = false ∧ afterStep s = enterHalt s) := by
  unfold afterStep
  split
  · split
    · exact .inl rfl
    · rename_i h
      simp only [Bool.or_eq_true, not_or, Bool.not_eq_true] at h
      exact .inr ⟨h.2, rfl⟩
  all_goals exact .inl rfl

/-- Where no interrupt is blocked no discontinuity is pending (R525). -/
theorem pending_of_not_blocked {c : Arch} (h : blocked c = false) : c.pending = none := by
  simp only [blocked, Bool.or_eq_false_iff, Option.isSome_eq_false_iff, Option.isNone_iff_eq_none] at h
  exact h.1

/-! ### The opening and the end of a packet -/

/-- What a formed packet begins with, and where it goes on. -/
theorem formPacket_packet {fuel a bits : Nat} (h : formPacket (fuel + 1) a bits s = .next (.packet is fin)) :
    fetchable a 1 s = .next none ∧ ∃ i n, (is = [i] ∧ fin = a + 2 * n)
      ∨ ∃ js, is = i :: js ∧ formPacket fuel (a + 2 * n) (bits + 16 * n) s = .next (.packet js fin) := by
  obtain ⟨d0, h0, h⟩ := andThen_eq_next h
  cases d0 with
  | some b => cases h
  | none =>
    refine ⟨h0, ?_⟩
    simp only [ifFetched] at h
    split at h
    · cases h
    · obtain ⟨d, -, h⟩ := andThen_eq_next h
      cases d with
      | some b => cases h
      | none =>
        simp only at h
        split at h
        · cases h
        · cases h
        · rename_i i _ _
          split at h
          · cases h; exact ⟨i, _, .inl ⟨rfl, rfl⟩⟩
          · obtain ⟨f, hf, h⟩ := andThen_eq_next h
            cases f with
            | packet js e => cases h; exact ⟨i, _, .inr ⟨js, rfl, hf⟩⟩
            | undecodable => cases h
            | denied b => cases h

/-- A packet at an even address ends at one (R42). -/
theorem formPacket_even {fuel a bits : Nat} (ha : a % 2 = 0) (h : formPacket fuel a bits s = .next (.packet is fin)) : fin % 2 = 0 := by
  induction fuel generalizing a bits is with
  | zero => cases h
  | succ fuel ih =>
    obtain ⟨-, i, n, ⟨-, rfl⟩ | ⟨js, -, hj⟩⟩ := formPacket_packet h
    · omega
    · exact ih (by omega) hj

/-- The code at the program counter of a packet that forms has a LINK (R161). -/
theorem linkOf_of_formPacket {a : Word} (h : formPacket 8 a.toNat 0 s = .next (.packet is fin)) : linkOf s.cfg a ≠ none := by
  obtain ⟨hf, -⟩ := formPacket_packet h
  intro hl
  have ha := a.isLt
  simp only [fetchable, BitVec.ofNat_toNat, BitVec.setWidth_eq, hl, if_true] at hf
  split at hf <;> cases hf

theorem checkMarker_keepsPath (is : List Instr) (s : State) : keepsPath s (checkMarker is s) := by
  unfold checkMarker
  split
  · exact keepsPath_refl s
  · split
    · exact raise_keepsPath _ s
    · exact keepsPath_refl s

theorem scrambleLate_keepsPath (is : List Instr) (s : State) : keepsPath s (scrambleLate is s) := by
  unfold scrambleLate
  split
  · exact scrambleWork_keepsPath s
  · exact keepsPath_refl s

theorem stickyLate_keepsPath (is : List Instr) (s : State) : keepsPath s (stickyLate is s) := by
  obtain ⟨_, _, _, _, _, e, -⟩ := stickyLate_cases is s
  rw [e]
  exact ⟨rfl, id⟩

theorem countAtomic_keepsPath (s : State) : keepsPath s (countAtomic s) := by
  obtain ⟨k, e⟩ := countAtomic_eq s
  rw [e]
  exact ⟨rfl, id⟩

@[simp] theorem scrambleLate_pre (is : List Instr) (s : State) : (scrambleLate is s).pre = s.pre := by
  unfold scrambleLate; split <;> rfl

@[simp] theorem stickyLate_pre (is : List Instr) (s : State) : (stickyLate is s).pre = s.pre := by
  obtain ⟨_, _, _, _, _, e, -⟩ := stickyLate_cases is s
  rw [e]

@[simp] theorem countDelay_pre (s : State) : (countDelay s).pre = s.pre := by
  obtain ⟨-, e⟩ | ⟨p, -, -, e⟩ | ⟨p, -, -, e⟩ := countDelay_cases s <;> rw [e]
  obtain ⟨-, e⟩ | ⟨-, e⟩ | ⟨k, -, e⟩ := writeLate_cases p.late
    { s with cur := { s.cur with pc := p.target, pending := none }, pkt := { s.pkt with jumped := true } } <;> rw [e]

@[simp] theorem countAtomic_pre (s : State) : (countAtomic s).pre = s.pre := by unfold countAtomic; split <;> rfl

/-- The check of linear execution passes within the LINK, and raises a fault at a crossing (R514). -/
theorem linearCheck_cases (s : State) :
    (linearCheck s = s ∧ ∀ l, linkOf s.cfg s.cur.pc = some l → l = s.cur.ists.currlink)
      ∨ (keepsPath s (linearCheck s) ∧ (linearCheck s).cur.fault ≠ none) := by
  unfold linearCheck
  cases hl : linkOf s.cfg s.cur.pc with
  | none => exact .inl ⟨rfl, fun l h => by cases h⟩
  | some l =>
    simp only
    by_cases he : l = s.cur.ists.currlink
    · exact .inl ⟨if_pos he, fun l' h => by cases h; exact he⟩
    · rw [if_neg he]
      have hk : ∀ f, keepsPath s (failFormation f s) := fun f => by
        cases f with
        | packet => exact keepsPath_refl s
        | undecodable => exact raise_keepsPath _ s
        | denied a => exact keepsPath_trans (t := emit (.accessError a) s) ⟨rfl, id⟩ (raise_keepsPath _ _)
      refine .inr ⟨keepsPath_trans (keepsPath_trans ?_ (raise_keepsPath .linearLinkCrossing _)) ⟨rfl, id⟩, by simp [raise_cur_fault]⟩
      split
      · exact hk _
      · exact keepsPath_refl s
      · exact keepsPath_refl s

/-- Everything the end of a packet can be: EMUSTOP0 has halted before it; or, with the delay slots and the ATOMIC counter counted, it has
faulted or jumped, or it runs on. -/
theorem closePacket_cases (h : closePacket s = .next t) :
    (s.pkt.halted = true ∧ t = commit s)
      ∨ (s.pkt.halted = false ∧ ∃ u, u = countAtomic (countDelay s)
          ∧ (((u.cur.fault ≠ none ∨ u.pkt.jumped = true) ∧ t = commit u)
            ∨ (u.cur.fault = none ∧ u.pkt.jumped = false ∧ t = linearCheck (commit u)))) := by
  simp only [closePacket] at h
  split_ifs at h with h1 h2 h3 <;> cases h
  · exact .inl ⟨h1, rfl⟩
  · refine .inr ⟨by simpa using h1, _, rfl, .inl ⟨?_, rfl⟩⟩
    rw [Bool.or_eq_true] at h2
    exact h2.imp_left fun g e => by simp [e] at g
  · simp only [Bool.or_eq_true, not_or, Bool.not_eq_true, Option.isSome_eq_false_iff, Option.isNone_iff_eq_none] at h2
    exact .inr ⟨by simpa using h1, _, rfl, .inr ⟨h2.1, h2.2, rfl⟩⟩

/-- A packet that stops outside its instructions answers only in the FAULT state (log entry 35). -/
theorem unlessFaulted_next {o : Res State} (h : unlessFaulted s o = .next t) (ho : ∀ u, o ≠ .next u) :
    s.cur.fault ≠ none ∧ t = commit s := by
  rcases unlessFaulted_cases s o with ⟨-, e⟩ | ⟨hf, e⟩ <;> rw [e] at h
  · exact (ho _ h).elim
  · cases h; exact ⟨hf, rfl⟩

/-- A packet that is not legal raises a fault and leaves the path (R504, R515). -/
theorem failFormation_faults {f : Formed} (hf : ∀ is fin, f ≠ .packet is fin) (s : State) :
    keepsPath s (failFormation f s) ∧ keepsContext s (failFormation f s) ∧ (failFormation f s).cur.fault ≠ none := by
  cases f with
  | packet is fin => exact (hf is fin rfl).elim
  | undecodable => exact ⟨raise_keepsPath _ s, raise_keepsContext _ s, by simp [failFormation, raise_cur_fault]⟩
  | denied a =>
    exact ⟨keepsPath_trans (t := emit (.accessError a) s) ⟨rfl, id⟩ (raise_keepsPath _ _),
      keepsContext_trans (t := emit (.accessError a) s) (keepsContext_refl _) (raise_keepsContext _ _), by simp [failFormation, raise_cur_fault]⟩

theorem checkMarker_keepsContext (is : List Instr) (s : State) : keepsContext s (checkMarker is s) := by
  unfold checkMarker
  split
  · exact keepsContext_refl s
  · split
    · exact raise_keepsContext _ s
    · exact keepsContext_refl s

/-- A packet that has faulted before its instructions ran: what it built is on the path of `s`. -/
def faultedBefore (s t : State) : Prop := ∃ u, keepsPath s u ∧ keepsContext s u ∧ u.cur.fault ≠ none ∧ t = commit u

/-- Everything a formed packet can be. -/
theorem runFormed_cases (h : runFormed is fin s = .next t) :
    faultedBefore s t ∨ ∃ u, packetRefusal is s = none ∧ execAll (arrange is) (openPacket fin (checkMarker is s)) = .next u
      ∧ closePacket (stickyLate is (scrambleLate is u)) = .next t := by
  simp only [runFormed] at h
  split at h
  · obtain ⟨hf, e⟩ := unlessFaulted_next h (by simp)
    exact .inl ⟨_, checkMarker_keepsPath is s, checkMarker_keepsContext is s, hf, e⟩
  · obtain ⟨u, hu, ht⟩ := andThen_eq_next h
    exact .inr ⟨u, ‹_›, hu, ht⟩

/-- The state in which the packet of `s` is formed. -/
def beforePacket (ecc : Bool) (s : State) : State := raiseIf ecc .eccDoubleBit (openStep s)

/-- Everything the packet at the program counter can be. -/
theorem runPacket_cases {ecc : Bool} (h : runPacket ecc s = .next t) :
    faultedBefore (beforePacket ecc s) t
      ∨ ∃ is fin, s.cur.pc.toNat % 2 = 0 ∧ formPacket 8 s.cur.pc.toNat 0 (beforePacket ecc s) = .next (.packet is fin)
        ∧ runFormed is fin (beforePacket ecc s) = .next t := by
  have hk := keepsPath_refl (beforePacket ecc s)
  have hc := keepsContext_refl (beforePacket ecc s)
  simp only [runPacket] at h
  change (if s.cur.pc.toNat % 2 = 1 then unlessFaulted (beforePacket ecc s) _ else _) = _ at h
  split at h
  · obtain ⟨hf, e⟩ := unlessFaulted_next h (by simp)
    exact .inl ⟨_, hk, hc, hf, e⟩
  · split at h
    all_goals rename_i hform
    · exact .inr ⟨_, _, by omega, hform, h⟩
    · rename_i f hn
      cases h
      obtain ⟨h1, h2, h3⟩ := failFormation_faults (f := f) hn (checkMarker [] (beforePacket ecc s))
      exact .inl ⟨_, keepsPath_trans (checkMarker_keepsPath [] _) h1, keepsContext_trans (checkMarker_keepsContext [] _) h2, h3, rfl⟩
    all_goals
      obtain ⟨hf, e⟩ := unlessFaulted_next h (by simp)
      exact .inl ⟨_, hk, hc, hf, e⟩

/-! ### Entries -/

/-- An entry goes to an even vector and leaves what is pending (R523). -/
theorem enterRealtime_flow {nmi : Bool} {vector : Word} {prio : BitVec 8} (h : enterRealtime nmi vector prio s = .next t) :
    vector.toNat % 2 = 0 ∧ t.cur.pc = vector ∧ t.cur.pending = s.cur.pending ∧ t.cur.ists.currsp = stackAt s.cfg vector s.cur.ists.currsp
      ∧ t.pre = s.pre ∧ t.cfg = s.cfg ∧ t.dbg = s.dbg := by
  unfold enterRealtime at h
  split at h <;> cases h
  have he : vector.toNat % 2 = 0 := by omega
  cases nmi <;> exact ⟨he, rfl, rfl, rfl, rfl, rfl, rfl⟩

/-- An INT enters at an even vector on the STACK of CURRSP, or faults, and leaves what is pending (R532, R513). -/
theorem enterInt_flow {q : IntRequest} (h : enterInt q s = .next t) :
    q.vector.toNat % 2 = 0 ∧ t.cur.pc = q.vector ∧ t.cur.pending = s.cur.pending ∧ t.cur.ists.currsp = s.cur.ists.currsp
      ∧ t.pre = s.pre ∧ t.cfg = s.cfg ∧ t.dbg = s.dbg ∧ (t.cur.fault = none → onStack s.cfg q.vector s.cur.ists.currsp) := by
  simp only [enterInt] at h
  split at h
  · cases h
  · rename_i he
    obtain ⟨u, hu, ht⟩ := andThen_eq_next h
    cases ht
    obtain ⟨wrong, hu, hw⟩ : ∃ wrong, pushFrame (readSp s) s.cfg.intFrameBytes s.cur.rpc (checkSp (raiseIf wrong .intWrongStack s)) = .next u
        ∧ (wrong = false → onStack s.cfg q.vector s.cur.ists.currsp) := by
      cases hl : linkOf s.cfg q.vector with
      | none => simp only [hl] at hu; exact ⟨_, hu, fun _ l h => by cases hl.symm.trans h⟩
      | some l => simp only [hl] at hu; exact ⟨_, hu, fun h k hk => by cases hl.symm.trans hk; exact (bne_eq_false_iff_eq.1 h).symm⟩
    have k1 := raiseIf_keepsPath wrong .intWrongStack s
    have k2 := keepsPath_trans (checkSp_keepsPath (raiseIf wrong .intWrongStack s)) (pushFrame_keepsPath hu)
    obtain ⟨hpre, hcfg, -⟩ := keepsContext_trans (raiseIf_keepsContext wrong .intWrongStack s)
      (keepsContext_trans (checkSp_keepsContext _) (pushFrame_keepsContext hu))
    obtain ⟨-, hp, hk, -, -, -, hd⟩ := pathOf_eq (keepsPath_trans k1 k2).1
    refine ⟨by omega, rfl, hp, hk, hpre, hcfg, hd, fun hf => hw ?_⟩
    have hn := k2.2 hf
    cases wrong
    · rfl
    · simp [raise_cur_fault] at hn

/-- The warning and the limit of the real-time interrupt stack leave the path. -/
theorem rtispWarn_keepsPath (s : State) : keepsPath s (rtispWarn s) := by
  unfold rtispWarn
  split
  · exact ⟨rfl, id⟩
  · exact keepsPath_refl s

theorem rtintLimits_keepsPath (s : State) : keepsPath s (rtintLimits s) := by
  unfold rtintLimits
  split
  · exact keepsPath_refl s
  · split
    · exact ⟨rfl, id⟩
    · exact raise_keepsPath _ s

/-- What a real-time entry leaves after its warning and, for an RTINT, its limit. -/
theorem realtimeEntry_end (h : t = commit (rtispWarn u) ∨ t = commit (rtintLimits (rtispWarn u))) :
    ∃ v, keepsPath u v ∧ v.pre = u.pre ∧ v.cfg = u.cfg ∧ t = commit v := by
  have hw : (rtispWarn u).pre = u.pre := by unfold rtispWarn; split <;> rfl
  rcases h with rfl | rfl
  · exact ⟨_, rtispWarn_keepsPath u, hw, by simp, rfl⟩
  · refine ⟨_, keepsPath_trans (rtispWarn_keepsPath u) (rtintLimits_keepsPath _), ?_, by simp, rfl⟩
    rw [← hw]
    unfold rtintLimits
    repeat' split
    all_goals simp

/-! ### Events -/

/-- What decides where the CPU goes between packets is as it was; no event makes the debugger hold a CPU it did not hold. -/
def keepsPlace (s t : State) : Prop :=
  t.cur.pc = s.cur.pc ∧ t.cur.pending = s.cur.pending ∧ t.cur.ists.currsp = s.cur.ists.currsp ∧ t.cur.fault = s.cur.fault
    ∧ (held t → held s)

theorem keepsPlace_refl (s : State) : keepsPlace s s := ⟨rfl, rfl, rfl, rfl, id⟩

/-- What leaves the path outside a packet and the fault indicator alone. -/
theorem keepsPlace_of_keepsPath (h : keepsPath s t) (hf : t.cur.fault = s.cur.fault) : keepsPlace s t := by
  obtain ⟨h1, h2, h3, -, -, -, h7⟩ := pathOf_eq h.1
  exact ⟨h1, h2, h3, hf, fun g => by rwa [held, h7] at g⟩

theorem busWrite_keepsPlace (a : Word) (v : Byte) (s : State) : keepsPlace s (busWrite a v s) := by
  unfold busWrite
  split <;> exact keepsPlace_refl s

/-- A debugger's command from a hold leaves the CPU running or held. -/
theorem dbgCommand_keepsPlace {m : DebugMode} (h : held s) : keepsPlace s (dbgCommand m s) := by
  unfold dbgCommand
  split
  · exact ⟨rfl, rfl, rfl, rfl, fun _ => h⟩
  · exact keepsPlace_refl s

/-- The debugger's write of a register keeps the place, but for one of PC to an even address. -/
theorem dbgWriteReg_place (r : DebugReg) (v : Word) (s : State) :
    keepsPlace s (dbgWriteReg r v s) ∨ (v.toNat % 2 = 0 ∧ dbgWriteReg r v s = dbgMovePc v s) := by
  cases r with
  | reg x => exact .inl (keepsPlace_of_keepsPath (writeReg_keepsPath x v s) (by simp [dbgWriteReg]))
  | rpc => exact .inl (keepsPlace_refl s)
  | status q => cases q <;> exact .inl (keepsPlace_refl s)
  | pc =>
    by_cases hv : v.toNat % 2 = 0
    · exact .inr ⟨hv, if_pos hv⟩
    · exact .inl (by rw [dbgWriteReg, if_neg hv]; exact keepsPlace_refl s)

/-- An event keeps the place, but where the debugger moves the program counter of the halted CPU (R582). -/
theorem applyEvent_place (e : Event) (s : State) :
    keepsPlace s (applyEvent e s)
      ∨ ∃ v, s.dbg.mode = .halt ∧ v.toNat % 2 = 0 ∧ applyEvent e s = spend 1 (dbgMovePc v s) := by
  cases e with
  | dbgConnect on =>
    refine .inl ⟨rfl, rfl, rfl, rfl, fun h => ?_⟩
    cases on
    · rcases h with h | h <;> cases h
    · exact h
  | busWrite a v => exact .inl (busWrite_keepsPlace a v s)
  | dbgHalt =>
    left
    obtain e | ⟨-, e⟩ := requestHalt_cases s <;> simp only [applyEvent, e] <;> exact keepsPlace_refl s
  | dbgRun | dbgFreeRun | dbgStep | dbgSyncRun | dbgSync =>
    left
    simp only [applyEvent]
    split
    · exact dbgCommand_keepsPlace (by simp [held, *])
    · exact keepsPlace_refl s
  | dbgWrite r v =>
    obtain e | e | ⟨-, hm, -, e⟩ := dbgAccess_cases none (dbgWriteReg r v) s <;> simp only [applyEvent, e]
    · exact .inl (keepsPlace_refl s)
    · exact .inl (keepsPlace_refl s)
    · exact (dbgWriteReg_place r v s).imp id fun ⟨hv, e⟩ => ⟨v, hm rfl, hv, by rw [e]⟩
  | dbgWriteMem a v =>
    left
    obtain e | e | ⟨-, -, -, e⟩ := dbgAccess_cases (some a) (busWrite a v) s <;> simp only [applyEvent, e]
    · exact keepsPlace_refl s
    · exact keepsPlace_refl s
    · exact busWrite_keepsPlace a v s
  | _ => exact .inl (keepsPlace_refl s)

/-- What no event breaks, a delivery does not break (R500). -/
theorem deliver_induction {I : State → Prop} (hI : ∀ s : State, I { s with inputs := s.inputs.tail } ↔ I s)
    (he : ∀ e s, s.cur.fault = none → I s → I (applyEvent e s)) (h : I s) : I (deliver s) := by
  have hs : ∀ es u, u.cur.fault = none → I u → I (applyEvents es u) := by
    intro es
    induction es with
    | nil => exact fun _ _ h => h
    | cons e es ih =>
      intro u hf hu
      refine ih _ ?_ (he e u hf hu)
      obtain ⟨-, -, -, g, -⟩ | ⟨v, -, -, g⟩ := applyEvent_place e u
      · rw [g, hf]
      · rw [g]; exact hf
  unfold deliver
  split
  · exact (hI s).2 h
  · exact hs _ _ ‹_› ((hI s).2 h)

end Sys2Proof.Proofs
end

section
/-! PROOFS. The program counter and a pending target stay even: O6. -/

namespace Sys2Proof.Proofs

open Sys2Proof.Machine Sys2Proof.Laws

variable {s t u : State} {is : List Instr} {fin : Nat}

/-- The program counter and a pending target are even (R42). -/
def evenFlow (c : Arch) : Prop := c.pc.toNat % 2 = 0 ∧ ∀ p, c.pending = some p → p.target.toNat % 2 = 0

theorem evenFlow_of_eq {c d : Arch} (hpc : d.pc = c.pc) (hp : d.pending = c.pending) (h : evenFlow c) : evenFlow d := by
  rwa [evenFlow, hpc, hp]

theorem evenFlow_of_keepsPath (h : keepsPath s t) (hs : evenFlow s.cur) : evenFlow t.cur := by
  obtain ⟨hpc, hp, -⟩ := pathOf_eq h.1
  exact evenFlow_of_eq hpc hp hs

/-- A jump goes to an even target, or nowhere. -/
theorem evenFlow_of_jumpsFrom (h : jumpsFrom s t) (hs : evenFlow s.cur) : evenFlow t.cur := by
  obtain ⟨hpc, hp, -⟩ | ⟨he, hp, -⟩ | ⟨p, he, hpc, hp, -⟩ := jumpsFrom_cases h
  · exact evenFlow_of_eq hpc hp hs
  · exact ⟨he, hp ▸ hs.2⟩
  · exact ⟨hpc ▸ hs.1, fun q hq => by rw [hp] at hq; cases hq; exact he⟩

theorem evenFlow_exec {i : Instr} (h : exec i s = .next t) (hs : evenFlow s.cur) (hp : evenFlow s.pre) : evenFlow t.cur := by
  obtain g | ⟨-, g⟩ | ⟨-, g, -⟩ := exec_path h
  · exact evenFlow_of_keepsPath g hs
  · exact evenFlow_of_jumpsFrom g hs
  · exact g ▸ hp

theorem evenFlow_execAll (h : execAll is s = .next t) (hs : evenFlow s.cur) (hp : evenFlow s.pre) : evenFlow t.cur := by
  induction is generalizing s with
  | nil => cases h; exact hs
  | cons i is ih =>
    simp only [execAll] at h
    split at h
    · cases h; exact hs
    · obtain ⟨u, hu, ht⟩ := andThen_eq_next h
      obtain ⟨hpre, -⟩ := exec_keepsContext hu
      exact ih ht (evenFlow_exec hu hs hp) (hpre ▸ hp)

/-- Each part of what a faulting packet leaves is that of before or after it (R500). -/
theorem evenFlow_commit (hs : evenFlow s.cur) (hp : evenFlow s.pre) : evenFlow (commit s).cur := by
  unfold commit
  split
  · exact hs
  · refine ⟨?_, fun p h => ?_⟩
    · obtain e | e := pick_cases (s.free + 64) s.pre.pc s.cur.pc <;> simp only [blur, e]
      · exact hp.1
      · exact hs.1
    · simp only [blur] at h
      obtain e | e := pick_cases (s.free + 108) s.pre.pending s.cur.pending <;> rw [e] at h
      · exact hp.2 p h
      · exact hs.2 p h

theorem evenFlow_countDelay (hs : evenFlow s.cur) (hp : evenFlow s.pre) : evenFlow (countDelay s).cur := by
  obtain ⟨-, e⟩ | ⟨p, hd, -, e⟩ | ⟨p, hd, -, e⟩ := countDelay_cases s <;> rw [e]
  · exact hs
  · have hj : evenFlow { s.cur with pc := p.target, pending := none } := ⟨hp.2 p hd, fun _ h => by cases h⟩
    obtain ⟨-, e⟩ | ⟨-, e⟩ | ⟨k, -, e⟩ := writeLate_cases p.late
      { s with cur := { s.cur with pc := p.target, pending := none }, pkt := { s.pkt with jumped := true } } <;> rw [e] <;> exact hj
  · exact ⟨hs.1, fun q hq => by cases hq; exact hp.2 p hd⟩

theorem evenFlow_linearCheck (h : evenFlow s.cur) : evenFlow (linearCheck s).cur := by
  obtain ⟨e, -⟩ | ⟨hk, -⟩ := linearCheck_cases s
  · rwa [e]
  · exact evenFlow_of_keepsPath hk h

theorem evenFlow_closePacket (h : closePacket s = .next t) (hs : evenFlow s.cur) (hp : evenFlow s.pre) : evenFlow t.cur := by
  have hu : evenFlow (commit (countAtomic (countDelay s))).cur :=
    evenFlow_commit (evenFlow_of_keepsPath (countAtomic_keepsPath _) (evenFlow_countDelay hs hp)) (by simpa using hp)
  obtain ⟨-, rfl⟩ | ⟨-, u, rfl, ⟨-, rfl⟩ | ⟨-, -, rfl⟩⟩ := closePacket_cases h
  · exact evenFlow_commit hs hp
  · exact hu
  · exact evenFlow_linearCheck hu

theorem evenFlow_faultedBefore (h : faultedBefore s t) (hs : evenFlow s.cur) (hp : evenFlow s.pre) : evenFlow t.cur := by
  obtain ⟨u, hk, ⟨hpre, -⟩, -, rfl⟩ := h
  exact evenFlow_commit (evenFlow_of_keepsPath hk hs) (hpre ▸ hp)

theorem evenFlow_runFormed (h : runFormed is fin s = .next t) (hf : fin % 2 = 0) (hs : evenFlow s.cur) (hp : evenFlow s.pre) :
    evenFlow t.cur := by
  obtain g | ⟨u, -, hu, ht⟩ := runFormed_cases h
  · exact evenFlow_faultedBefore g hs hp
  · have hm := evenFlow_of_keepsPath (checkMarker_keepsPath is s) hs
    obtain ⟨hpre, -⟩ := checkMarker_keepsContext is s
    have ho : evenFlow (openPacket fin (checkMarker is s)).cur := ⟨by simp [openPacket]; omega, hm.2⟩
    have hpo : evenFlow (openPacket fin (checkMarker is s)).pre := hpre.symm ▸ hp
    obtain ⟨hpre', -⟩ := execAll_keepsContext hu
    refine evenFlow_closePacket ht ?_ ?_
    · exact evenFlow_of_keepsPath (keepsPath_trans (scrambleLate_keepsPath is u) (stickyLate_keepsPath is _)) (evenFlow_execAll hu ho hpo)
    · simpa [hpre'] using hpo

theorem evenFlow_runPacket {ecc : Bool} (h : runPacket ecc s = .next t) (hs : evenFlow s.cur) : evenFlow t.cur := by
  have hc : evenFlow (beforePacket ecc s).cur := evenFlow_of_keepsPath (raiseIf_keepsPath ecc _ (openStep s)) hs
  obtain ⟨hpre, -⟩ := raiseIf_keepsContext ecc .eccDoubleBit (openStep s)
  have hp : evenFlow (beforePacket ecc s).pre := hpre.symm ▸ hs
  obtain g | ⟨is, fin, he, hf, hr⟩ := runPacket_cases h
  · exact evenFlow_faultedBefore g hc hp
  · exact evenFlow_runFormed hr (formPacket_even he hf) hc hp

theorem evenFlow_boundary (h : BoundaryDoes s t) (hs : evenFlow s.cur) : evenFlow t.cur := by
  cases h with
  | wait e => exact e ▸ hs
  | packet ecc h => exact evenFlow_runPacket h hs
  | realtime nmi vector prio u hb hu h =>
    obtain ⟨v, hk, hpre, -, rfl⟩ := realtimeEntry_end h
    obtain ⟨he, hpc, hp, -, hpre', -⟩ := enterRealtime_flow hu
    have hu : evenFlow u.cur := ⟨hpc ▸ he, hp ▸ hs.2⟩
    exact evenFlow_commit (evenFlow_of_keepsPath hk hu) (by rw [hpre, hpre']; exact hs)
  | int q u hb hu h =>
    obtain ⟨he, hpc, hp, -, hpre, -⟩ := enterInt_flow hu
    exact h ▸ evenFlow_commit ⟨hpc ▸ he, hp ▸ hs.2⟩ (hpre ▸ hs)

theorem evenFlow_afterStep (h : evenFlow s.cur) : evenFlow (afterStep s).cur := by
  obtain e | ⟨-, e⟩ := afterStep_cases s <;> rw [e] <;> exact h

theorem evenFlow_takeReset (h : s.cfg.resetPc.toNat % 2 = 0) : evenFlow (takeReset s).cur := by
  obtain e | ⟨t, -, e, -⟩ := takeReset_cases s <;> rw [e] <;> exact ⟨h, fun _ h => by cases h⟩

theorem evenFlow_deliver (h : evenFlow s.cur) : evenFlow (deliver s).cur := by
  refine deliver_induction (I := fun s => evenFlow s.cur) (fun _ => Iff.rfl) (fun e s _ hs => ?_) h
  obtain ⟨hpc, hp, -⟩ | ⟨v, -, hv, g⟩ := applyEvent_place e s
  · exact evenFlow_of_eq hpc hp hs
  · rw [g]; exact ⟨hv, hs.2⟩

/-- Settles O6: every discontinuity checks its target, and packets are of whole words. -/
theorem stepKeepsPcEven : Obligations.StepKeepsPcEven := by
  unfold Obligations.StepKeepsPcEven
  rintro s t ⟨hpc, hp, hr⟩ h
  obtain ⟨-, -, hcfg⟩ := stepEndsBetweenPackets s t h
  have hd : evenFlow (deliver s).cur := evenFlow_deliver ⟨hpc, hp⟩
  have ht : evenFlow t.cur := by
    cases step_does h with
    | reset _ e => exact e ▸ evenFlow_takeReset (by simpa using hr)
    | wait e => exact e ▸ hd
    | halt _ e => exact e ▸ hd
    | boundary _ _ u hu e => exact e ▸ evenFlow_afterStep (evenFlow_boundary hu hd)
  exact ⟨ht.1, ht.2, hcfg ▸ hr⟩

end Sys2Proof.Proofs
end

section
/-! PROOFS. CURRSP names the STACK of the code at the program counter, and after a pending discontinuity that of its target: O36. A packet
holds at most one discontinuity that goes; from the state in which it begins, with CURRSP on the STACK of its LINK, that one jump leaves
CURRSP right for its target, and where none goes linear execution stays in the LINK or faults. -/

namespace Sys2Proof.Proofs

open Sys2Proof.Machine Sys2Proof.Laws

variable {s t u : State} {is : List Instr} {fin : Nat}

/-! ### At most one discontinuity goes -/

theorem transfers_congr {i : Instr} (h : t.pre = s.pre) : transfers i t = transfers i s := by
  cases i <;> simp [transfers, goes, readD, h]

/-- A discontinuity that goes writes the program counter, or everything. -/
theorem pc_mem_destsOf {i : Instr} (h : transfers i s = true) : ∃ x ∈ destsOf i s, x = .pc ∨ x = .everything := by
  obtain ⟨hd, hg⟩ := Bool.and_eq_true_iff.1 h
  have hp : ∃ x ∈ (profile i).dests, x = .pc ∨ x = .everything := by
    cases i with
    | callLabel | callReg | ret | branch | bcmpz | callProtLabel | callProtReg | lbProt | retProt | retiInt | retiIntD =>
      exact ⟨.pc, by simp [profile], .inl rfl⟩
    | retiRtint | retiRtintD => exact ⟨.everything, by simp [profile], .inr rfl⟩
    | statusOp op => cases op <;> cases hd
    | mvReg op => cases op <;> cases hd
    | cmp op => cases op <;> cases hd
    | _ => cases hd
  have hs : ∀ x, x = Dst.pc ∨ x = Dst.everything → spares i s x = false := by
    rintro x (rfl | rfl) <;> cases i <;> rfl
  obtain ⟨x, hx, hp⟩ := hp
  exact ⟨x, (mem_destsOf _ i s).2 ⟨hg, hx, hs x hp⟩, hp⟩

/-- Destinations in two lists are distinct where the lists are, and no member of one clashes with one of the other. -/
theorem distinctDsts_append {l k : List Dst} (h : distinctDsts (l ++ k) = true) :
    distinctDsts k = true ∧ ∀ x ∈ l, ∀ y ∈ k, x.clash y = false := by
  induction l with
  | nil => exact ⟨h, fun _ hx => by cases hx⟩
  | cons z l ih =>
    simp only [List.cons_append, distinctDsts, Bool.and_eq_true, List.all_eq_true, Bool.not_eq_true'] at h
    obtain ⟨hz, h⟩ := h
    obtain ⟨hk, hl⟩ := ih h
    refine ⟨hk, fun x hx y hy => ?_⟩
    rcases List.mem_cons.1 hx with rfl | hx
    · exact hz y (List.mem_append_right l hy)
    · exact hl x hx y hy

/-- In a packet without a double write at most one discontinuity goes (R18, R177). -/
theorem countP_transfers_le (h : distinctDsts (packetDsts is s) = true) : is.countP (transfers · s) ≤ 1 := by
  induction is with
  | nil => simp
  | cons i is ih =>
    obtain ⟨hrest, hc⟩ := distinctDsts_append h
    by_cases hi : transfers i s = true
    · have h0 : is.countP (transfers · s) = 0 := by
        refine List.countP_eq_zero.2 fun j hj hjt => ?_
        obtain ⟨x, hx, hxc⟩ := pc_mem_destsOf hi
        obtain ⟨y, hy, hyc⟩ := pc_mem_destsOf hjt
        have hn := hc x hx y (List.mem_flatMap.2 ⟨j, hj, hy⟩)
        rcases hxc with rfl | rfl <;> rcases hyc with rfl | rfl <;> cases hn
      simp [hi, h0]
    · simpa [hi] using ih hrest

theorem phaseOf_lt (i : Instr) : phaseOf i < 5 := by
  unfold phaseOf
  repeat' split
  all_goals omega

/-- Every instruction of the packet runs, as often as the packet holds it. -/
theorem arrange_perm (is : List Instr) : (arrange is).Perm is := by
  refine List.perm_iff_count.2 fun i => ?_
  have hk : ∀ k, (is.filter fun j => phaseOf j == k).count i = if phaseOf i = k then is.count i else 0 := by
    intro k
    split
    · exact List.count_filter (by simpa)
    · exact List.count_eq_zero.2 fun h => by simp_all [List.mem_filter]
  have h5 := phaseOf_lt i
  simp only [arrange, List.count_flatMap, Function.comp_def, hk]
  generalize phaseOf i = k at h5
  generalize is.count i = n
  have : k = 0 ∨ k = 1 ∨ k = 2 ∨ k = 3 ∨ k = 4 := by omega
  rcases this with rfl | rfl | rfl | rfl | rfl <;> simp [List.range, List.range.loop]

/-! ### Inside a packet -/

/-- CURRSP is the STACK of the target after a jump, and of the packet's LINK before; that of a pending target is the one CURRSP will name. -/
def onCourse (s : State) : Prop :=
  s.cur.fault = none →
    (s.pkt.jumped = true → onStack s.cfg s.cur.pc s.cur.ists.currsp)
    ∧ (s.pkt.jumped = false → s.cur.ists.currsp = stackOf s.cfg s.cur.ists.currlink)
    ∧ ∀ p, s.cur.pending = some p → onStack s.cfg p.target (lateStack p.late s.cur.ists.currsp)

/-- No discontinuity of the packet has gone. -/
def straight (s : State) : Prop :=
  onCourse s ∧ s.pkt.jumped = false ∧ s.cur.pending = s.pre.pending ∧ s.cur.ists.currlink = s.pre.ists.currlink

theorem onCourse_of_keepsPath (h : keepsPath s t) (hc : t.cfg = s.cfg) (hs : onCourse s) : onCourse t := by
  obtain ⟨h1, h2, h3, h4, h5, -⟩ := pathOf_eq h.1
  intro hf
  rw [h1, h2, h3, h4, h5, hc]
  exact hs (h.2 hf)

theorem straight_of_keepsPath (h : keepsPath s t) (hp : t.pre = s.pre) (hc : t.cfg = s.cfg) (hs : straight s) : straight t := by
  obtain ⟨-, h2, -, h4, h5, -⟩ := pathOf_eq h.1
  obtain ⟨ho, hj, hq, hl⟩ := hs
  exact ⟨onCourse_of_keepsPath h hc ho, h5.trans hj, by rw [h2, hp, hq], by rw [h4, hp, hl]⟩

/-- The one jump of a packet that is not itself in a delay slot. -/
theorem onCourse_of_jumpsFrom (h : jumpsFrom s t) (hc : t.cfg = s.cfg) (hs : straight s) (hp : s.pre.pending = none) : onCourse t := by
  obtain ⟨ho, hjs, hps, hls⟩ := hs
  obtain ⟨hl, -, -, hfs⟩ := jumpsFrom_keeps h
  intro hf
  obtain ⟨-, hk, -⟩ := ho (hfs hf)
  have hk := hk hjs
  obtain ⟨-, -, hn⟩ | ⟨-, hpt, hj, hon⟩ | ⟨p, -, -, hpt, hj, hon⟩ := jumpsFrom_cases h
  · exact (hn hf).elim
  · refine ⟨fun _ => hc ▸ hon hf (hls ▸ hk), fun n => by simp [hj] at n, fun p hq => ?_⟩
    rw [hpt, hps, hp] at hq
    cases hq
  · obtain ⟨hkt, hon⟩ := hon hf (hls ▸ hk)
    refine ⟨fun n => by simp [hj, hjs] at n, fun _ => by rw [hkt, hc, hl, hk], fun q hq => ?_⟩
    rw [hpt] at hq
    cases hq
    rw [hkt, hc]
    exact hon

/-- EMUSTOP0 has halted before the packet (R296). -/
def haltedBefore (is : List Instr) (t : State) : Prop := .emustop0 ∈ is ∧ t.cur = t.pre ∧ t.pkt.halted = true

theorem haltedBefore_of_mem {js : List Instr} (h : haltedBefore is t) (hs : ∀ i ∈ is, i ∈ js) : haltedBefore js t := ⟨hs _ h.1, h.2⟩

/-- Instructions of which none goes leave the path, or EMUSTOP0 halts. -/
theorem execAll_quiet (h : execAll is s = .next t) (hq : ∀ i ∈ is, transfers i s = false) : haltedBefore is t ∨ keepsPath s t := by
  induction is generalizing s with
  | nil => cases h; exact .inr (keepsPath_refl _)
  | cons i is ih =>
    simp only [execAll] at h
    split at h
    · cases h; exact .inr (keepsPath_refl _)
    · obtain ⟨u, hu, ht⟩ := andThen_eq_next h
      obtain ⟨hp, hc, -⟩ := exec_keepsContext hu
      obtain g | ⟨g, -⟩ | ⟨rfl, g, hh⟩ := exec_path hu
      · obtain hb | hb := ih ht fun j hj => (transfers_congr hp).trans (hq j (List.mem_cons_of_mem _ hj))
        · exact .inl (haltedBefore_of_mem hb fun _ => List.mem_cons_of_mem _)
        · exact .inr (keepsPath_trans g hb)
      · exact absurd g (by simp [hq _ List.mem_cons_self])
      · left
        have e : t = u := by cases is <;> simp only [execAll, hh, if_true] at ht <;> cases ht <;> rfl
        exact ⟨List.mem_cons_self, by rw [e, g, hp], by rw [e, hh]⟩

/-- What the instructions of a packet leave: EMUSTOP0 has halted, or nothing has gone, or outside delay slots one discontinuity has. -/
def afterInstrs (is : List Instr) (s t : State) : Prop :=
  haltedBefore is t ∨ (t.pkt.halted = false ∧ t.dbg = s.dbg ∧ (straight t ∨ (t.pre.pending = none ∧ onCourse t)))

theorem execAll_course (h : execAll is s = .next t) (hs : straight s) (hn : s.pkt.halted = false) (h1 : is.countP (transfers · s) ≤ 1)
    (hd : s.pre.pending ≠ none → ∀ i ∈ is, transfers i s = false) : afterInstrs is s t := by
  induction is generalizing s with
  | nil => cases h; exact .inr ⟨hn, rfl, .inl hs⟩
  | cons i is ih =>
    simp only [execAll, hn, Bool.false_eq_true, if_false] at h
    obtain ⟨u, hu, ht⟩ := andThen_eq_next h
    obtain ⟨hp, hc, -⟩ := exec_keepsContext hu
    have htr : ∀ j, transfers j u = transfers j s := fun j => transfers_congr hp
    obtain g | ⟨hi, g⟩ | ⟨rfl, g, hh⟩ := exec_path hu
    · obtain ⟨-, -, -, -, -, gh, gd⟩ := pathOf_eq g.1
      have ha : afterInstrs is u t := by
        refine ih ht (straight_of_keepsPath g hp hc hs) (gh.trans hn) ?_ fun n j hj => ?_
        · simp only [htr]
          exact (List.Sublist.countP_le (List.sublist_cons_self i is)).trans h1
        · exact (htr j).trans (hd (hp ▸ n) j (List.mem_cons_of_mem _ hj))
      exact ha.imp (fun hb => haltedBefore_of_mem hb fun _ => List.mem_cons_of_mem _) fun ⟨a, b, c⟩ => ⟨a, b.trans gd, c⟩
    · have hpn : s.pre.pending = none := by
        by_contra n
        simp [hd n i List.mem_cons_self] at hi
      have hq : ∀ j ∈ is, transfers j u = false := by
        rw [List.countP_cons, if_pos hi] at h1
        have h0 : is.countP (transfers · s) = 0 := by omega
        exact fun j hj => (htr j).trans (by simpa using List.countP_eq_zero.1 h0 j hj)
      obtain ⟨-, gh, gd, -⟩ := jumpsFrom_keeps g
      have ho := onCourse_of_jumpsFrom g hc hs hpn
      obtain hb | hb := execAll_quiet ht hq
      · exact .inl (haltedBefore_of_mem hb fun _ => List.mem_cons_of_mem _)
      · obtain ⟨hp', hc', -⟩ := execAll_keepsContext ht
        obtain ⟨-, -, -, -, -, bh, bd⟩ := pathOf_eq hb.1
        exact .inr ⟨bh.trans (gh.trans hn), bd.trans gd, .inr ⟨by rw [hp', hp, hpn], onCourse_of_keepsPath hb hc' ho⟩⟩
    · have e : t = u := by cases is <;> simp only [execAll, hh, if_true] at ht <;> cases ht <;> rfl
      exact .inl ⟨List.mem_cons_self, by rw [e, g, hp], by rw [e, hh]⟩

/-! ### The end of a packet -/

/-- CURRSP is the STACK of the code at the program counter, and will be that of a pending target. -/
def onTrack (s : State) : Prop :=
  s.cur.fault = none → onStack s.cfg s.cur.pc s.cur.ists.currsp
    ∧ ∀ p, s.cur.pending = some p → onStack s.cfg p.target (lateStack p.late s.cur.ists.currsp)

theorem stackFollowsLink_iff (s : State) : stackFollowsLink s ↔ onTrack s ∧ (held s → s.cur.pending = none) := by
  refine and_congr_left fun _ => imp_congr_right fun _ => and_congr_right fun _ => ?_
  exact ⟨fun h p hp l hl => h p l hp hl, fun h p l hp hl => h p hp l hl⟩

theorem onTrack_commit (h : s.cur.fault = none → onStack s.cfg s.cur.pc s.cur.ists.currsp
    ∧ ∀ p, s.cur.pending = some p → onStack s.cfg p.target (lateStack p.late s.cur.ists.currsp)) : onTrack (commit s) := by
  obtain ⟨-, -, -, -, hf⟩ := commit_settled s
  intro n
  rw [hf] at n
  rw [commit_of_no_fault s n]
  exact h n

/-- A delayed discontinuity takes CURRSP to the value it has left for it, and the rest of the path stays. -/
theorem writeLate_path (late : Late) (s : State) :
    (writeLate late s).cur.pc = s.cur.pc ∧ (writeLate late s).cur.pending = s.cur.pending
      ∧ (writeLate late s).cur.ists.currsp = lateStack late s.cur.ists.currsp ∧ (writeLate late s).cur.fault = s.cur.fault
      ∧ (writeLate late s).pkt.jumped = s.pkt.jumped ∧ (writeLate late s).cfg = s.cfg := by
  cases late <;> exact ⟨rfl, rfl, rfl, rfl, rfl, rfl⟩

/-- A delay slot counts down; the last one brings CURRSP to the STACK of the target. -/
theorem onCourse_countDelay (h : straight s ∨ (s.pre.pending = none ∧ onCourse s)) : onCourse (countDelay s) := by
  obtain ⟨-, e⟩ | ⟨p, hp, -, e⟩ | ⟨p, hp, -, e⟩ := countDelay_cases s <;> rw [e]
  · exact h.elim (fun g => g.1) fun g => g.2
  · obtain ⟨ho, -, hps, -⟩ := h.resolve_right fun g => by simp [hp] at g
    obtain ⟨hpc, hpt, hk, hf, hj, hc⟩ := writeLate_path p.late
      { s with cur := { s.cur with pc := p.target, pending := none }, pkt := { s.pkt with jumped := true } }
    intro hn
    obtain ⟨-, -, h3⟩ := ho (hf ▸ hn)
    refine ⟨fun _ => ?_, fun n => by simp [hj] at n, fun q hq => by rw [hpt] at hq; cases hq⟩
    rw [hpc, hk, hc]
    exact h3 p (hps.trans hp)
  · obtain ⟨ho, hj, hps, -⟩ := h.resolve_right fun g => by simp [hp] at g
    intro hf
    obtain ⟨-, h2, h3⟩ := ho hf
    exact ⟨fun n => absurd n (by simp [hj]), h2, fun q hq => by cases hq; exact h3 p (hps.trans hp)⟩

theorem onTrack_closePacket (h : closePacket s = .next t) (hh : s.pkt.halted = false) (hs : straight s ∨ (s.pre.pending = none ∧ onCourse s)) :
    onTrack t ∧ t.dbg = s.dbg := by
  have hu : onCourse (countAtomic (countDelay s)) := onCourse_of_keepsPath (countAtomic_keepsPath _) (by simp) (onCourse_countDelay hs)
  refine ⟨?_, closePacket_dbg h⟩
  obtain ⟨n, -⟩ | ⟨-, u, rfl, ⟨hj, rfl⟩ | ⟨hf, hj, rfl⟩⟩ := closePacket_cases h
  · simp [hh] at n
  · refine onTrack_commit fun hf => ?_
    obtain ⟨h1, -, h3⟩ := hu hf
    exact ⟨h1 (hj.resolve_left fun n => n hf), h3⟩
  · obtain ⟨-, h2, h3⟩ := hu hf
    obtain ⟨e, hl⟩ | ⟨-, n⟩ := linearCheck_cases (commit (countAtomic (countDelay s)))
    · rw [e]
      rw [commit_of_no_fault _ hf] at hl
      exact onTrack_commit fun _ => ⟨fun l hlk => by rw [hl l hlk]; exact h2 hj, h3⟩
    · exact fun hn => (n hn).elim

/-! ### The step -/

theorem onTrack_of_fault (h : s.cur.fault ≠ none) : onTrack s := fun n => (h n).elim

/-- One rule of a list of refusals. -/
theorem ite_some_eq_none {α : Type} {c : Prop} [Decidable c] {r : α} {o : Option α} :
    (if c then some r else o) = none ↔ ¬ c ∧ o = none := by
  split <;> simp [*]

/-- A packet accepted in a delay slot holds no discontinuity, and one that EMUSTOP0 halts stands in no delay slot (R220 items 1 and 6). -/
theorem packetRefusal_none (h : packetRefusal is s = none) :
    distinctDsts (packetDsts is s) = true ∧ (s.cur.pending ≠ none → hasDisc is = false ∧ .emustop0 ∉ is) := by
  simp only [packetRefusal, ite_some_eq_none] at h
  obtain ⟨hdst, -, hdisc, -, -, -, -, hemu, -⟩ := h
  refine ⟨by simpa using hdst, fun hp => ?_⟩
  have hp : s.cur.pending.isSome = true := Option.isSome_iff_ne_none.2 hp
  simp only [hp, Bool.true_and, Bool.not_eq_true] at hdisc hemu
  exact ⟨hdisc, by simpa using hemu⟩

/-- The packet at the program counter begins straight (R55, R57). -/
theorem straight_openPacket {ecc : Bool} {l : LinkId} (hs : onTrack s) (hf : s.cur.fault = none) (hl : linkOf s.cfg s.cur.pc = some l) :
    straight (openPacket fin (checkMarker is (beforePacket ecc s))) := by
  have hb : keepsPath (openStep s) (checkMarker is (beforePacket ecc s)) :=
    keepsPath_trans (raiseIf_keepsPath ecc .eccDoubleBit (openStep s)) (checkMarker_keepsPath is _)
  obtain ⟨hpre, hcfg, -⟩ : keepsContext (openStep s) (checkMarker is (beforePacket ecc s)) :=
    keepsContext_trans (raiseIf_keepsContext ecc .eccDoubleBit (openStep s)) (checkMarker_keepsContext is _)
  generalize checkMarker is (beforePacket ecc s) = v at hb hpre hcfg
  obtain ⟨-, hp, hk, hlk, -⟩ := pathOf_eq hb.1
  obtain ⟨hon, hpd⟩ := hs hf
  have hcl : (openStep s).cur.ists.currlink = l := by simp [openStep, currLink, hl]
  refine ⟨fun _ => ⟨fun n => ?_, fun _ => ?_, fun p hq => ?_⟩, rfl, ?_, ?_⟩
  · simp [openPacket, PacketCtx.empty] at n
  · change v.cur.ists.currsp = stackOf v.cfg v.cur.ists.currlink
    rw [hk, hcfg, hlk, hcl]
    exact hon l hl
  · change onStack v.cfg p.target (lateStack p.late v.cur.ists.currsp)
    rw [hk, hcfg]
    exact hpd p (hp.symm.trans hq)
  · change v.cur.pending = v.pre.pending
    rw [hp, hpre]
    rfl
  · change v.cur.ists.currlink = v.pre.ists.currlink
    rw [hlk, hpre]
    rfl

theorem onTrack_faultedBefore (h : faultedBefore s t) : onTrack t ∧ t.dbg = s.dbg := by
  obtain ⟨u, hk, -, hf, rfl⟩ := h
  obtain ⟨-, -, -, -, -, -, hd⟩ := pathOf_eq hk.1
  exact ⟨onTrack_commit fun n => (hf n).elim, by rw [commit_dbg, hd]⟩

/-- A packet before which EMUSTOP0 has halted leaves the state as it was opened (R296). -/
theorem closePacket_of_halted (h : closePacket (stickyLate is (scrambleLate is s)) = .next t) (hh : s.pkt.halted = true) : t = commit s := by
  have hs : stickyLate is (scrambleLate is s) = s := by
    rw [show scrambleLate is s = s by simp [scrambleLate, hh]]
    exact stickyLate_of_no_write is s (.inr hh)
  rw [hs] at h
  obtain ⟨-, e⟩ | ⟨n, -⟩ := closePacket_cases h
  · exact e
  · simp [hh] at n

/-- The instructions of an accepted packet, from its opening: a halt stands in no delay slot. -/
theorem execAll_openPacket (hs : straight (openPacket fin (checkMarker is s))) (hp : s.cur.pending = s.pre.pending)
    (hr : packetRefusal is s = none) (h : execAll (arrange is) (openPacket fin (checkMarker is s)) = .next t) :
    afterInstrs (arrange is) (openPacket fin (checkMarker is s)) t ∧ (.emustop0 ∈ arrange is → s.pre.pending = none) := by
  obtain ⟨hdst, hpend⟩ := packetRefusal_none hr
  obtain ⟨hpre, -⟩ := checkMarker_keepsContext is s
  have hmem : ∀ i, i ∈ arrange is ↔ i ∈ is := fun i => (arrange_perm is).mem_iff
  have htr : ∀ i, transfers i (openPacket fin (checkMarker is s)) = transfers i s := fun i => transfers_congr hpre
  refine ⟨execAll_course h hs rfl ?_ fun n i hi => ?_, fun he => ?_⟩
  · simp only [htr]
    exact ((arrange_perm is).countP_eq _).trans_le (countP_transfers_le hdst)
  · obtain ⟨hdisc, -⟩ := hpend (hp ▸ hpre ▸ n)
    simp [transfers, List.any_eq_false.1 hdisc i ((hmem i).1 hi)]
  · by_contra n
    exact (hpend (hp ▸ n)).2 ((hmem _).1 he)

/-- A packet that EMUSTOP0 has halted is not executed: the state is that before it (R296). -/
theorem onTrack_of_halted (h : closePacket (stickyLate is (scrambleLate is u)) = .next t) (hh : u.pkt.halted = true)
    (hc : u.cur = (openStep s).cur) (hcfg : u.cfg = s.cfg) (hs : onTrack s) (hf : s.cur.fault = none) :
    onTrack t ∧ t.cur.pending = s.cur.pending := by
  rw [closePacket_of_halted h hh, commit_of_no_fault u (by rw [hc]; exact hf)]
  refine ⟨?_, by rw [hc]; rfl⟩
  simp only [onTrack, hc, hcfg]
  exact hs

/-- A packet that has run leaves CURRSP on the STACK of what follows. -/
theorem onTrack_of_ran (h : closePacket (stickyLate is (scrambleLate is u)) = .next t) (hh : u.pkt.halted = false)
    (hu : straight u ∨ (u.pre.pending = none ∧ onCourse u)) : onTrack t ∧ t.dbg = u.dbg := by
  have hk := keepsPath_trans (scrambleLate_keepsPath is u) (stickyLate_keepsPath is (scrambleLate is u))
  obtain ⟨-, -, -, -, -, hh', hd⟩ := pathOf_eq hk.1
  have hpre : (stickyLate is (scrambleLate is u)).pre = u.pre := by simp
  have hcfg : (stickyLate is (scrambleLate is u)).cfg = u.cfg := by simp
  obtain ⟨h1, h2⟩ := onTrack_closePacket h (hh'.trans hh)
    (hu.imp (straight_of_keepsPath hk hpre hcfg) fun ⟨hp, ho⟩ => ⟨by rw [hpre, hp], onCourse_of_keepsPath hk hcfg ho⟩)
  exact ⟨h1, h2.trans hd⟩

@[simp] theorem beforePacket_cfg (ecc : Bool) (s : State) : (beforePacket ecc s).cfg = s.cfg := by cases ecc <;> simp [beforePacket]

@[simp] theorem beforePacket_dbg (ecc : Bool) (s : State) : (beforePacket ecc s).dbg = s.dbg := by
  cases ecc <;> simp [beforePacket, openStep]

@[simp] theorem beforePacket_pre (ecc : Bool) (s : State) : (beforePacket ecc s).pre = (openStep s).cur := by
  cases ecc <;> simp [beforePacket, openStep]

@[simp] theorem beforePacket_pending (ecc : Bool) (s : State) : (beforePacket ecc s).cur.pending = s.cur.pending := by
  cases ecc <;> simp [beforePacket, openStep]

theorem onTrack_runPacket {ecc : Bool} (h : runPacket ecc s = .next t) (hs : onTrack s) (hf : s.cur.fault = none) (hd : ¬ held s) :
    onTrack t ∧ (held t → t.cur.pending = none) := by
  have hnot : t.dbg = s.dbg → held t → t.cur.pending = none := fun e n => (hd (by rwa [held, e] at n)).elim
  obtain g | ⟨is, fin, -, hform, hrun⟩ := runPacket_cases h
  · obtain ⟨h1, h2⟩ := onTrack_faultedBefore g
    exact ⟨h1, hnot (by simpa using h2)⟩
  · obtain g | ⟨u, hr, hu, ht⟩ := runFormed_cases hrun
    · obtain ⟨h1, h2⟩ := onTrack_faultedBefore g
      exact ⟨h1, hnot (by simpa using h2)⟩
    · obtain ⟨l, hl⟩ := Option.ne_none_iff_exists'.1 (linkOf_of_formPacket hform)
      have hst : straight (openPacket fin (checkMarker is (beforePacket ecc s))) := straight_openPacket hs hf (by simpa using hl)
      obtain ⟨ha, he⟩ := execAll_openPacket hst (by simp [openStep]) hr hu
      obtain ⟨hpre, hcfg, -⟩ := execAll_keepsContext hu
      obtain ⟨hmp, -⟩ := checkMarker_keepsContext is (beforePacket ecc s)
      have hpre : u.pre = (openStep s).cur := hpre.trans (hmp.trans (beforePacket_pre ecc s))
      have hcfg : u.cfg = s.cfg := hcfg.trans (by simp [openPacket])
      obtain ⟨hemu, hc, hh⟩ | ⟨hh, hdbg, hs'⟩ := ha
      · obtain ⟨h1, h2⟩ := onTrack_of_halted ht hh (hc.trans hpre) hcfg hs hf
        have hp : s.cur.pending = none := by simpa [openStep] using he hemu
        exact ⟨h1, fun _ => h2.trans hp⟩
      · obtain ⟨h1, h2⟩ := onTrack_of_ran ht hh hs'
        exact ⟨h1, hnot (h2.trans (hdbg.trans (by simp [openPacket])))⟩

theorem onTrack_boundary (h : BoundaryDoes s t) (hs : onTrack s) (hf : s.cur.fault = none) (hd : ¬ held s) :
    onTrack t ∧ (held t → t.cur.pending = none) := by
  cases h with
  | wait e => exact ⟨e ▸ hs, fun n => (hd (by rw [e] at n; exact n)).elim⟩
  | packet ecc h => exact onTrack_runPacket h hs hf hd
  | realtime nmi vector prio u hb hu h =>
    obtain ⟨v, hk, -, hcfg, rfl⟩ := realtimeEntry_end h
    obtain ⟨-, hpc, hp, hst, -, hc, hdbg⟩ := enterRealtime_flow hu
    obtain ⟨e1, e2, e3, -, -, -, e7⟩ := pathOf_eq hk.1
    refine ⟨onTrack_commit fun _ => ⟨?_, fun p hq => ?_⟩, fun n => (hd ?_).elim⟩
    · rw [e1, e3, hpc, hst, hcfg, hc]
      exact onStack_stackAt _ _ _
    · rw [e2, hp] at hq
      exact absurd hq (by simp [openStep, pending_of_not_blocked hb])
    · rwa [held, commit_dbg, e7, hdbg] at n
  | int q u hb hu h =>
    obtain ⟨-, hpc, hp, hst, -, hc, hdbg, hon⟩ := enterInt_flow hu
    subst h
    refine ⟨onTrack_commit fun hn => ⟨?_, fun p hq => ?_⟩, fun n => (hd ?_).elim⟩
    · rw [hpc, hst, hc]
      exact hon hn
    · rw [hp] at hq
      exact absurd hq (by simp [openStep, pending_of_not_blocked hb])
    · rwa [held, commit_dbg, hdbg] at n

theorem onTrack_takeReset (hw : s.cfg.wf = true) : onTrack (takeReset s) ∧ (takeReset s).cur.pending = none := by
  have hr : onStack s.cfg s.cfg.resetPc 0 := by
    intro l hl
    obtain ⟨r, hr, rfl⟩ := Option.map_eq_some_iff.1 hl
    simp only [Params.wf, Bool.and_eq_true] at hw
    obtain ⟨-, hw⟩ := hw
    simp only [hr, decide_eq_true_eq] at hw
    exact hw.symm
  obtain e | ⟨t, -, e, -⟩ := takeReset_cases s <;> rw [onTrack, e] <;> exact ⟨fun _ => ⟨hr, fun p h => by cases h⟩, rfl⟩

theorem stackFollowsLink_deliver (h : stackFollowsLink s) : stackFollowsLink (deliver s) := by
  refine deliver_induction (fun _ => Iff.rfl) (fun e s _ hs => ?_) h
  rw [stackFollowsLink_iff] at hs ⊢
  obtain ⟨ht, hh⟩ := hs
  obtain ⟨e1, e2, e3, e4, e5⟩ | ⟨v, hm, hv, g⟩ := applyEvent_place e s
  · rw [onTrack, e1, e2, e3, e4, applyEvent_cfg]
    exact ⟨ht, fun n => hh (e5 n)⟩
  · have hp := hh (.inl hm)
    rw [g]
    exact ⟨fun _ => ⟨onStack_stackAt _ _ _, fun p hq => by cases hp.symm.trans hq⟩, fun _ => hp⟩

/-- Settles O36: a packet jumps at most once, an entry and a reset set CURRSP with the program counter, and so does the debugger. -/
theorem stepKeepsStackOfLink : Obligations.StepKeepsStackOfLink := by
  unfold Obligations.StepKeepsStackOfLink
  intro s t hs h
  have hd := stackFollowsLink_deliver hs
  rw [stackFollowsLink_iff] at hd ⊢
  obtain ⟨ht, hh⟩ := hd
  cases step_does h with
  | reset hw e =>
    obtain ⟨h1, h2⟩ := onTrack_takeReset hw
    exact e ▸ ⟨h1, fun _ => h2⟩
  | wait e => exact e ▸ ⟨ht, hh⟩
  | halt hb e => exact e ▸ ⟨ht, fun _ => pending_of_not_blocked hb⟩
  | boundary hf hnd u hu e =>
    obtain ⟨hut, hup⟩ := onTrack_boundary hu ht hf hnd
    obtain g | ⟨hb, g⟩ := afterStep_cases u <;> rw [e, g]
    · exact ⟨hut, hup⟩
    · exact ⟨hut, fun _ => pending_of_not_blocked hb⟩

end Sys2Proof.Proofs
end

section
/-! PROOFS. What the environment's events write, and the state after reset: O5, O12, O32. -/

namespace Sys2Proof.Proofs

open Sys2Proof.Machine Sys2Proof.Laws

variable {s : State}

/-! ### A batch of events -/

theorem applyEvents_append (es fs : List Event) (s : State) : applyEvents (es ++ fs) s = applyEvents fs (applyEvents es s) := by
  induction es generalizing s with
  | nil => rfl
  | cons e es ih => exact ih _

/-- Outside the FAULT state the whole batch is applied (R500). -/
theorem deliver_of_no_fault (hf : s.cur.fault = none) : deliver s = applyEvents (nextBatch s) { s with inputs := s.inputs.tail } := by
  simp [deliver, hf]

/-- In the FAULT state nothing is applied (R500). -/
theorem deliver_of_fault (hf : s.cur.fault ≠ none) : (deliver s).cur = s.cur := by
  obtain ⟨c, hc⟩ := Option.ne_none_iff_exists'.1 hf
  simp [deliver, hc]

/-- The last event of a batch acts on a state of the same configuration. -/
theorem deliver_last {es : List Event} {e : Event} (hf : s.cur.fault = none) (hb : nextBatch s = es ++ [e]) :
    ∃ u, deliver s = applyEvent e u ∧ u.cfg = s.cfg :=
  ⟨applyEvents es { s with inputs := s.inputs.tail }, by rw [deliver_of_no_fault hf, hb, applyEvents_append]; rfl, by simp⟩

/-- An event that is alone acts on the state as it is. -/
theorem deliver_single {e : Event} (hf : s.cur.fault = none) (hb : nextBatch s = [e]) :
    deliver s = applyEvent e { s with inputs := s.inputs.tail } := by
  rw [deliver_of_no_fault hf, hb]
  rfl

/-! ### Registers and bytes that events write -/

/-- A byte on the bus goes to memory that is mapped and no peripheral (R142). -/
theorem busWrite_of_region {a : Word} {k : RegionKind} (v : Byte) (s : State) (h : regionOf s.cfg a = some k) (hk : k ≠ .peripheral) :
    busWrite a v s = { s with cur := { s.cur with mem := s.cur.mem.put a.toNat v } } := by
  simp only [busWrite, h]

/-- A byte on the bus leaves an address that is unmapped or in a peripheral (R142). -/
theorem busWrite_of_no_memory {a : Word} (v : Byte) (s : State) (h : regionOf s.cfg a = none ∨ regionOf s.cfg a = some .peripheral) :
    (busWrite a v s).cur = s.cur := by
  rcases h with h | h <;> simp [busWrite, h]

/-- A byte on the bus changes that byte at most. -/
theorem busWrite_frame (a : Word) (v : Byte) (s : State) :
    (busWrite a v s).cur = { s.cur with mem := (busWrite a v s).cur.mem } ∧ keepsMemoryBut a 1 s (busWrite a v s) := by
  unfold busWrite
  split
  · exact ⟨rfl, fun _ _ => rfl⟩
  · exact ⟨rfl, fun _ _ => rfl⟩
  · refine ⟨rfl, fun b hb => ?_⟩
    have ha := Nat.mod_eq_of_lt a.isLt
    rw [← ha]
    refine memByte_put_other s.cur.mem a.toNat b v fun e => hb ?_
    exact (mem_byteAddrs _ _ _).2 ⟨0, Nat.one_pos, e⟩

/-- Settles O12: each event is one assignment, which nothing after the last event undoes. -/
theorem eventsWriteStackRegistersAndMemory : Obligations.EventsWriteStackRegistersAndMemory := by
  unfold Obligations.EventsWriteStackRegistersAndMemory
  intro s es hf
  refine ⟨fun i v => ⟨fun h => ?_, fun h => ?_⟩, fun n => ⟨fun h => ?_, fun h => ?_, fun h => ?_, fun h => ?_⟩,
    fun v => ⟨fun h => ?_, fun h => ?_⟩, fun a v => ⟨fun h k hk hp => ?_, fun h => ?_⟩⟩
  · obtain ⟨u, e, -⟩ := deliver_last hf h
    rw [e]
    exact Vector.getElem_set_self _
  · rw [deliver_single hf h]
    exact ⟨rfl, fun j hj => Vector.getElem_set_ne i.isLt j.isLt fun e => hj (Fin.ext e.symm)⟩
  · obtain ⟨u, e, -⟩ := deliver_last hf h
    rw [e]; rfl
  · rw [deliver_single hf h]; rfl
  · obtain ⟨u, e, -⟩ := deliver_last hf h
    rw [e]; rfl
  · rw [deliver_single hf h]; rfl
  · obtain ⟨u, e, -⟩ := deliver_last hf h
    rw [e]; rfl
  · rw [deliver_single hf h]; rfl
  · obtain ⟨u, e, hc⟩ := deliver_last hf h
    rw [e, applyEvent, busWrite_of_region v u (hc ▸ hk) hp]
    have ha := Nat.mod_eq_of_lt a.isLt
    simpa [ha] using memByte_put_same u.cur.mem a.toNat v
  · rw [deliver_single hf h]
    exact ⟨fun hr => busWrite_of_no_memory v { s with inputs := s.inputs.tail } hr, (busWrite_frame a v _).2, (busWrite_frame a v _).1⟩

/-! ### Latches -/

/-- The latches and their flags, from those of `s` and the requests of a batch (R52, R101, R520). -/
def latched (es : List Event) (s t : State) : Prop :=
  t.cur.nmiPending = (s.cur.nmiPending || es.contains .nmi)
    ∧ t.cur.ists.nmif = (s.cur.ists.nmif || es.contains .nmi)
    ∧ t.cur.rtintPending = s.cur.rtintPending.or (firstRtint es)
    ∧ t.cur.ists.rtintf = (s.cur.ists.rtintf || (firstRtint es).isSome)
    ∧ t.cur.intPending = s.cur.intPending.or (firstInt es)
    ∧ t.cur.ists.intf = (s.cur.ists.intf || (firstInt es).isSome)

/-- The latches and their flags are as they were. -/
def keepsLines (s t : State) : Prop :=
  keepsLatches s t ∧ t.cur.ists.nmif = s.cur.ists.nmif ∧ t.cur.ists.rtintf = s.cur.ists.rtintf ∧ t.cur.ists.intf = s.cur.ists.intf

theorem keepsLines_refl (s : State) : keepsLines s s := ⟨⟨rfl, rfl, rfl⟩, rfl, rfl, rfl⟩

theorem busWrite_keepsLines (a : Word) (v : Byte) (s : State) : keepsLines s (busWrite a v s) := by
  unfold busWrite
  split <;> exact keepsLines_refl s

theorem dbgCommand_keepsLines (m : DebugMode) (s : State) : keepsLines s (dbgCommand m s) := by
  unfold dbgCommand
  split <;> exact keepsLines_refl s

theorem dbgWriteReg_keepsLines (r : DebugReg) (v : Word) (s : State) : keepsLines s (dbgWriteReg r v s) := by
  cases r with
  | reg x => cases x <;> exact keepsLines_refl s
  | rpc => exact keepsLines_refl s
  | status q => cases q <;> exact keepsLines_refl s
  | pc => unfold dbgWriteReg; simp only; split <;> exact keepsLines_refl s

theorem dbgAccess_keepsLines {a : Option Word} {f : State → State} (hf : keepsLines s (f s)) : keepsLines s (dbgAccess a f s) := by
  obtain e | e | ⟨-, -, -, e⟩ := dbgAccess_cases a f s <;> rw [e]
  · exact keepsLines_refl s
  · exact keepsLines_refl s
  · exact hf

/-- An event that asserts no line leaves the latches as they were. -/
theorem latched_of_keepsLines {e : Event} {t : State} (h : keepsLines s t) (hn : e ≠ .nmi) (hr : firstRtint [e] = none)
    (hi : firstInt [e] = none) : latched [e] s t := by
  obtain ⟨⟨h1, h2, h3⟩, h4, h5, h6⟩ := h
  simp [latched, h1, h2, h3, h4, h5, h6, hr, hi, Ne.symm hn]

/-- One event sets the latch and the flag of the line it asserts, and no other. -/
theorem applyEvent_latched (e : Event) (s : State) : latched [e] s (applyEvent e s) := by
  cases e with
  | nmi => simp [latched, applyEvent, latchNmi, firstRtint, firstInt]
  | rtint v p => cases hl : s.cur.rtintPending <;> simp [latched, applyEvent, latchRtint, firstRtint, firstInt, hl]
  | int v p b => cases hl : s.cur.intPending <;> simp [latched, applyEvent, latchInt, firstRtint, firstInt, hl]
  | busWrite a v => exact latched_of_keepsLines (busWrite_keepsLines a v s) (by simp) rfl rfl
  | dbgHalt =>
    refine latched_of_keepsLines ?_ (by simp) rfl rfl
    obtain e | ⟨-, e⟩ := requestHalt_cases s <;> simp only [applyEvent, e] <;> exact keepsLines_refl s
  | dbgRun | dbgFreeRun | dbgStep | dbgSyncRun | dbgSync =>
    refine latched_of_keepsLines ?_ (by simp) rfl rfl
    simp only [applyEvent]
    split
    · exact dbgCommand_keepsLines _ s
    · exact keepsLines_refl s
  | dbgWrite r v => exact latched_of_keepsLines (dbgAccess_keepsLines (dbgWriteReg_keepsLines r v s)) (by simp) rfl rfl
  | dbgWriteMem a v => exact latched_of_keepsLines (dbgAccess_keepsLines (busWrite_keepsLines a v s)) (by simp) rfl rfl
  | _ => exact latched_of_keepsLines (keepsLines_refl s) (by simp) rfl rfl

theorem firstRtint_cons (e : Event) (es : List Event) : firstRtint (e :: es) = (firstRtint [e]).or (firstRtint es) := by
  cases e <;> simp [firstRtint]

theorem firstInt_cons (e : Event) (es : List Event) : firstInt (e :: es) = (firstInt [e]).or (firstInt es) := by
  cases e <;> simp [firstInt]

/-- The first request stays: a later event fills only what is still empty (R101). -/
theorem latched_cons {e : Event} {es : List Event} {t u : State} (h : latched [e] s t) (g : latched es t u) : latched (e :: es) s u := by
  obtain ⟨h1, h2, h3, h4, h5, h6⟩ := h
  obtain ⟨g1, g2, g3, g4, g5, g6⟩ := g
  have hc : (e :: es).contains .nmi = ([e].contains .nmi || es.contains .nmi) := by simp
  simp only [latched, g1, g2, g3, g4, g5, g6, h1, h2, h3, h4, h5, h6, hc, firstRtint_cons e es, firstInt_cons e es, Bool.or_assoc,
    Option.or_assoc, Option.isSome_or, and_self]

theorem applyEvents_latched (es : List Event) (s : State) : latched es s (applyEvents es s) := by
  induction es generalizing s with
  | nil => simp [latched, applyEvents, firstRtint, firstInt]
  | cons e es ih => exact latched_cons (applyEvent_latched e s) (ih _)

/-- Settles O32, by induction on the batch. -/
theorem eventsSetLatches : Obligations.EventsSetLatches := by
  unfold Obligations.EventsSetLatches
  intro s
  refine ⟨fun hf => ?_, deliver_of_fault⟩
  rw [deliver_of_no_fault hf]
  exact applyEvents_latched (nextBatch s) { s with inputs := s.inputs.tail }

/-! ### Reset -/

/-- Settles O5: the reset state is written out, and its code is all on STACK 0. -/
theorem resetState : Obligations.ResetState := by
  unfold Obligations.ResetState
  have hstack : onTrack State.reset := by
    refine fun _ => ⟨fun l _ => ?_, fun p h => by cases h⟩
    exact (Vector.getElem_replicate l.isLt).symm
  refine ⟨by decide, by decide, by decide, by decide, by decide, by decide, rfl, rfl, rfl, rfl, rfl, rfl, rfl, rfl,
    ⟨rfl, fun p h => (by cases h), rfl⟩, rfl, rfl, Nat.zero_le _, Nat.zero_le _, by decide, (stackFollowsLink_iff _).2 ⟨hstack, fun _ => rfl⟩⟩

end Sys2Proof.Proofs
end

section
/-! PROOFS. What stops a packet before it runs or at the top of memory: O21. -/

namespace Sys2Proof.Proofs

open Sys2Proof.Machine Sys2Proof.Laws

variable {s t u : State} {is : List Instr} {fin : Nat}

/-! ### Words -/

/-- A word that is in order hands on to the next. -/
theorem fetchable_succ_of_wordOk {a n : Nat} (h : wordOk a s) : fetchable a (n + 1) s = fetchable (a + 2) n s := by
  obtain ⟨htop, hlink, hmap, h0, h1⟩ := h
  simp [fetchable, Nat.not_lt.2 htop, hlink, hmap, h0, h1]

/-- After words that are in order the next decides. -/
theorem fetchable_add {a j n : Nat} (h : ∀ i < j, wordOk (a + 2 * i) s) : fetchable a (j + n) s = fetchable (a + 2 * j) n s := by
  induction j generalizing a with
  | zero => simp
  | succ j ih =>
    have h0 : wordOk a s := by simpa using h 0 j.succ_pos
    have hr : ∀ i < j, wordOk (a + 2 + 2 * i) s := fun i hi => by
      rw [show a + 2 + 2 * i = a + 2 * (i + 1) by omega]
      exact h (i + 1) (by omega)
    rw [show j + 1 + n = j + n + 1 by omega, fetchable_succ_of_wordOk h0, ih hr, show a + 2 + 2 * j = a + 2 * (j + 1) by omega]

theorem fetchable_pastTop {a n : Nat} (h : 4294967296 < a + 2) : fetchable a (n + 1) s = .refused .pastTop := by simp [fetchable, h]

section Word

variable {a n : Nat} (htop : a + 2 ≤ 4294967296)
include htop

theorem fetchable_denied (hl : linkOf s.cfg (BitVec.ofNat 32 a) = none) : fetchable a (n + 1) s = .next (some a) := by
  simp [fetchable, Nat.not_lt.2 htop, hl]

variable {l : LinkId} (hl : linkOf s.cfg (BitVec.ofNat 32 a) = some l)
include hl

theorem fetchable_unmapped (hm : regionOf s.cfg (BitVec.ofNat 32 a) = none) : fetchable a (n + 1) s = .fault (.unmapped a) := by
  simp [fetchable, Nat.not_lt.2 htop, hl, hm]

theorem fetchable_stored {k : RegionKind} (hm : regionOf s.cfg (BitVec.ofNat 32 a) = some k) (hs : a ∈ s.cur.stored ∨ a + 1 ∈ s.cur.stored) :
    fetchable a (n + 1) s = .refused (.storedCode a) := by
  simp [fetchable, Nat.not_lt.2 htop, hl, hm, hs]

end Word

/-! ### Formation -/

/-- What stops the fetch of the first word stops the formation. -/
theorem formPacket_of_first_refused {fuel a bits : Nat} {e : Refusal} (h : fetchable a 1 s = .refused e) :
    formPacket (fuel + 1) a bits s = .refused e := by
  simp [formPacket, h]

/-- The words of an instruction that is not too long decide next. -/
theorem formPacket_of_first {fuel a bits n : Nat} (hn : n = sizeWords (codeWord s.cur.mem a)) (h : fetchable a 1 s = .next none)
    (hb : bits + 16 * n ≤ 128) :
    (∀ e, fetchable a n s = .refused e → formPacket (fuel + 1) a bits s = .refused e)
      ∧ (fetchable a n s = .next none → decode (codeBytes s.cur.mem a n) = .error .stackPointer →
        formPacket (fuel + 1) a bits s = .refused .spOperand) := by
  subst hn
  exact ⟨fun e he => by simp [formPacket, h, ifFetched, Nat.not_lt.2 hb, he],
    fun hf hd => by simp [formPacket, h, ifFetched, Nat.not_lt.2 hb, hf, hd]⟩

/-! ### The step -/

theorem step_of_bad_configuration (h : s.cfg.wf = false) : step s = .refused .configuration := by simp [step, stepAfter, h]

/-- The step of a running CPU that executes the packet at the program counter. -/
theorem step_eq_runPacket (hr : running s) (hc : choose s.cur = .packet) (hi : s.cur.idle = false) : step s = runPacket false s := by
  rw [step_of_running hr hc, hi, if_neg Bool.false_ne_true]

theorem runPacket_odd (hf : s.cur.fault = none) (ho : s.cur.pc.toNat % 2 = 1) : runPacket false s = .refused (.oddPc s.cur.pc.toNat) := by
  simp [runPacket, ho, unlessFaulted, openStep, hf]

theorem runPacket_refused {e : Refusal} (hf : s.cur.fault = none) (he : s.cur.pc.toNat % 2 = 0)
    (h : formPacket 8 s.cur.pc.toNat 0 (openStep s) = .refused e) : runPacket false s = .refused e := by
  have hn : (openStep s).cur.fault = none := hf
  simp [runPacket, he, h, unlessFaulted, hn]

theorem runPacket_fault {e : Fault} (hf : s.cur.fault = none) (he : s.cur.pc.toNat % 2 = 0)
    (h : formPacket 8 s.cur.pc.toNat 0 (openStep s) = .fault e) : runPacket false s = .fault e := by
  have hn : (openStep s).cur.fault = none := hf
  simp [runPacket, he, h, unlessFaulted, hn]

@[simp] theorem scrambleLate_pkt (is : List Instr) (s : State) : (scrambleLate is s).pkt = s.pkt := by
  unfold scrambleLate; split <;> rfl

@[simp] theorem scrambleLate_fault (is : List Instr) (s : State) : (scrambleLate is s).cur.fault = s.cur.fault := by
  unfold scrambleLate; split <;> rfl

@[simp] theorem stickyLate_pkt (is : List Instr) (s : State) : (stickyLate is s).pkt = s.pkt := by
  obtain ⟨_, _, _, _, _, e, -⟩ := stickyLate_cases is s
  rw [e]

@[simp] theorem stickyLate_fault (is : List Instr) (s : State) : (stickyLate is s).cur.fault = s.cur.fault := by
  obtain ⟨_, _, _, _, _, e, -⟩ := stickyLate_cases is s
  rw [e]

/-- A packet at the top of memory that runs on is refused (R42). -/
theorem closePacket_of_wraps (hh : s.pkt.halted = false) (hw : s.pkt.wraps = true) (hj : s.pkt.jumped = false) (hf : s.cur.fault = none)
    (hp : ∀ p, s.pre.pending = some p → 1 < p.remaining) : closePacket s = .refused .pastTop := by
  have hd : (countDelay s).cur.fault = none ∧ (countDelay s).pkt = s.pkt := by
    obtain ⟨-, e⟩ | ⟨p, h, hle, -⟩ | ⟨p, -, -, e⟩ := countDelay_cases s
    · rw [e]; exact ⟨hf, rfl⟩
    · exact absurd (hp p h) (by omega)
    · rw [e]; exact ⟨hf, rfl⟩
  obtain ⟨k, e⟩ := countAtomic_eq (countDelay s)
  simp [closePacket, hh, e, hd, hj, hw]

/-- Settles O21: the first word that is not in order decides, and so on up to the end of the packet. -/
theorem fetchAndFormationStops : Obligations.FetchAndFormationStops := by
  unfold Obligations.FetchAndFormationStops
  refine ⟨fun s => step_of_bad_configuration, fun s hr hc hi => ?_, fun s a n => ⟨fun h => ?_, fun j hj h => ?_⟩,
    fun s fuel a bits n e hn => ⟨formPacket_of_first_refused, fun h hb => ?_⟩, fun s u is hr hx hf hh hj hp => ?_⟩
  · obtain ⟨-, -, hf, -⟩ := id hr
    rw [step_eq_runPacket hr hc hi]
    exact ⟨runPacket_odd hf, fun he => ⟨fun e => runPacket_refused hf he, fun e => runPacket_fault hf he⟩⟩
  · exact fetchable_add (n := 0) h
  · obtain ⟨m, rfl⟩ : ∃ m, n = j + (m + 1) := ⟨n - j - 1, by omega⟩
    rw [fetchable_add h]
    exact ⟨fetchable_pastTop, fun ht => ⟨fetchable_denied ht, fun l hl => ⟨fetchable_unmapped ht hl, fun k => fetchable_stored ht hl⟩⟩⟩
  · obtain ⟨h1, h2⟩ := formPacket_of_first (fuel := fuel) hn h hb
    exact ⟨h1 e, h2⟩
  · obtain ⟨hpre, -, -, -, hw⟩ := execAll_keepsContext hx
    rw [step_of_runsPacket hr, hx, andThen_next]
    refine closePacket_of_wraps ?_ ?_ ?_ ?_ ?_
    · simpa using hh
    · simpa [openPacket] using hw
    · simpa using hj
    · simpa using hf
    · intro p h
      rw [stickyLate_pre, scrambleLate_pre, hpre] at h
      exact hp p h

end Sys2Proof.Proofs
end

section
/-! PROOFS. Transfers that may not be: to another STACK a fault, to an odd address or without their frame a refusal: O38, O46. -/

namespace Sys2Proof.Proofs

open Sys2Proof.Machine Sys2Proof.Laws

variable {s t u : State} {c : Cause}

/-! ### Taken branches and calls by register -/

theorem exec_branch_of_holds {tgt : BrTarget} {k : Cond} (delay : Fin 8) (h : condHolds k s.pre.dsts s.pre.ests = true) :
    exec (.branch tgt k delay) s = branchTo (brTarget tgt s) delay s := if_pos h

theorem exec_bcmpz_of_holds {x : Fin 16} {d : DCond} (target : Word) (delay : Fin 8) (h : bcmpzHolds d s.pre.d[x] s.pre.ests = true) :
    exec (.bcmpz target d x delay) s = branchTo target delay (bcmpzFlags (readD x s) s) := if_pos h

theorem exec_callReg {x : Fin 16} {target : Word} (delay : Fin 8) (h : s.pre.a[x] = target) : exec (.callReg x delay) s = callTo target delay s :=
  congrArg (callTo · delay s) h

theorem exec_callProtReg {x : Fin 16} {target : Word} (h : s.pre.a[x] = target) : exec (.callProtReg x) s = callProt target s :=
  congrArg (callProt · s) h

/-! ### In the FAULT state every access and every jump answers -/

theorem jumpTo_raises {delay : Fin 8} {late : Late} {target : Word} (h : s.cur.fault = some c) : RaisesIn (jumpTo delay late target s) c := by
  have hs : ∀ r, stopUnlessFaulted r s = .next s := fun r => by simp [stopUnlessFaulted, h]
  unfold jumpTo
  split_ifs
  · exact ⟨s, hs _, h⟩
  · exact ⟨_, rfl, h⟩
  · exact ⟨_, rfl, h⟩

/-- A fault already raised stays through what touches memory only. -/
theorem fault_of_memoryOnly (h : memoryOnly s t) (hf : s.cur.fault = some c) : t.cur.fault = some c := by
  obtain ⟨-, hk, -⟩ := h
  rw [hk (by simp [hf]), hf]

theorem memRead_raises (a : Word) (n : Nat) (h : s.cur.fault = some c) : ∃ v t, memRead a n s = .next (v, t) ∧ t.cur.fault = some c := by
  obtain ⟨v, t, e⟩ : ∃ v t, memRead a n s = .next (v, t) := by
    simp only [memRead, h]
    repeat' split
    all_goals exact ⟨_, _, rfl⟩
  obtain ⟨-, hk, -⟩ := memRead_next a n s v t e
  exact ⟨v, t, e, by rw [hk (by simp [h]), h]⟩

theorem memWrite_raises (a : Word) (n : Nat) (v : DWord) (h : s.cur.fault = some c) :
    ∃ t, memWrite a n v s = .next t ∧ t.cur.fault = some c := by
  obtain ⟨t, e⟩ : ∃ t, memWrite a n v s = .next t := by
    simp only [memWrite, h]
    repeat' split
    all_goals exact ⟨_, rfl⟩
  exact ⟨t, e, fault_of_memoryOnly (memWrite_memoryOnly a n v s t e) h⟩

theorem scribble_raises (a : Word) (n : Nat) (h : s.cur.fault = some c) : ∃ t, scribble a n s = .next t ∧ t.cur.fault = some c := by
  obtain ⟨t, e⟩ : ∃ t, scribble a n s = .next t := by
    induction n generalizing a s with
    | zero => exact ⟨s, rfl⟩
    | succ n ih =>
      simp only [scribble, h]
      split
      · exact ⟨_, rfl⟩
      · split
        · exact ⟨_, rfl⟩
        · exact ih _ h
        · exact ih _ h
  exact ⟨t, e, fault_of_memoryOnly (scribble_memoryOnly a n s t e) h⟩

theorem pushFrame_raises (sp : Word) (n : Nat) (v : Word) (h : s.cur.fault = some c) :
    ∃ t, pushFrame sp n v s = .next t ∧ t.cur.fault = some c := by
  obtain ⟨u, e, hu⟩ := memWrite_raises sp 4 (v.setWidth 64) h
  simp only [pushFrame, e, andThen_next]
  split
  · exact scribble_raises _ _ hu
  · exact ⟨u, rfl, hu⟩

/-! ### Transfers to another STACK -/

section CrossStack

variable {target : Word} {l : LinkId} (hf : s.cur.fault = none) (hl : linkOf s.cfg target = some l)
  (hk : stackOf s.cfg l ≠ stackOf s.cfg s.pre.ists.currlink)
include hf hl hk

theorem checkTransfer_raises : (checkTransfer target s).cur.fault = some .crossStackTransfer := by
  simp [checkTransfer, hl, raiseIf, hk, raise_cur_fault, hf]

theorem branchTo_crossStack (delay : Fin 8) : RaisesIn (branchTo target delay s) .crossStackTransfer :=
  jumpTo_raises (checkTransfer_raises hf hl hk)

theorem callTo_crossStack (delay : Fin 8) (ha : s.pre.a[15].toNat % 8 = 0) : RaisesIn (callTo target delay s) .crossStackTransfer := by
  obtain ⟨u, hu, hfu⟩ := pushFrame_raises (readSp s) 8 s.pre.rpc (checkTransfer_raises hf hl hk)
  simp only [callTo, checkSp_of_aligned s ha, hu, andThen_next]
  refine jumpTo_raises ?_
  split <;> exact hfu

theorem returnTo_crossStack (delay : Fin 8) (ha : s.pre.a[15].toNat % 8 = 0) (hr : s.pre.rpc = target) :
    RaisesIn (returnTo delay s) .crossStackTransfer := by
  obtain ⟨v, u, hu, hfu⟩ := memRead_raises (readSp s - 8) 4 (checkTransfer_raises hf hl hk)
  simp only [returnTo, checkSp_of_aligned s ha, hr, hu, andThen_next]
  exact jumpTo_raises hfu

theorem returnInt_crossStack (delay : Fin 8) (ha : s.pre.a[15].toNat % 8 = 0) (hr : s.pre.rpc = target) (hi : s.pre.dsts.ints = .int)
    (hs : s.pre.intSaves ≠ []) : RaisesIn (returnInt delay s) .crossStackTransfer := by
  obtain ⟨v, rest, hv⟩ := List.exists_cons_of_ne_nil hs
  obtain ⟨w, u, hu, hfu⟩ := memRead_raises (readSp s - BitVec.ofNat 32 s.cfg.intFrameBytes) 4 (checkTransfer_raises hf hl hk)
  simp only [returnInt, hi, hv, checkSp_of_aligned s ha, hr, hu, andThen_next]
  exact jumpTo_raises hfu

end CrossStack

/-! ### Interrupts that enter -/

/-- A running CPU takes its boundary, whatever happens there. -/
theorem step_eq_boundary (h : running s) : step s = andThen (boundary false s) fun t => .next (afterStep t) := by
  obtain ⟨hcfg, hin, hf, hm, hp⟩ := h
  simp [step, stepAfter, deliver_of_no_inputs hin, nextBatch, hin, hcfg, hf, runStep, hm, haltNow, hp]

theorem boundary_of_int {q : IntRequest} (h : openBoundary s) (hc : choose s.cur = .int q) :
    boundary false s = andThen (enterInt q (openStep s)) fun t => .next (commit t) := by
  obtain ⟨⟨-, -, -, hm, -⟩, hb, -⟩ := h
  simp [boundary, servicesInterrupts, hm, hb, hc]

theorem boundary_of_rtint {q : RtRequest} (h : openBoundary s) (hc : choose s.cur = .rtint q) :
    boundary false s = andThen (enterRealtime false q.vector q.prio (openStep s)) fun t => .next (commit (rtintLimits (rtispWarn t))) := by
  obtain ⟨⟨-, -, -, hm, -⟩, hb, -⟩ := h
  simp [boundary, servicesInterrupts, hm, hb, hc]

theorem enterInt_wrongStack {q : IntRequest} {l : LinkId} (hf : s.cur.fault = none) (he : q.vector.toNat % 2 = 0)
    (hl : linkOf s.cfg q.vector = some l) (hk : stackOf s.cfg l ≠ s.cur.ists.currsp) : RaisesIn (enterInt q s) .intWrongStack := by
  have hw : (stackOf s.cfg l != s.cur.ists.currsp) = true := bne_iff_ne.2 hk
  have hr : (checkSp (raise .intWrongStack s)).cur.fault = some .intWrongStack := by
    unfold checkSp raiseIf
    split <;> simp [raise_cur_fault, hf]
  obtain ⟨u, hu, hfu⟩ := pushFrame_raises (readSp s) s.cfg.intFrameBytes s.cur.rpc hr
  simp only [enterInt, if_neg (show ¬ q.vector.toNat % 2 = 1 by omega), hl, hw, raiseIf_true, hu, andThen_next]
  exact ⟨_, rfl, hfu⟩

@[simp] theorem afterStep_fault (s : State) : (afterStep s).cur.fault = s.cur.fault := by
  obtain e | ⟨-, e⟩ := afterStep_cases s <;> rw [e]
  rfl

@[simp] theorem commit_fault (s : State) : (commit s).cur.fault = s.cur.fault := by
  obtain ⟨-, -, -, -, h⟩ := commit_settled s
  exact h

theorem step_of_int_raises {q : IntRequest} (h : openBoundary s) (hc : choose s.cur = .int q) (hr : RaisesIn (enterInt q (openStep s)) c) :
    RaisesIn (step s) c := by
  obtain ⟨t, ht, hf⟩ := hr
  rw [step_eq_boundary h.1, boundary_of_int h hc, ht]
  exact ⟨_, rfl, by simpa using hf⟩

/-- Settles O38: the check raises the fault, and what follows it keeps it. -/
theorem crossStackTransferFaults : Obligations.CrossStackTransferFaults := by
  unfold Obligations.CrossStackTransferFaults
  intro s target x tgt c d delay l hf
  refine ⟨fun hl hk => ⟨fun ht hc => ?_, fun hd => ?_, fun ha => ⟨callTo_crossStack hf hl hk delay ha, fun hx => ?_,
    fun hr => returnTo_crossStack hf hl hk delay ha hr,
    fun hr hi hs => ⟨returnInt_crossStack hf hl hk 0 ha hr hi hs, returnInt_crossStack hf hl hk delay ha hr hi hs⟩⟩⟩,
    fun q ho hc he hl hk => step_of_int_raises ho hc (enterInt_wrongStack hf he hl hk)⟩
  · rw [exec_branch_of_holds delay hc, ht]
    exact branchTo_crossStack hf hl hk delay
  · rw [exec_bcmpz_of_holds target delay hd]
    exact branchTo_crossStack (s := bcmpzFlags (readD x s) s) hf hl hk delay
  · rw [exec_callReg delay hx]
    exact callTo_crossStack hf hl hk delay ha

/-! ### Odd targets -/

/-- Outside the FAULT state a refusal is a refusal. -/
theorem stopUnlessFaulted_of_no_fault (r : Refusal) (hf : s.cur.fault = none) : stopUnlessFaulted r s = .refused r := by
  simp [stopUnlessFaulted, hf]

theorem swapStacks_fault (src dst : StackId) (pushed : Option Word) (s : State) : (swapStacks src dst pushed s).cur.fault = s.cur.fault := by
  obtain ⟨-, -, e⟩ | ⟨sp, -, -, e⟩ | ⟨-, e⟩ := swapStacks_cases src dst pushed s <;> rw [e] <;> rfl

section Odd

variable {target : Word} (hf : s.cur.fault = none) (ho : target.toNat % 2 = 1)
include hf ho

theorem jumpTo_odd (delay : Fin 8) (late : Late) : jumpTo delay late target s = .refused (.oddTarget target.toNat) := by
  rw [jumpTo, if_pos ho, stopUnlessFaulted_of_no_fault _ hf]

/-- A protected transfer has no check that could fault first (R246, R249). -/
theorem enterProtected_odd (pushed : Option Word) : enterProtected target pushed s = .refused (.oddTarget target.toNat) := by
  have hk := (swapStacks_fault (stackOf s.cfg s.pre.ists.currlink) (targetStack target s) pushed (scrambleWork s)).trans hf
  simp only [enterProtected]
  generalize swapStacks (stackOf s.cfg s.pre.ists.currlink) (targetStack target s) pushed (scrambleWork s) = u at hk
  refine jumpTo_odd ?_ ho _ _
  exact hk

theorem callProt_odd (ha : s.pre.a[15].toNat % 8 = 0) (hm : s.pre.protStack.length < s.cfg.maxPsp) (hw : writeOk s.pre.a[15] 4 s) :
    callProt target s = .refused (.oddTarget target.toNat) := by
  obtain ⟨u, hu, -, -, -, hfu⟩ := pushFrame_of_ok s.pre.a[15] s.pre.rpc s ha hw
  have hn : raiseIf (decide (s.cfg.maxPsp ≤ s.pre.protStack.length)) .protectedCallStackFull s = s := by
    rw [decide_eq_false (by omega)]; rfl
  have hp : pushFrame (readSp s) 8 s.pre.rpc s = .next u := hu
  simp only [callProt, checkSp_of_aligned s ha, hn, hp, andThen_next]
  refine enterProtected_odd ?_ ho _
  unfold pushProt
  split
  · split <;> exact hfu.trans hf
  · exact hfu.trans hf

theorem returnRealtime_odd {f : RtFrame} {rest : List RtFrame} (delay : Fin 8) (hs : s.pre.rtStack = f :: rest) (hr : f.ret = target) :
    returnRealtime delay s = .refused (.oddTarget target.toNat) := by
  simp only [returnRealtime, hs, hr]
  refine jumpTo_odd ?_ ho _ _
  exact hf

theorem returnProt_odd {f : ProtFrame} {rest : List ProtFrame} (hs : s.pre.protStack = f :: rest) (ha : s.pre.a[15].toNat % 8 = 0)
    (hr : s.pre.rpc = target) (hf' : f.ret = target) (hk : (linkOf s.cfg target).map (stackOf s.cfg) = some f.stack)
    (hro : readOk ((if f.stack = stackOf s.cfg s.pre.ists.currlink then s.pre.a[15] else s.pre.secsp[f.stack]) - 8) 4 s) :
    returnProt s = .refused (.oddTarget target.toNat) := by
  have hb : (target != f.ret || (linkOf s.cfg target).map (stackOf s.cfg) != some f.stack) = false := by simp [hf', hk]
  have hm := memRead_of_readOk _ 4 s hro
  change memRead ((if f.stack = stackOf s.cfg s.pre.ists.currlink then readSp s else s.pre.secsp[f.stack]) - 8) 4 s = _ at hm
  simp only [returnProt, hs, hr, hb, checkSp_of_aligned s ha, hm, andThen_next, Bool.false_eq_true, if_false]
  refine jumpTo_odd ?_ ho _ _
  generalize he : writeRpc _ (scrambleWork s) = u
  have hu : u.cur.fault = none := by rw [← he]; exact hf
  change (if f.stack = stackOf s.cfg s.pre.ists.currlink then u else _).cur.fault = none
  split <;> exact hu

variable (hs : ∀ l, linkOf s.cfg target = some l → stackOf s.cfg l = stackOf s.cfg s.pre.ists.currlink)
include hs

theorem branchTo_odd (delay : Fin 8) : branchTo target delay s = .refused (.oddTarget target.toNat) := by
  rw [branchTo, checkTransfer_of_ok target s hs]
  exact jumpTo_odd hf ho _ _

theorem callTo_odd (delay : Fin 8) (ha : s.pre.a[15].toNat % 8 = 0) (hw : writeOk s.pre.a[15] 4 s) :
    callTo target delay s = .refused (.oddTarget target.toNat) := by
  obtain ⟨u, hu, -, -, -, hfu⟩ := pushFrame_of_ok s.pre.a[15] s.pre.rpc s ha hw
  have hp : pushFrame (readSp s) 8 s.pre.rpc s = .next u := hu
  simp only [callTo, checkSp_of_aligned s ha, checkTransfer_of_ok target s hs, hp, andThen_next]
  refine jumpTo_odd ?_ ho _ _
  split <;> exact hfu.trans hf

theorem returnTo_odd (delay : Fin 8) (ha : s.pre.a[15].toNat % 8 = 0) (hro : readOk (s.pre.a[15] - 8) 4 s) (hr : s.pre.rpc = target) :
    returnTo delay s = .refused (.oddTarget target.toNat) := by
  have hm := memRead_of_readOk (readSp s - 8) 4 s hro
  simp only [returnTo, checkSp_of_aligned s ha, hr, checkTransfer_of_ok target s hs, hm, andThen_next]
  refine jumpTo_odd ?_ ho _ _
  exact hf

theorem returnInt_odd {v : IntSave} {rest : List IntSave} (delay : Fin 8) (hi : s.pre.dsts.ints = .int) (hv : s.pre.intSaves = v :: rest)
    (ha : s.pre.a[15].toNat % 8 = 0) (hr : s.pre.rpc = target) (hro : readOk (s.pre.a[15] - BitVec.ofNat 32 s.cfg.intFrameBytes) 4 s) :
    returnInt delay s = .refused (.oddTarget target.toNat) := by
  have hm := memRead_of_readOk (readSp s - BitVec.ofNat 32 s.cfg.intFrameBytes) 4 s hro
  simp only [returnInt, hi, hv, checkSp_of_aligned s ha, hr, checkTransfer_of_ok target s hs, hm, andThen_next]
  refine jumpTo_odd ?_ ho _ _
  exact hf

end Odd

/-! ### Returns without their frame -/

section NoFrame

variable (hf : s.cur.fault = none)
include hf

theorem returnProt_empty (ha : s.pre.a[15].toNat % 8 = 0) (hs : s.pre.protStack = []) : returnProt s = .refused .retProtEmpty := by
  simp only [returnProt, hs, checkSp_of_aligned s ha]
  exact stopUnlessFaulted_of_no_fault _ hf

theorem returnProt_mismatch {f : ProtFrame} {rest : List ProtFrame} (ha : s.pre.a[15].toNat % 8 = 0) (hs : s.pre.protStack = f :: rest)
    (hr : s.pre.rpc ≠ f.ret ∨ (linkOf s.cfg s.pre.rpc).map (stackOf s.cfg) ≠ some f.stack) : returnProt s = .refused .retProtMismatch := by
  have hb : (s.pre.rpc != f.ret || (linkOf s.cfg s.pre.rpc).map (stackOf s.cfg) != some f.stack) = true := by
    simpa [bne_iff_ne] using hr
  simp only [returnProt, hs, hb, if_true, checkSp_of_aligned s ha]
  exact stopUnlessFaulted_of_no_fault _ hf

theorem returnInt_outside (delay : Fin 8) (hi : s.pre.dsts.ints ≠ .int) : returnInt delay s = .refused .retiIntOutside := by
  unfold returnInt
  split
  · contradiction
  · exact stopUnlessFaulted_of_no_fault _ hf

theorem returnRealtime_empty (delay : Fin 8) (hs : s.pre.rtStack = []) : returnRealtime delay s = .refused .retiRtintEmpty := by
  simp only [returnRealtime, hs]
  exact stopUnlessFaulted_of_no_fault _ hf

end NoFrame

/-- Settles O46: the refusal of each transfer, with nothing before it that faults. -/
theorem illegalReturnsAndTargetsRefused : Obligations.IllegalReturnsAndTargetsRefused := by
  unfold Obligations.IllegalReturnsAndTargetsRefused
  refine ⟨fun s target tgt c d x delay hf ho => ⟨fun hs => ⟨fun ht hc => ?_, fun hd => ?_,
        fun ha hw => ⟨callTo_odd hf ho hs delay ha hw, fun hx => ?_⟩,
      fun ha hro hr => returnTo_odd hf ho hs delay ha hro hr,
      fun v rest hi hv ha hr hro => ⟨returnInt_odd hf ho hs 0 hi hv ha hr hro, returnInt_odd hf ho hs delay hi hv ha hr hro⟩⟩,
      fun ha hm hw => ⟨callProt_odd hf ho ha hm hw, fun hx => ?_⟩, enterProtected_odd hf ho none,
      fun f rest hs ha hr hf' hk hro => returnProt_odd hf ho hs ha hr hf' hk hro,
      fun f rest hs hr => ⟨returnRealtime_odd hf ho 0 hs hr, returnRealtime_odd hf ho delay hs hr⟩⟩,
    fun s delay hf => ⟨fun ha => ⟨returnProt_empty hf ha, fun f rest => returnProt_mismatch hf ha⟩,
      fun hi => ⟨returnInt_outside hf 0 hi, returnInt_outside hf delay hi⟩,
      fun hs => ⟨returnRealtime_empty hf 0 hs, returnRealtime_empty hf delay hs⟩⟩,
    fun s hb => ⟨fun q hc ho => ?_, fun q hc ho => ?_⟩⟩
  · rw [exec_branch_of_holds delay hc, ht]
    exact branchTo_odd hf ho hs delay
  · rw [exec_bcmpz_of_holds target delay hd]
    exact branchTo_odd (s := bcmpzFlags (readD x s) s) hf ho hs delay
  · rw [exec_callReg delay hx]
    exact callTo_odd hf ho hs delay ha hw
  · rw [exec_callProtReg hx]
    exact callProt_odd hf ho ha hm hw
  · rw [step_eq_boundary hb.1, boundary_of_rtint hb hc, enterRealtime, if_pos ho]
    rfl
  · rw [step_eq_boundary hb.1, boundary_of_int hb hc, enterInt, if_pos ho]
    rfl

end Sys2Proof.Proofs
end

section
/-! PROOFS. Memory stays in canonical form: O4. An operation that does not store leaves the list of bytes as it is; one that does sets bytes
at addresses below 2^32. One lemma for each shared operation, then `exec`, the packet and the step. -/

namespace Sys2Proof.Proofs

open Sys2Proof.Machine Sys2Proof.Laws

variable {s t u : State} {is : List Instr} {fin : Nat}

/-! ### Operations that leave memory alone -/

@[simp] theorem raiseIf_cur_mem (b : Bool) (c : Cause) (s : State) : (raiseIf b c s).cur.mem = s.cur.mem := by cases b <;> simp

@[simp] theorem checkSp_cur_mem (s : State) : (checkSp s).cur.mem = s.cur.mem := raiseIf_cur_mem _ _ _

@[simp] theorem checkTransfer_cur_mem (target : Word) (s : State) : (checkTransfer target s).cur.mem = s.cur.mem := by
  unfold checkTransfer
  split
  · rfl
  · exact raiseIf_cur_mem _ _ _

@[simp] theorem writeX_cur_mem (x : XReg) (v : DWord) (s : State) : (writeX x v s).cur.mem = s.cur.mem := by simp [writeX]

@[simp] theorem writeStatus_cur_mem (q : StatusReg) (v : Word) (s : State) : (writeStatus q v s).cur.mem = s.cur.mem := by cases q <;> rfl

@[simp] theorem writeSum_cur_mem (b : IBank) (z : Fin 16) (v : Word) (o neg : Bool) (s : State) :
    (writeSum b z v o neg s).cur.mem = s.cur.mem := by
  cases b <;> cases o <;> rfl

@[simp] theorem writeTestDst_cur_mem (d : TestDst) (b : Bool) (s : State) : (writeTestDst d b s).cur.mem = s.cur.mem := by
  rcases d with f | _ | _ | _
  · cases f <;> rfl
  all_goals rfl

@[simp] theorem swapStacks_cur_mem (src dst : StackId) (pushed : Option Word) (s : State) :
    (swapStacks src dst pushed s).cur.mem = s.cur.mem := by
  obtain ⟨-, -, e⟩ | ⟨sp, -, -, e⟩ | ⟨-, e⟩ := swapStacks_cases src dst pushed s <;> rw [e] <;> rfl

@[simp] theorem pushProt_cur_mem (f : ProtFrame) (s : State) : (pushProt f s).cur.mem = s.cur.mem := by
  unfold pushProt
  split
  · split <;> rfl
  · rfl

theorem mem_stopUnlessFaulted {r : Refusal} (h : stopUnlessFaulted r s = .next t) : t.cur.mem = s.cur.mem := by
  unfold stopUnlessFaulted at h
  split at h <;> cases h
  rfl

theorem mem_jumpTo {delay : Fin 8} {late : Late} {target : Word} (h : jumpTo delay late target s = .next t) : t.cur.mem = s.cur.mem := by
  obtain ⟨-, rfl, -⟩ | ⟨-, -, rfl⟩ | ⟨-, -, rfl⟩ := jumpTo_next _ _ _ _ _ h <;> rfl

theorem mem_loadReg {n : Nat} {f : Word → DWord → Word} {r : Reg} {e : EffAddr} (h : loadReg n f r e s = .next t) :
    t.cur.mem = s.cur.mem := by
  obtain ⟨v, hv, ht⟩ := andThen_eq_next h
  cases ht
  simpa using mem_memRead _ _ _ _ _ hv

theorem mem_loadPair {x : XReg} {e : EffAddr} (h : loadPair x e s = .next t) : t.cur.mem = s.cur.mem := by
  obtain ⟨v, hv, ht⟩ := andThen_eq_next h
  cases ht
  simpa using mem_memRead _ _ _ _ _ hv

theorem mem_execLdRpc {a : Word} (h : execLdRpc a s = .next t) : t.cur.mem = s.cur.mem := by
  obtain ⟨v, hv, ht⟩ := andThen_eq_next h
  cases ht
  exact (writeRpc_cur_mem _ _).trans (mem_memRead _ _ _ _ _ hv)

theorem mem_returnTo {delay : Fin 8} (h : returnTo delay s = .next t) : t.cur.mem = s.cur.mem := by
  obtain ⟨v, hv, ht⟩ := andThen_eq_next h
  have hr : v.2.cur.mem = s.cur.mem := by simpa using mem_memRead _ _ _ _ _ hv
  exact (mem_jumpTo ht).trans hr

theorem mem_branchTo {target : Word} {delay : Fin 8} (h : branchTo target delay s = .next t) : t.cur.mem = s.cur.mem := by
  simpa using mem_jumpTo h

theorem mem_enterProtected {target : Word} {pushed : Option Word} (h : enterProtected target pushed s = .next t) :
    t.cur.mem = s.cur.mem := by
  simpa using mem_jumpTo h

theorem mem_returnProt (h : returnProt s = .next t) : t.cur.mem = s.cur.mem := by
  unfold returnProt at h
  split at h
  · simpa using mem_stopUnlessFaulted h
  · simp only at h
    split at h
    · simpa using mem_stopUnlessFaulted h
    · obtain ⟨v, hv, ht⟩ := andThen_eq_next h
      have hr : v.2.cur.mem = s.cur.mem := by simpa using mem_memRead _ _ _ _ _ hv
      have hw : (writeRpc (lowWord v.1) (scrambleWork v.2)).cur.mem = v.2.cur.mem := by simp
      generalize writeRpc (lowWord v.1) (scrambleWork v.2) = u at ht hw
      refine (mem_jumpTo ht).trans (Eq.trans ?_ (hw.trans hr))
      simp only [spend_cur]
      rw [writeSp, writeA_cur_mem]
      split <;> rfl

theorem mem_returnInt {delay : Fin 8} (h : returnInt delay s = .next t) : t.cur.mem = s.cur.mem := by
  unfold returnInt at h
  split at h
  · obtain ⟨v, hv, ht⟩ := andThen_eq_next h
    have hr : v.2.cur.mem = s.cur.mem := by simpa using mem_memRead _ _ _ _ _ hv
    exact (mem_jumpTo ht).trans hr
  · exact mem_stopUnlessFaulted h

theorem mem_returnRealtime {delay : Fin 8} (h : returnRealtime delay s = .next t) : t.cur.mem = s.cur.mem := by
  unfold returnRealtime at h
  split at h
  · exact mem_stopUnlessFaulted h
  · exact (mem_jumpTo h).trans rfl

theorem mem_execAtomic {n : BitVec 8} (h : execAtomic n s = .next t) : t.cur.mem = s.cur.mem := by
  unfold execAtomic at h
  split_ifs at h
  · exact mem_stopUnlessFaulted h
  all_goals cases h; rfl

theorem mem_execBranch {target : BrTarget} {c : Cond} {delay : Fin 8} (h : execBranch target c delay s = .next t) :
    t.cur.mem = s.cur.mem := by
  unfold execBranch at h
  split_ifs at h
  · exact mem_branchTo h
  · cases h; rfl

theorem mem_execBcmpz {label : Word} {c : DCond} {x : Fin 16} {delay : Fin 8} (h : execBcmpz label c x delay s = .next t) :
    t.cur.mem = s.cur.mem := by
  unfold execBcmpz at h
  split_ifs at h
  · exact (mem_branchTo h).trans rfl
  · cases h; rfl

theorem mem_execSubReg {b : IBank} {z y x : Fin 16} (h : execSubReg b z y x s = .next t) : t.cur.mem = s.cur.mem := by
  unfold execSubReg at h
  split at h <;> cases h <;> exact writeSum_cur_mem _ _ _ _ _ _

theorem mem_execMvReg {op : MvRegs} (h : execMvReg op s = .next t) : t.cur.mem = s.cur.mem := by
  cases op <;> cases h <;> simp

theorem mem_execCmp {op : CmpRegs} (h : execCmp op s = .next t) : t.cur.mem = s.cur.mem := by
  cases op <;> cases h <;> rfl

theorem mem_execIncCirc {y : Fin 4} {x : Fin 16} (h : execIncCirc y x s = .next t) : t.cur.mem = s.cur.mem := by
  simp only [execIncCirc] at h
  split at h <;> cases h <;> rfl

theorem mem_execDecCirc {y : Fin 4} {x : Fin 16} (h : execDecCirc y x s = .next t) : t.cur.mem = s.cur.mem := by
  simp only [execDecCirc] at h
  split at h <;> cases h <;> rfl

/-! ### Operations that store -/

theorem wf_pushFrame {sp v : Word} {n : Nat} (w : s.cur.mem.wf = true) (h : pushFrame sp n v s = .next t) : t.cur.mem.wf = true := by
  obtain ⟨u, hu, ht⟩ := andThen_eq_next h
  have wu := wf_memWrite _ _ _ _ _ w hu
  split at ht
  · exact wf_scribble _ _ _ _ wu ht
  · cases ht; exact wu

theorem wf_storeVal {n : Nat} {v : DWord} {e : EffAddr} (w : s.cur.mem.wf = true) (h : storeVal n v e s = .next t) :
    t.cur.mem.wf = true := by
  obtain ⟨u, hu, ht⟩ := andThen_eq_next h
  cases ht
  simpa using wf_memWrite _ _ _ _ _ w hu

theorem wf_moveMem {n : Nat} {dst src : EffAddr} (w : s.cur.mem.wf = true) (h : moveMem n dst src s = .next t) : t.cur.mem.wf = true := by
  obtain ⟨v, hv, ht⟩ := andThen_eq_next h
  obtain ⟨u, hu, ht⟩ := andThen_eq_next ht
  cases ht
  simpa using wf_memWrite _ _ _ _ _ (mem_memRead _ _ _ _ _ hv ▸ w) hu

theorem wf_modifyMem {n : Nat} {f : DWord → DWord} {e : EffAddr} (w : s.cur.mem.wf = true) (h : modifyMem n f e s = .next t) :
    t.cur.mem.wf = true := by
  obtain ⟨v, hv, ht⟩ := andThen_eq_next h
  obtain ⟨u, hu, ht⟩ := andThen_eq_next ht
  cases ht
  simpa using wf_memWrite _ _ _ _ _ (mem_memRead _ _ _ _ _ hv ▸ w) hu

theorem wf_execStatusOp {op : StatusOp} (w : s.cur.mem.wf = true) (h : execStatusOp op s = .next t) : t.cur.mem.wf = true := by
  cases op with
  | load r m =>
    obtain ⟨v, hv, ht⟩ := andThen_eq_next h
    cases ht
    simpa [mem_memRead _ _ _ _ _ hv] using w
  | store r m => exact wf_storeVal w h
  | toReg | ofReg | andImm | orImm => cases h; simpa using w

theorem wf_callTo {target : Word} {delay : Fin 8} (w : s.cur.mem.wf = true) (h : callTo target delay s = .next t) : t.cur.mem.wf = true := by
  obtain ⟨u, hu, ht⟩ := andThen_eq_next h
  have wu : u.cur.mem.wf = true := wf_pushFrame (by simpa using w) hu
  rw [mem_jumpTo ht]
  split <;> exact wu

theorem wf_callProt {target : Word} (w : s.cur.mem.wf = true) (h : callProt target s = .next t) : t.cur.mem.wf = true := by
  obtain ⟨u, hu, ht⟩ := andThen_eq_next h
  have wu : u.cur.mem.wf = true := wf_pushFrame (by simpa using w) hu
  simpa [mem_enterProtected ht] using wu

/-- EMUSTOP0 goes back to the memory of before its packet, or has no effect (R296). -/
theorem wf_execEmustop0 (w : s.cur.mem.wf = true) (wp : s.pre.mem.wf = true) (h : execEmustop0 s = .next t) : t.cur.mem.wf = true := by
  unfold execEmustop0 at h
  split_ifs at h <;> cases h
  · exact wp
  · exact w

/-! ### All instructions -/

theorem wf_exec {i : Instr} (w : s.cur.mem.wf = true) (wp : s.pre.mem.wf = true) (h : exec i s = .next t) : t.cur.mem.wf = true := by
  cases i with
  | add32Addr1 | addS16Addr1 | addS8Addr1 | andU16Addr1 | andU8Addr1 | andorB0Addr1 | andorW0Addr1 | mvU16Addr1 | mvU8Addr1 | retAddr1
    | s16tofAddr1 | sub32Addr1 | subS16Addr1 | subS8Addr1 | subr32Addr1 | subrS16Addr1 | subrS8Addr1 | u16tofAddr1 | and32Addr2
    | andorAddr2 | mv16Addr2 | mv32Addr2 | mv64Addr2 | mv8Addr2 | or32Addr2 | xor32Addr2 | s16tofDirm | s16tofDirmIx | u16tofDirm
    | u16tofDirmIx | preserve | xc | xcp | eccselftest => cases h
  | and16Addr1 m v => exact wf_modifyMem w (show execAnd16Addr1 m v s = .next t from h)
  | and8Addr1 m v => exact wf_modifyMem w (show execAnd8Addr1 m v s = .next t from h)
  | or16Addr1 m v => exact wf_modifyMem w (show execOr16Addr1 m v s = .next t from h)
  | or8Addr1 m v => exact wf_modifyMem w (show execOr8Addr1 m v s = .next t from h)
  | xor16Addr1 m v => exact wf_modifyMem w (show execXor16Addr1 m v s = .next t from h)
  | xor8Addr1 m v => exact wf_modifyMem w (show execXor8Addr1 m v s = .next t from h)
  | ld32Addr1 | ldB0Addr1 | ldB1Addr1 | ldB2Addr1 | ldB3Addr1 | ldS16Addr1 | ldS8Addr1 | ldU16Addr1 | ldU8Addr1 | ldW0Addr1
    | ldW1Addr1 | ld32Addr2 | ld32Dirm | ld32DirmIx | ldB0Dirm | ldB0DirmIx | ldB1Dirm | ldB1DirmIx | ldB2Dirm | ldB2DirmIx | ldB3Dirm
    | ldB3DirmIx | ldS16Dirm | ldS16DirmIx | ldS8Dirm | ldS8DirmIx | ldU16Dirm | ldU16DirmIx | ldU8Dirm | ldU8DirmIx | ldW0Dirm
    | ldW0DirmIx | ldW1Dirm | ldW1DirmIx => rwa [mem_loadReg h]
  | ld64Addr1 | ld64Addr2 | ld64Dirm | ld64DirmIx => rwa [mem_loadPair h]
  | mv16Addr1 | mv32Addr1 | mv64Addr1 | mv8Addr1 | mv32Addr3 => exact wf_moveMem w h
  | st16Addr1 | st32Addr1 | st64Addr1 | st8Addr1 | stB0Addr1 | stB1Addr1 | stB2Addr1 | stB3Addr1 | stW0Addr1 | stW1Addr1 | st16Addr2
    | st32Addr2 | st64Addr2 | st8Addr2 | st32Dirm | st32DirmIx | st64Dirm | st64DirmIx | stB0Dirm | stB0DirmIx | stB1Dirm | stB1DirmIx
    | stB2Dirm | stB2DirmIx | stB3Dirm | stB3DirmIx | stW0Dirm | stW0DirmIx | stW1Dirm | stW1DirmIx => exact wf_storeVal w h
  | callLabel | callReg => exact wf_callTo w h
  | ret => rwa [mem_returnTo h]
  | branch => rwa [mem_execBranch h]
  | bcmpz => rwa [mem_execBcmpz h]
  | callProtLabel | callProtReg => exact wf_callProt w h
  | lbProt => rwa [mem_enterProtected h]
  | retProt => rwa [mem_returnProt h]
  | retiInt | retiIntD => rwa [mem_returnInt h]
  | retiRtint | retiRtintD => rwa [mem_returnRealtime h]
  | emustop0 => exact wf_execEmustop0 w wp h
  | entry1Prot | entry2Prot | exitProt | enint | disint | isr1Prot | isr2Prot | idle | movRpc | nop | addU16 | subU16 | addBitrev
    | ftos16 | crc | smpyf | saddf | addf => cases h; exact w
  | atomic => rwa [mem_execAtomic h]
  | ldRpc => rwa [mem_execLdRpc h]
  | statusOp => exact wf_execStatusOp w h
  | addImm | addReg | subImm => cases h; simpa [addTo, subTo] using w
  | subReg => rwa [mem_execSubReg h]
  | mvImm => cases h; simpa using w
  | mvReg => rwa [mem_execMvReg h]
  | cmp => rwa [mem_execCmp h]
  | tbit => cases h; simpa using w
  | tflg f => cases h; exact (writeTestDst_cur_mem (.flag f) _ s).symm ▸ w
  | incCirc => rwa [mem_execIncCirc h]
  | decCirc => rwa [mem_execDecCirc h]

theorem wf_execAll (w : s.cur.mem.wf = true) (wp : s.pre.mem.wf = true) (h : execAll is s = .next t) : t.cur.mem.wf = true := by
  induction is generalizing s with
  | nil => cases h; exact w
  | cons i is ih =>
    simp only [execAll] at h
    split at h
    · cases h; exact w
    · obtain ⟨u, hu, ht⟩ := andThen_eq_next h
      obtain ⟨hpre, -⟩ := exec_keepsContext hu
      exact ih (wf_exec w wp hu) (hpre ▸ wp) ht

/-! ### The packet -/

@[simp] theorem checkMarker_cur_mem (is : List Instr) (s : State) : (checkMarker is s).cur.mem = s.cur.mem := by
  unfold checkMarker
  repeat' split
  all_goals simp

@[simp] theorem scrambleLate_cur_mem (is : List Instr) (s : State) : (scrambleLate is s).cur.mem = s.cur.mem := by
  unfold scrambleLate
  split <;> simp

@[simp] theorem stickyLate_cur_mem (is : List Instr) (s : State) : (stickyLate is s).cur.mem = s.cur.mem := by
  obtain ⟨_, _, _, _, _, e, -⟩ := stickyLate_cases is s
  rw [e]

@[simp] theorem countDelay_cur_mem (s : State) : (countDelay s).cur.mem = s.cur.mem := by
  obtain ⟨-, e⟩ | ⟨p, -, -, e⟩ | ⟨p, -, -, e⟩ := countDelay_cases s <;> rw [e]
  obtain ⟨-, e⟩ | ⟨-, e⟩ | ⟨k, -, e⟩ := writeLate_cases p.late
    { s with cur := { s.cur with pc := p.target, pending := none }, pkt := { s.pkt with jumped := true } } <;> rw [e]

@[simp] theorem countAtomic_cur_mem (s : State) : (countAtomic s).cur.mem = s.cur.mem := by
  obtain ⟨k, e⟩ := countAtomic_eq s
  rw [e]

@[simp] theorem failFormation_cur_mem (f : Formed) (s : State) : (failFormation f s).cur.mem = s.cur.mem := by
  cases f <;> simp [failFormation]

@[simp] theorem linearCheck_cur_mem (s : State) : (linearCheck s).cur.mem = s.cur.mem := by
  unfold linearCheck
  repeat' split
  all_goals simp

/-- The memory a packet leaves is that of before or after it (R500). -/
theorem wf_commit (w : s.cur.mem.wf = true) (wp : s.pre.mem.wf = true) : (commit s).cur.mem.wf = true := by
  unfold commit
  split
  · exact w
  · obtain e | e := blur_mem s.free s.pre s.cur <;> simpa [e]

theorem wf_closePacket (w : s.cur.mem.wf = true) (wp : s.pre.mem.wf = true) (h : closePacket s = .next t) : t.cur.mem.wf = true := by
  have wu : (commit (countAtomic (countDelay s))).cur.mem.wf = true := wf_commit (by simpa using w) (by simpa using wp)
  obtain ⟨-, rfl⟩ | ⟨-, u, rfl, ⟨-, rfl⟩ | ⟨-, -, rfl⟩⟩ := closePacket_cases h
  · exact wf_commit w wp
  · exact wu
  · simpa using wu

theorem wf_runFormed (w : s.cur.mem.wf = true) (wp : s.pre.mem.wf = true) (h : runFormed is fin s = .next t) : t.cur.mem.wf = true := by
  have hm : (checkMarker is s).cur.mem.wf = true := by simpa using w
  obtain ⟨hpre, -⟩ := checkMarker_keepsContext is s
  simp only [runFormed] at h
  split at h
  · obtain ⟨-, rfl⟩ := unlessFaulted_next h (by simp)
    exact wf_commit hm (hpre ▸ wp)
  · obtain ⟨u, hu, ht⟩ := andThen_eq_next h
    obtain ⟨hpre', -⟩ := execAll_keepsContext hu
    have hpo : (openPacket fin (checkMarker is s)).pre.mem.wf = true := hpre.symm ▸ wp
    exact wf_closePacket (by simpa using wf_execAll (s := openPacket fin (checkMarker is s)) hm hpo hu) (by simpa [hpre'] using hpo) ht

theorem wf_runPacket {ecc : Bool} (w : s.cur.mem.wf = true) (h : runPacket ecc s = .next t) : t.cur.mem.wf = true := by
  have wc : (beforePacket ecc s).cur.mem.wf = true := by rw [beforePacket, raiseIf_cur_mem]; exact w
  have wp : (beforePacket ecc s).pre.mem.wf = true := by
    obtain ⟨hpre, -⟩ := raiseIf_keepsContext ecc .eccDoubleBit (openStep s)
    exact hpre.symm ▸ w
  simp only [runPacket] at h
  change (if s.cur.pc.toNat % 2 = 1 then unlessFaulted (beforePacket ecc s) _ else _) = _ at h
  split at h
  · obtain ⟨-, rfl⟩ := unlessFaulted_next h (by simp)
    exact wf_commit wc wp
  · split at h
    · exact wf_runFormed wc wp h
    · rename_i f hf _
      cases h
      obtain ⟨-, ⟨hfail, -⟩, -⟩ := failFormation_faults (f := f) hf (checkMarker [] (beforePacket ecc s))
      obtain ⟨hmark, -⟩ := checkMarker_keepsContext [] (beforePacket ecc s)
      exact wf_commit (s := failFormation f (checkMarker [] (beforePacket ecc s))) (by simpa using wc) (hfail ▸ hmark ▸ wp)
    all_goals
      obtain ⟨-, rfl⟩ := unlessFaulted_next h (by simp)
      exact wf_commit wc wp

/-! ### The step -/

theorem mem_enterRealtime {nmi : Bool} {vector : Word} {prio : BitVec 8} (h : enterRealtime nmi vector prio s = .next t) :
    t.cur.mem = s.cur.mem := by
  unfold enterRealtime at h
  split at h <;> cases h
  cases nmi <;> rfl

theorem wf_enterInt {q : IntRequest} (w : s.cur.mem.wf = true) (h : enterInt q s = .next t) : t.cur.mem.wf = true := by
  simp only [enterInt] at h
  split at h
  · cases h
  · obtain ⟨u, hu, ht⟩ := andThen_eq_next h
    have wu : u.cur.mem.wf = true := wf_pushFrame (by simpa using w) hu
    cases ht
    exact wu

@[simp] theorem rtispWarn_cur_mem (s : State) : (rtispWarn s).cur.mem = s.cur.mem := by unfold rtispWarn; split <;> rfl

@[simp] theorem rtintLimits_cur_mem (s : State) : (rtintLimits s).cur.mem = s.cur.mem := by
  unfold rtintLimits
  repeat' split
  all_goals simp

@[simp] theorem rtispWarn_pre (s : State) : (rtispWarn s).pre = s.pre := by unfold rtispWarn; split <;> rfl

@[simp] theorem rtintLimits_pre (s : State) : (rtintLimits s).pre = s.pre := by
  unfold rtintLimits
  repeat' split
  all_goals simp

theorem wf_boundary (w : s.cur.mem.wf = true) (h : BoundaryDoes s t) : t.cur.mem.wf = true := by
  cases h with
  | wait e => exact e ▸ w
  | packet ecc h => exact wf_runPacket w h
  | realtime nmi vector prio u hb hu h =>
    have wu : u.cur.mem.wf = true := mem_enterRealtime hu ▸ w
    obtain ⟨-, -, -, -, hpre, -⟩ := enterRealtime_flow hu
    have wp : u.pre.mem.wf = true := hpre ▸ w
    obtain rfl | rfl := h <;> exact wf_commit (by simpa using wu) (by simpa using wp)
  | int q u hb hu h =>
    obtain ⟨-, -, -, -, hpre, -⟩ := enterInt_flow hu
    exact h ▸ wf_commit (wf_enterInt (s := openStep s) w hu) (hpre ▸ w)

/-- The store of the packet in flight at a reset has landed whole or not at all (R600, log entry 56). -/
theorem wf_takeReset (w : s.cur.mem.wf = true) : (takeReset s).cur.mem.wf = true := by
  obtain e | ⟨t, hi, e, -⟩ := takeReset_cases s <;> rw [e]
  · exact w
  · obtain ⟨-, -, ht⟩ := inFlight_eq_some.1 hi
    exact wf_runPacket w ht

theorem wf_afterStep (w : s.cur.mem.wf = true) : (afterStep s).cur.mem.wf = true := by
  obtain e | ⟨-, e⟩ := afterStep_cases s <;> rw [e] <;> exact w

theorem wf_busWrite (a : Word) (v : Byte) (w : s.cur.mem.wf = true) : (busWrite a v s).cur.mem.wf = true := by
  unfold busWrite
  split
  · exact w
  · exact w
  · exact wf_put _ _ _ a.isLt w

@[simp] theorem dbgWriteReg_cur_mem (r : DebugReg) (v : Word) (s : State) : (dbgWriteReg r v s).cur.mem = s.cur.mem := by
  cases r with
  | reg x => exact writeReg_cur_mem x v s
  | pc => unfold dbgWriteReg; simp only; split <;> rfl
  | rpc => rfl
  | status q => exact writeStatus_cur_mem q v s

/-- Of the events only the writes of other bus masters and of the debugger reach memory (R142). -/
theorem wf_applyEvent (e : Event) (w : s.cur.mem.wf = true) : (applyEvent e s).cur.mem.wf = true := by
  cases e with
  | busWrite a v => exact wf_busWrite a v w
  | dbgWriteMem a v =>
    obtain e | e | ⟨-, -, -, e⟩ := dbgAccess_cases (some a) (busWrite a v) s <;> simp only [applyEvent, e]
    · exact w
    · exact w
    · exact wf_busWrite a v w
  | dbgWrite r v =>
    obtain e | e | ⟨-, -, -, e⟩ := dbgAccess_cases none (dbgWriteReg r v) s <;> simpa [applyEvent, e] using w
  | dbgHalt =>
    obtain e | ⟨-, e⟩ := requestHalt_cases s <;> simpa only [applyEvent, e] using w
  | dbgRun | dbgFreeRun | dbgStep | dbgSyncRun | dbgSync =>
    simp only [applyEvent, dbgCommand]
    split_ifs <;> exact w
  | _ => exact w

theorem wf_deliver (w : s.cur.mem.wf = true) : (deliver s).cur.mem.wf = true :=
  deliver_induction (I := fun s => s.cur.mem.wf = true) (fun _ => Iff.rfl) (fun e _ _ w => wf_applyEvent e w) w

/-- Settles O4: whatever a step does, memory is that of before it with bytes set at addresses below 2^32. -/
theorem stepKeepsMemoryCanonical : Obligations.StepKeepsMemoryCanonical := by
  unfold Obligations.StepKeepsMemoryCanonical
  intro s t w h
  have wd := wf_deliver w
  cases step_does h with
  | reset _ e => exact e ▸ wf_takeReset wd
  | wait e => exact e ▸ wd
  | halt _ e => exact e ▸ wd
  | boundary _ _ u hu e => exact e ▸ wf_afterStep (wf_boundary wd hu)

end Sys2Proof.Proofs
end

section
/-! PROOFS. Bytes and values: O14. Byte `k` of a value is its digit of weight `256 ^ k`. -/

namespace Sys2Proof.Proofs

open Sys2Proof.Machine Sys2Proof.Laws

theorem byteOf_eq_ofNat (v : DWord) (k : Nat) : byteOf v k = BitVec.ofNat 8 (v.toNat / 256 ^ k) := by
  apply BitVec.eq_of_toNat_eq
  simp [byteOf, Nat.shiftRight_eq_div_pow, pow_mul]

/-- A number of at most eight bytes fits a 64-bit value. -/
theorem toNat_ofNat_readLE (m : Memory) (a : Nat) {n : Nat} (hn : n ≤ 8) : (BitVec.ofNat 64 (readLE m a n)).toNat = readLE m a n := by
  have hlt : readLE m a n < 256 ^ 8 := (readLE_lt m a n).trans_le (Nat.pow_le_pow_right (by decide) hn)
  simp only [BitVec.toNat_ofNat]
  omega

theorem byteOf_readLE (m : Memory) (a : Nat) {n k : Nat} (hn : n ≤ 8) (hk : k < n) :
    byteOf (BitVec.ofNat 64 (readLE m a n)) k = memByte m (a + k) := by
  rw [byteOf_eq_ofNat, toNat_ofNat_readLE m a hn]
  apply BitVec.eq_of_toNat_eq
  rw [BitVec.toNat_ofNat, ← readLE_byte m a n k hk]

theorem memByte_writeLE_byteOf (m : Memory) (a : Nat) (v : DWord) {n k : Nat} (ha : a + n ≤ 4294967296) (hk : k < n) :
    memByte (writeLE m a n v.toNat) (a + k) = byteOf v k := by
  rw [memByte_writeLE_same m a n v.toNat k ha hk, byteOf_eq_ofNat]

/-- The addresses of an access that does not wrap. -/
theorem not_mem_byteAddrs_of_outside {a n b : Nat} (ha : a + n ≤ 4294967296) (hb : b < 4294967296) (h : b < a ∨ a + n ≤ b) :
    b % 4294967296 ∉ byteAddrs a n := by
  rw [mem_byteAddrs]
  rintro ⟨i, hi, e⟩
  omega

/-- Settles O14: a read composes the bytes, a write decomposes the value, in the same order. -/
theorem memoryIsLittleEndian : Obligations.MemoryIsLittleEndian := by
  unfold Obligations.MemoryIsLittleEndian
  intro m a n v hn ha
  exact ⟨fun k hk => byteOf_readLE m a hn hk, fun k hk => memByte_writeLE_byteOf m a v ha hk,
    fun b hb h => memByte_writeLE_other m a n v.toNat b (not_mem_byteAddrs_of_outside ha hb h)⟩

end Sys2Proof.Proofs
end

section
/-! PROOFS. Accesses through an operand: every load of the tables is one read, every store one write, every read-modify-write and copy a read
and a write. What a performed access leaves alone, then accesses to peripherals, ROM and FLASH: O22. -/

namespace Sys2Proof.Proofs

open Sys2Proof.Machine Sys2Proof.Laws

variable {s t u : State} {a : Word} {n : Nat} {y : DWord} {e : EffAddr}

/-! ### What is left alone -/

/-- Everything but the working registers and memory is as it was. -/
def keepsRest (s t : State) : Prop :=
  keepsStatus s t ∧ t.cur.rpc = s.cur.rpc ∧ t.cur.ists = s.cur.ists ∧ keepsSystem s t ∧ keepsFlow s t

theorem keepsRest_trans (h : keepsRest s t) (g : keepsRest t u) : keepsRest s u := by
  simp only [keepsRest, keepsStatus, keepsSystem, keepsFlow] at *
  simp only [g, h, and_self]

theorem keepsRegs_trans {l l' : List Reg} (h : keepsRegs l s t) (g : keepsRegs l' t u) : keepsRegs (l ++ l') s u := fun r hr => by
  rw [List.mem_append, not_or] at hr
  rw [g r hr.2, h r hr.1]

theorem keepsMemory_of_eq (hm : t.cur.mem = s.cur.mem) (hs : t.cur.stored = s.cur.stored) : keepsMemory s t := ⟨fun _ => by rw [hm], hs⟩

theorem keepsMemory_trans (h : keepsMemory s t) (g : keepsMemory t u) : keepsMemory s u :=
  ⟨fun b => (g.1 b).trans (h.1 b), g.2.trans h.2⟩

theorem onlyRegs_iff {l : List Reg} : onlyRegs l s t ↔ keepsRegs l s t ∧ keepsMemory s t ∧ keepsRest s t := Iff.rfl

theorem onlyRegsAndBytes_iff {l : List Reg} :
    onlyRegsAndBytes l a n s t ↔ keepsRegs l s t ∧ keepsMemoryBut a n s t ∧ keepsRest s t := Iff.rfl

theorem onlyRegs_trans {l l' : List Reg} (h : onlyRegs l s t) (g : onlyRegs l' t u) : onlyRegs (l ++ l') s u := by
  obtain ⟨h1, h2, h3⟩ := onlyRegs_iff.1 h
  obtain ⟨g1, g2, g3⟩ := onlyRegs_iff.1 g
  exact ⟨keepsRegs_trans h1 g1, keepsMemory_trans h2 g2, keepsRest_trans h3 g3⟩

theorem onlyRegsAndBytes_of_onlyRegs {l : List Reg} (a : Word) (n : Nat) (h : onlyRegs l s t) : onlyRegsAndBytes l a n s t := by
  obtain ⟨h1, h2, h3⟩ := onlyRegs_iff.1 h
  exact ⟨h1, fun b _ => h2.1 b, h3⟩

theorem onlyRegsAndBytes_trans {l l' : List Reg} (h : onlyRegsAndBytes l a n s t) (g : onlyRegsAndBytes l' a n t u) :
    onlyRegsAndBytes (l ++ l') a n s u := by
  obtain ⟨h1, h2, h3⟩ := onlyRegsAndBytes_iff.1 h
  obtain ⟨g1, g2, g3⟩ := onlyRegsAndBytes_iff.1 g
  exact ⟨keepsRegs_trans h1 g1, fun b hb => (g2 b hb).trans (h2 b hb), keepsRest_trans h3 g3⟩

theorem onlyRegs_writeReg (r : Reg) (v : Word) (s : State) : onlyRegs [r] s (writeReg r v s) := by
  refine ⟨fun q hq => curReg_writeReg_of_ne v s (by simpa using hq), keepsMemory_of_eq (by simp) (by simp), ?_⟩
  simp [keepsStatus, keepsSystem, keepsFlow]

theorem onlyRegs_writeX (x : XReg) (v : DWord) (s : State) : onlyRegs [lowReg x, highReg x] s (writeX x v s) :=
  onlyRegs_trans (onlyRegs_writeReg (lowReg x) _ s) (onlyRegs_writeReg (highReg x) _ _)

/-- A mode's side effect changes its register only. -/
theorem onlyRegs_applySide (e : EffAddr) (s : State) : onlyRegs (sideRegs e) s (applySide e s) := by
  refine ⟨fun r hr => ?_, keepsMemory_of_eq (by simp) (by simp), ?_⟩
  · unfold applySide
    split
    · rfl
    · rename_i w hw
      exact curReg_writeReg_of_ne (r := .a w.1) w.2 s (by simpa [sideRegs, hw] using hr)
  · simp [keepsStatus, keepsSystem, keepsFlow]

theorem sideDone_applySide (e : EffAddr) (s : State) : sideDone e (applySide e s) := fun w hw => by simp [applySide, hw]

/-! ### What an access leaves alone -/

/-- Outside memory an access that raises no fault changes nothing. -/
theorem keepsRest_of_memoryOnly (h : memoryOnly s t) (hf : t.cur.fault = s.cur.fault) : keepsRegs [] s t ∧ keepsRest s t := by
  obtain ⟨⟨m, l, f, hc⟩, -, hpre, hpkt, hcfg, hdbg, hin⟩ := h
  obtain rfl : f = s.cur.fault := by rw [← hf, hc]
  refine ⟨fun r _ => by cases r <;> simp [curReg, hc], ?_⟩
  simp [keepsRest, keepsStatus, keepsSystem, keepsFlow, hc, hpre, hpkt, hcfg, hdbg, hin]

theorem onlyRegs_of_memRead (h : memRead a n s = .next (y, t)) (hf : t.cur.fault = s.cur.fault) : onlyRegs [] s t := by
  obtain ⟨hc, hk, hr⟩ := memRead_next a n s y t h
  obtain ⟨hregs, hrest⟩ := keepsRest_of_memoryOnly ⟨⟨_, _, _, hc⟩, hk, hr⟩ hf
  exact ⟨hregs, keepsMemory_of_eq (by rw [hc]) (by rw [hc]), hrest⟩

theorem onlyRegsAndBytes_of_memWrite (h : memWrite a n y s = .next t) (hf : t.cur.fault = s.cur.fault) : onlyRegsAndBytes [] a n s t := by
  obtain ⟨hregs, hrest⟩ := keepsRest_of_memoryOnly (memWrite_memoryOnly a n y s t h) hf
  exact ⟨hregs, fun b hb => memByte_memWrite_other a n y s t b hb h, hrest⟩

/-! ### Loads -/

/-- What writes neither memory nor the fault indicator and reports nothing. -/
def silent (k : State → State) : Prop := ∀ u, (k u).cur.fault = u.cur.fault ∧ (k u).outputs = u.outputs ∧ keepsMemory u (k u)

theorem silent_applySide (e : EffAddr) : silent (applySide e) := fun _ => ⟨by simp, by simp, keepsMemory_of_eq (by simp) (by simp)⟩

theorem silent_comp {k k' : State → State} (h : silent k) (h' : silent k') : silent fun u => k (k' u) := fun u => by
  obtain ⟨hf', ho', hm'⟩ := h' u
  obtain ⟨hf, ho, hm⟩ := h (k' u)
  exact ⟨hf.trans hf', ho.trans ho', keepsMemory_trans hm' hm⟩

/-- A load of `n` bytes: a read through the operand, `g` to bring the bytes where they go, then the mode's side effect. -/
def loadThrough (n : Nat) (g : DWord → State → State) (e : EffAddr) (s : State) : Res State :=
  andThen (memRead e.addr n s) fun v => .next (applySide e (g v.1 v.2))

/-- The instruction is a load of its destinations. -/
def IsRegisterLoad (s : State) (p : LoadForm) : Prop :=
  ∃ g, exec p.instr s = loadThrough p.width g p.operand s ∧ ∀ y u, onlyRegs p.dests u (g y u) ∧ (g y u).outputs = u.outputs

/-- The instruction is a load. -/
def IsLoad (s : State) (p : LoadForm) : Prop :=
  ∃ g : DWord → State → State, exec p.instr s = loadThrough p.width g p.operand s ∧ ∀ y, silent (g y)

theorem isRegisterLoad_of_loadReg {f : Word → DWord → Word} {r : Reg} {i : Instr} (h : exec i s = loadReg n f r e s) :
    IsRegisterLoad s ⟨n, e, [r], i⟩ :=
  ⟨fun y u => writeReg r (f (readReg r s) y) u, h, fun _ u => ⟨onlyRegs_writeReg r _ u, writeReg_outputs r _ u⟩⟩

theorem isRegisterLoad_of_loadPair {x : XReg} {i : Instr} (h : exec i s = loadPair x e s) :
    IsRegisterLoad s ⟨8, e, [lowReg x, highReg x], i⟩ :=
  ⟨writeX x, h, fun y u => ⟨onlyRegs_writeX x y u, by simp [writeX]⟩⟩

theorem isLoad_of_isRegisterLoad {p : LoadForm} (h : IsRegisterLoad s p) : IsLoad s p := by
  obtain ⟨g, hx, hg⟩ := h
  refine ⟨g, hx, fun y u => ?_⟩
  obtain ⟨⟨-, hm, -, -, -, hsys, -⟩, ho⟩ := hg y u
  exact ⟨by simp only [keepsSystem] at hsys; simp [hsys], ho, hm⟩

/-- Every form of a load of a register or a pair is one (R375 to R386). -/
theorem registerLoads_isRegisterLoad (r : Reg) (x : XReg) (m : Addr1) (g : Addr2) (a : Word) (b : Fin 16) (off : BitVec 28) (s : State) :
    ∀ p ∈ registerLoads r x m g a b off s, IsRegisterLoad s p := by
  have word {n f e i} (h : exec i s = loadReg n f r e s) := isRegisterLoad_of_loadReg h
  have pair {e i} (h : exec i s = loadPair x e s) := isRegisterLoad_of_loadPair h
  simp only [registerLoads, List.forall_mem_append, List.forall_mem_cons, List.not_mem_nil, false_implies, implies_true, and_true, and_assoc]
  exact ⟨word rfl, word rfl, word rfl, word rfl, word rfl, word rfl, word rfl, word rfl, word rfl, word rfl, word rfl, pair rfl,
    word rfl, pair rfl,
    word rfl, word rfl, word rfl, word rfl, word rfl, word rfl, word rfl, word rfl, word rfl, word rfl, word rfl, pair rfl,
    word rfl, word rfl, word rfl, word rfl, word rfl, word rfl, word rfl, word rfl, word rfl, word rfl, word rfl, pair rfl⟩

/-- The loads of DSTS, ESTS and RPC are loads (R301, R305). -/
theorem systemLoads_isLoad (q : StatusReg) (m : Addr1) (a : Word) (s : State) : ∀ p ∈ systemLoads q m a s, IsLoad s p := by
  simp only [systemLoads, List.forall_mem_cons, List.not_mem_nil, false_implies, implies_true, and_true]
  exact ⟨⟨fun y u => writeStatus q (lowWord y) u, rfl, fun y u => by cases q <;> exact ⟨rfl, rfl, fun _ => rfl, rfl⟩⟩,
    ⟨fun y u => writeRpc (lowWord y) u, rfl, fun y u => ⟨rfl, rfl, fun _ => rfl, rfl⟩⟩⟩

/-! ### Stores, read-modify-writes and copies -/

/-- The instruction is a store of the low bytes of some value. -/
def IsStore (s : State) (p : StoreForm) : Prop :=
  p.width ∣ 8 ∧ ∃ y, exec p.instr s = storeVal p.width y p.operand s ∧ lowBytes p.width y = p.value

theorem isStore_of_storeVal {v : DWord} {i : Instr} (hn : n ∣ 8) (hv : lowBytes n y = v) (h : exec i s = storeVal n y e s) :
    IsStore s ⟨n, e, v, i⟩ := ⟨hn, y, h, hv⟩

theorem pow_256 (n : Nat) : 256 ^ n = 2 ^ (8 * n) := (pow_mul 2 8 n).symm

/-- A value no longer than the bytes stored is stored whole. -/
theorem lowBytes_setWidth {w : Nat} (v : BitVec w) (hw : w ≤ 8 * n) (hn : n ≤ 8) : lowBytes n (v.setWidth 64) = v.setWidth 64 := by
  have hv : v.toNat < 2 ^ (8 * n) := v.isLt.trans_le (Nat.pow_le_pow_right (by decide) hw)
  have hp : 2 ^ (8 * n) ≤ 2 ^ 64 := Nat.pow_le_pow_right (by decide) (by omega)
  apply BitVec.eq_of_toNat_eq
  rw [lowBytes, pow_256, BitVec.toNat_setWidth, Nat.mod_eq_of_lt (hv.trans_le hp), Nat.mod_eq_of_lt hv, BitVec.toNat_ofNat,
    Nat.mod_eq_of_lt (hv.trans_le hp)]

/-- The lane of a register from bit `lo` up (R394 to R399). -/
theorem lowBytes_laneOf (n lo : Nat) (v : Word) : lowBytes n (laneOf lo v) = (v.extractLsb' lo (8 * n)).setWidth 64 := by
  have hv : v.toNat >>> lo < 2 ^ 64 := (Nat.shiftRight_le _ _).trans_lt (v.isLt.trans (by decide))
  apply BitVec.eq_of_toNat_eq
  simp only [lowBytes, laneOf, pow_256, BitVec.toNat_setWidth, BitVec.toNat_ushiftRight, BitVec.toNat_ofNat, BitVec.extractLsb'_toNat,
    Nat.mod_eq_of_lt hv]

theorem lowBytes_eight (v : DWord) : lowBytes 8 v = v := lowBytes_setWidth v le_rfl le_rfl

/-- Every form of a store is one (R390 to R399, R305). -/
theorem allStores_isStore (r : Reg) (x : XReg) (q : StatusReg) (h : Half) (v : Byte) (m : Addr1) (g : Addr2) (a : Word) (b : Fin 16)
    (off : BitVec 28) (s : State) : ∀ p ∈ allStores r x q h v m g a b off s, IsStore s p := by
  have word {e i} := isStore_of_storeVal (s := s) (e := e) (i := i) (by decide) (lowBytes_laneOf_zero (readReg r s))
  have byte {lo e i} := isStore_of_storeVal (s := s) (e := e) (i := i) (by decide) (lowBytes_laneOf 1 lo (readReg r s))
  have half {lo e i} := isStore_of_storeVal (s := s) (e := e) (i := i) (by decide) (lowBytes_laneOf 2 lo (readReg r s))
  have pair {e i} := isStore_of_storeVal (s := s) (e := e) (i := i) (by decide) (lowBytes_eight (readX x s))
  have imm16 {e i} := isStore_of_storeVal (s := s) (e := e) (i := i) (n := 2) (by decide) (lowBytes_setWidth h (by decide) (by decide))
  have imm8 {e i} := isStore_of_storeVal (s := s) (e := e) (i := i) (n := 1) (by decide) (lowBytes_setWidth v (by decide) (by decide))
  have status {e i} := isStore_of_storeVal (s := s) (e := e) (i := i) (n := 4) (by decide)
    (lowBytes_setWidth (readStatus q s) (by decide) (by decide))
  simp only [allStores, List.forall_mem_append, List.forall_mem_cons, List.not_mem_nil, false_implies, implies_true, and_true, and_assoc]
  exact ⟨word rfl, byte rfl, byte rfl, byte rfl, byte rfl, half rfl, half rfl, pair rfl, word rfl, pair rfl,
    word rfl, byte rfl, byte rfl, byte rfl, byte rfl, half rfl, half rfl, pair rfl,
    word rfl, byte rfl, byte rfl, byte rfl, byte rfl, half rfl, half rfl, pair rfl,
    imm16 rfl, imm8 rfl, imm16 rfl, imm8 rfl, status rfl⟩

/-- Every read-modify-write reads and writes through one operand (R411 to R419). -/
theorem allUpdates_exec (h : Half) (v : Byte) (m : Addr1) (s : State) :
    ∀ p ∈ allUpdates h v m s, ∃ f, exec p.instr s = modifyMem p.width f p.operand s := by
  simp only [allUpdates, List.forall_mem_cons, List.not_mem_nil, false_implies, implies_true, and_true]
  exact ⟨⟨fun w => w ||| h.setWidth 64, rfl⟩, ⟨fun w => w ||| v.setWidth 64, rfl⟩, ⟨fun w => w &&& h.setWidth 64, rfl⟩,
    ⟨fun w => w &&& v.setWidth 64, rfl⟩, ⟨fun w => w ^^^ h.setWidth 64, rfl⟩, ⟨fun w => w ^^^ v.setWidth 64, rfl⟩⟩

/-- Every copy reads through one operand and writes through the other (R400 to R404). -/
theorem allCopies_exec (d m : Addr1) (k j : Addr3) (s : State) :
    ∀ p ∈ allCopies d m k j s, exec p.instr s = moveMem p.width p.dst p.src s := by
  simp only [allCopies, List.forall_mem_cons, List.not_mem_nil, false_implies, implies_true, and_true]
  exact ⟨rfl, rfl, rfl, rfl, rfl⟩

/-! ### Performed accesses -/

/-- The bytes stored and those marked as stored are the same (R152). -/
theorem mem_stored_markStored (a : Word) (n : Nat) (s : State) (b : Nat) :
    b ∈ (markStored a n s).cur.stored ↔ b ∈ s.cur.stored ∨ b ∈ byteAddrs a.toNat n := mem_insertAddrs _ _ _

theorem storeFree_cases (a : Word) (n : Nat) (y : DWord) (s : State) :
    storeFree a n y s = spend 1 (storeBytes a n y s) ∨ storeFree a n y s = spend 1 (markStored a n s) := by
  unfold storeFree
  cases drawBit 0 s
  · exact .inr rfl
  · exact .inl rfl

/-- A store to ROM or FLASH, where nothing forbids it (log entry 37). -/
theorem memWrite_of_readOnly (ha : a.toNat % n = 0) (hr : regionOf s.cfg a = some .rom ∨ regionOf s.cfg a = some .flash)
    (hp : apAllows s.cfg true s.pre.ists.currlink s.pre.dsts.clink a = true) : memWrite a n y s = .next (storeFree a n y s) := by
  obtain h | h := hr <;> simp [memWrite, isAligned, ha, hp, h]

/-- A write that is performed, then the mode's side effect. -/
theorem storeAttempt_of_memWrite (hw : memWrite e.addr n y s = .next u) (hf : u.cur.fault = s.cur.fault)
    (hs : ∀ b, b ∈ u.cur.stored ↔ b ∈ s.cur.stored ∨ b ∈ byteAddrs e.addr.toNat n) :
    StoreAttempt (storeVal n y e s) n e s (applySide e u) := by
  refine ⟨by rw [storeVal, hw]; rfl, by simpa using hs, sideDone_applySide e u, ?_⟩
  exact onlyRegsAndBytes_trans (onlyRegsAndBytes_of_memWrite hw hf) (onlyRegsAndBytes_of_onlyRegs _ _ (onlyRegs_applySide e u))

/-- A read-modify-write is its read, then a store of what is made of the value read. -/
theorem storeAttempt_modifyMem {f : DWord → DWord} (hr : memRead e.addr n s = .next (y, u)) (hf : u.cur.fault = s.cur.fault)
    (h : StoreAttempt (storeVal n (f y) e u) n e u t) : StoreAttempt (modifyMem n f e s) n e s t := by
  have hu := onlyRegs_of_memRead hr hf
  obtain ⟨hx, hs, hd, ho⟩ := h
  have ⟨_, ⟨_, hst⟩, _⟩ := hu
  exact ⟨by rw [modifyMem, hr]; exact hx, by rw [← hst]; exact hs, hd, onlyRegsAndBytes_trans (onlyRegsAndBytes_of_onlyRegs _ _ hu) ho⟩

/-- A store to a peripheral changes no memory and is reported (R371). -/
theorem storeVal_peripheral (ha : e.addr.toNat % n = 0) (hr : regionOf s.cfg e.addr = some .peripheral)
    (hp : apAllows s.cfg true s.pre.ists.currlink s.pre.dsts.clink e.addr = true) :
    ∃ t, StoreAttempt (storeVal n y e s) n e s t ∧ (∀ c, memByte t.cur.mem c = memByte s.cur.mem c)
      ∧ t.outputs = .deviceWrite e.addr.toNat n (lowBytes n y) :: s.outputs :=
  ⟨_, storeAttempt_of_memWrite (memWrite_of_peripheral ha hr hp) (by simp) (mem_stored_markStored _ _ _), by simp, by simp⟩

theorem loadThrough_peripheral {l : List Reg} {g : DWord → State → State}
    (hg : ∀ y u, onlyRegs l u (g y u) ∧ (g y u).outputs = u.outputs) (ha : e.addr.toNat % n = 0)
    (hr : regionOf s.cfg e.addr = some .peripheral) (hp : apAllows s.cfg false s.pre.ists.currlink s.pre.dsts.clink e.addr = true) :
    ∃ t, loadThrough n g e s = .next t ∧ t.outputs = .deviceRead e.addr.toNat n :: s.outputs ∧ sideDone e t
      ∧ onlyRegs (l ++ sideRegs e) s t := by
  have hm := memRead_of_peripheral ha hr hp
  obtain ⟨ho, hout⟩ := hg (drawData s) (spend 1 (emit (.deviceRead e.addr.toNat n) s))
  refine ⟨_, by rw [loadThrough, hm]; rfl, by simp [hout], sideDone_applySide e _, ?_⟩
  exact onlyRegs_trans (onlyRegs_trans (onlyRegs_of_memRead hm rfl) ho) (onlyRegs_applySide e _)

/-- An aligned access does not wrap. -/
theorem access_le_top (hn : n ∣ 8) (ha : a.toNat % n = 0) : a.toNat + n ≤ 4294967296 := by
  obtain ⟨k, hk⟩ := Nat.dvd_of_mod_eq_zero ha
  obtain ⟨j, hj⟩ : n ∣ 4294967296 := hn.trans (by decide)
  have hlt : n * k < n * j := by rw [← hk, ← hj]; exact a.isLt
  rw [hk, hj, ← Nat.mul_succ]
  exact Nat.mul_le_mul_left n (Nat.lt_of_mul_lt_mul_left hlt)

/-- Byte `k` of the low bytes of a value. -/
theorem byteOf_lowBytes (v : DWord) {k : Nat} (hn : n ≤ 8) (hk : k < n) : byteOf (lowBytes n v) k = byteOf v k := by
  have hlt : v.toNat % 256 ^ n < 2 ^ 64 := (Nat.mod_le _ _).trans_lt v.isLt
  rw [byteOf_eq_ofNat, byteOf_eq_ofNat, lowBytes, BitVec.toNat_ofNat, Nat.mod_eq_of_lt hlt]
  apply BitVec.eq_of_toNat_eq
  obtain ⟨j, rfl⟩ : ∃ j, n = k + (1 + j) := ⟨n - k - 1, by omega⟩
  simp only [BitVec.toNat_ofNat, pow_add, Nat.mod_mul_right_div_self]
  exact Nat.mod_mul_right_mod _ _ _

/-- A store to ROM or FLASH leaves memory as it was, or its bytes hold the value (log entry 37). -/
theorem storeVal_readOnly (hn : n ∣ 8) (ha : e.addr.toNat % n = 0)
    (hr : regionOf s.cfg e.addr = some .rom ∨ regionOf s.cfg e.addr = some .flash)
    (hp : apAllows s.cfg true s.pre.ists.currlink s.pre.dsts.clink e.addr = true) :
    ∃ t, StoreAttempt (storeVal n y e s) n e s t ∧ t.outputs = s.outputs
      ∧ ((∀ c, memByte t.cur.mem c = memByte s.cur.mem c) ∨ ∀ k < n, newByte t e.addr k = byteOf (lowBytes n y) k) := by
  have hw := memWrite_of_readOnly (y := y) ha hr hp
  obtain h | h := storeFree_cases e.addr n y s <;> rw [h] at hw
  · refine ⟨_, storeAttempt_of_memWrite hw (by simp) (mem_stored_storeBytes _ _ _ _), by simp, .inr fun k hk => ?_⟩
    rw [byteOf_lowBytes y (Nat.le_of_dvd (by decide) hn) hk, newByte, applySide_cur_mem, spend_cur, storeBytes_cur_mem,
      memByte_writeLE_byteOf _ _ _ (access_le_top hn ha) hk]
  · exact ⟨_, storeAttempt_of_memWrite hw (by simp) (mem_stored_markStored _ _ _), by simp, .inl (by simp)⟩

/-- A read-modify-write of a peripheral reports its read, then its write. -/
theorem modifyMem_peripheral {f : DWord → DWord} (ha : e.addr.toNat % n = 0) (hr : regionOf s.cfg e.addr = some .peripheral)
    (hpr : apAllows s.cfg false s.pre.ists.currlink s.pre.dsts.clink e.addr = true)
    (hpw : apAllows s.cfg true s.pre.ists.currlink s.pre.dsts.clink e.addr = true) :
    ∃ t w, StoreAttempt (modifyMem n f e s) n e s t ∧ (∀ c, memByte t.cur.mem c = memByte s.cur.mem c)
      ∧ t.outputs = .deviceWrite e.addr.toNat n w :: .deviceRead e.addr.toNat n :: s.outputs := by
  obtain ⟨t, hs, hm, ho⟩ := storeVal_peripheral (s := spend 1 (emit (.deviceRead e.addr.toNat n) s)) (y := f (drawData s)) ha hr hpw
  exact ⟨t, _, storeAttempt_modifyMem (memRead_of_peripheral ha hr hpr) rfl hs, hm, ho⟩

/-- Settles O22: the read and the write of each form, at an address of each region. -/
theorem deviceAndReadOnlyRegions : Obligations.DeviceAndReadOnlyRegions := by
  unfold Obligations.DeviceAndReadOnlyRegions
  intro s r x q h v m g a b off
  refine ⟨fun p hp ha hpr hr => ?_, fun p hp ha hpw => ?_, fun p hp ha hpr hpw hr => ?_⟩
  · obtain ⟨f, hx, hf⟩ := registerLoads_isRegisterLoad r x m g a b off s p hp
    rw [hx]
    exact loadThrough_peripheral hf ha hr hpr
  · obtain ⟨hn, y, hx, hv⟩ := allStores_isStore r x q h v m g a b off s p hp
    rw [hx, ← hv]
    exact ⟨fun hr => storeVal_peripheral ha hr hpw, fun hr => storeVal_readOnly hn ha hr hpw⟩
  · obtain ⟨f, hx⟩ := allUpdates_exec h v m s p hp
    rw [hx]
    exact modifyMem_peripheral ha hr hpr hpw

end Sys2Proof.Proofs
end

section
/-! PROOFS. Accesses that are not performed: misaligned ones, O25, and those the SSU does not permit or that meet no memory, O26. What a refused
read or write leaves, then what each kind of instruction makes of it. -/

namespace Sys2Proof.Proofs

open Sys2Proof.Machine Sys2Proof.Laws

variable {s t u : State} {a b : Word} {n : Nat} {y : DWord} {e : EffAddr} {c : Cause} {l : List Output} {k : State → State}

/-! ### Refused reads and writes -/

/-- From `s` to `t` the fault `c` is raised, `l` is reported and memory stays. -/
def refuses (c : Cause) (l : List Output) (s t : State) : Prop :=
  t.cur.fault = some c ∧ (∀ o ∈ l, o ∈ t.outputs) ∧ keepsMemory s t

theorem refuses_silent (hk : silent k) (h : refuses c l s u) : refuses c l s (k u) := by
  obtain ⟨hf, ho, hm⟩ := hk u
  obtain ⟨h1, h2, h3⟩ := h
  exact ⟨hf.trans h1, fun o hl => ho ▸ h2 o hl, keepsMemory_trans h3 hm⟩

theorem faultsWith_of_refuses {o : Res State} (ho : o = .next t) (h : refuses c l s t) : FaultsWith o c s := by
  obtain ⟨hf, -, hm⟩ := h
  exact ⟨t, ho, hf, hm⟩

theorem denied_of_refuses {o : Res State} (ho : o = .next t) (h : refuses .protectionViolation [.accessError a.toNat] s t) :
    Denied o a s := by
  obtain ⟨hf, hl, hm⟩ := h
  exact ⟨t, ho, hf, hl _ (List.mem_singleton_self _), hm⟩

/-- A report stays reported. -/
theorem mem_outputs_raise (c : Cause) {o : Output} (h : o ∈ s.outputs) : o ∈ (raise c s).outputs := by
  unfold raise
  split
  · exact h
  · exact List.mem_cons_of_mem _ h

/-- What the alignment check does to an access (R130, D15). -/
theorem refuses_misaligned (hf : s.cur.fault = none) : refuses .addressingFault [] s (raise .addressingFault s) :=
  ⟨by simp [raise_cur_fault, hf], fun o ho => by simp at ho, keepsMemory_of_eq (by simp) (by simp)⟩

/-- What the protection check does to an access (R160, D26). -/
theorem refuses_denied (hf : s.cur.fault = none) (a : Word) : refuses .protectionViolation [.accessError a.toNat] s
    (raise .protectionViolation (emit (.accessError a.toNat) s)) :=
  ⟨by simp [raise_cur_fault, hf], fun o ho => mem_outputs_raise _ (by simpa using Or.inl (List.mem_singleton.1 ho)),
    keepsMemory_of_eq (by simp) (by simp)⟩

theorem silent_spend (j : Nat) : silent (spend j) := fun _ => ⟨rfl, rfl, fun _ => rfl, rfl⟩

theorem memRead_misaligned (hf : s.cur.fault = none) (ha : a.toNat % n ≠ 0) :
    ∃ y u, memRead a n s = .next (y, u) ∧ refuses .addressingFault [] s u :=
  ⟨_, _, by rw [memRead, if_pos (by simp [isAligned, ha])], refuses_silent (silent_spend 1) (refuses_misaligned hf)⟩

theorem memRead_denied (hf : s.cur.fault = none) (ha : a.toNat % n = 0)
    (hp : apAllows s.cfg false s.pre.ists.currlink s.pre.dsts.clink a = false) :
    ∃ y u, memRead a n s = .next (y, u) ∧ refuses .protectionViolation [.accessError a.toNat] s u :=
  ⟨_, _, by rw [memRead, if_neg (by simp [isAligned, ha]), if_pos (by simp [hp])], refuses_silent (silent_spend 1) (refuses_denied hf a)⟩

theorem memRead_unmapped (hf : s.cur.fault = none) (ha : a.toNat % n = 0)
    (hp : apAllows s.cfg false s.pre.ists.currlink s.pre.dsts.clink a = true) (hr : regionOf s.cfg a = none) :
    memRead a n s = .fault (.unmapped a.toNat) := by
  simp [memRead, isAligned, ha, hp, hr, hf]

theorem memWrite_misaligned (hf : s.cur.fault = none) (ha : a.toNat % n ≠ 0) :
    ∃ u, memWrite a n y s = .next u ∧ refuses .addressingFault [] s u :=
  ⟨_, by rw [memWrite, if_pos (by simp [isAligned, ha])], refuses_misaligned hf⟩

theorem memWrite_denied (hf : s.cur.fault = none) (ha : a.toNat % n = 0)
    (hp : apAllows s.cfg true s.pre.ists.currlink s.pre.dsts.clink a = false) :
    ∃ u, memWrite a n y s = .next u ∧ refuses .protectionViolation [.accessError a.toNat] s u :=
  ⟨_, by rw [memWrite, if_neg (by simp [isAligned, ha]), if_pos (by simp [hp])], refuses_denied hf a⟩

theorem memWrite_unmapped (hf : s.cur.fault = none) (ha : a.toNat % n = 0)
    (hp : apAllows s.cfg true s.pre.ists.currlink s.pre.dsts.clink a = true) (hr : regionOf s.cfg a = none) :
    memWrite a n y s = .fault (.unmapped a.toNat) := by
  simp [memWrite, isAligned, ha, hp, hr, hf]

/-- A write takes no report back. -/
theorem mem_outputs_memWrite (h : memWrite a n y s = .next t) {o : Output} (ho : o ∈ s.outputs) : o ∈ t.outputs := by
  have hfree : o ∈ (storeFree a n y s).outputs := by
    obtain e | e := storeFree_cases a n y s <;> rw [e] <;> exact ho
  unfold memWrite at h
  split at h
  · cases h; exact mem_outputs_raise _ ho
  · split at h
    · cases h; exact mem_outputs_raise _ (List.mem_cons_of_mem _ ho)
    · split at h
      · split at h <;> cases h
        exact ho
      · cases h; exact List.mem_cons_of_mem _ ho
      · cases h; exact hfree
      · cases h; exact hfree
      all_goals cases h; exact ho

/-! ### Loads and stores -/

theorem loadThrough_refuses {g : DWord → State → State} (hg : ∀ y, silent (g y))
    (hr : ∃ y u, memRead e.addr n s = .next (y, u) ∧ refuses c l s u) : ∃ t, loadThrough n g e s = .next t ∧ refuses c l s t := by
  obtain ⟨y, u, hm, hu⟩ := hr
  exact ⟨_, by rw [loadThrough, hm]; rfl, refuses_silent (silent_applySide e) (refuses_silent (hg y) hu)⟩

theorem storeVal_refuses (hw : ∃ u, memWrite e.addr n y s = .next u ∧ refuses c l s u) :
    ∃ t, storeVal n y e s = .next t ∧ refuses c l s t := by
  obtain ⟨u, hm, hu⟩ := hw
  exact ⟨_, by rw [storeVal, hm]; rfl, refuses_silent (silent_applySide e) hu⟩

/-! ### Read-modify-writes and copies -/

/-- A read at `a`, then a write at `b` of what `f` makes of the value, then `k`: what a read-modify-write and a copy have in common. -/
def readThenWrite (n : Nat) (a b : Word) (f : DWord → DWord) (k : State → State) (s : State) : Res State :=
  andThen (memRead a n s) fun v => andThen (memWrite b n (f v.1) v.2) fun u => .next (k u)

theorem modifyMem_eq (n : Nat) (f : DWord → DWord) (e : EffAddr) (s : State) :
    modifyMem n f e s = readThenWrite n e.addr e.addr f (applySide e) s := rfl

theorem moveMem_eq (n : Nat) (dst src : EffAddr) (s : State) :
    moveMem n dst src s = readThenWrite n src.addr dst.addr id (fun u => applySide dst (applySide src u)) s := rfl

variable {f : DWord → DWord}

/-- Where the read is refused the write is still attempted, and the first fault stays (log entry 31). -/
theorem readThenWrite_raises (hk : silent k) (hr : ∃ y u, memRead a n s = .next (y, u) ∧ refuses c l s u) :
    ∃ t, readThenWrite n a b f k s = .next t ∧ t.cur.fault = some c ∧ ∀ o ∈ l, o ∈ t.outputs := by
  obtain ⟨y, u, hm, hf, hl, -⟩ := hr
  obtain ⟨v, hw, hv⟩ := memWrite_raises b n (f y) hf
  obtain ⟨kf, ko, -⟩ := hk v
  exact ⟨k v, by simp [readThenWrite, hm, hw], kf.trans hv, fun o h => ko ▸ mem_outputs_memWrite hw (hl o h)⟩

/-- Where the address of both accesses is misaligned neither is performed. -/
theorem readThenWrite_misaligned (hk : silent k) (hf : s.cur.fault = none) (ha : a.toNat % n ≠ 0) :
    ∃ t, readThenWrite n a a f k s = .next t ∧ refuses .addressingFault [] s t := by
  obtain ⟨y, u, hm, hu⟩ := memRead_misaligned hf ha
  have hw : memWrite a n (f y) u = .next (raise .addressingFault u) := by rw [memWrite, if_pos (by simp [isAligned, ha])]
  refine ⟨_, by rw [readThenWrite, hm, andThen_next, hw]; rfl, refuses_silent hk ?_⟩
  obtain ⟨h1, h2, h3⟩ := hu
  exact ⟨by simp [raise_cur_fault, h1], fun o h => mem_outputs_raise _ (h2 o h),
    keepsMemory_trans h3 (keepsMemory_of_eq (by simp) (by simp))⟩

/-- After a read in order a refused write leaves memory alone. -/
theorem readThenWrite_refuses (hk : silent k) (hr : readOk a n s) (hw : ∀ y, ∃ u, memWrite b n y s = .next u ∧ refuses c l s u) :
    ∃ t, readThenWrite n a b f k s = .next t ∧ refuses c l s t := by
  obtain ⟨u, hm, hu⟩ := hw (f (BitVec.ofNat 64 (readLE s.pre.mem a.toNat n)))
  exact ⟨k u, by simp [readThenWrite, memRead_of_readOk a n s hr, hm], refuses_silent hk hu⟩

theorem readThenWrite_read_unmapped (hf : s.cur.fault = none) (ha : a.toNat % n = 0)
    (hp : apAllows s.cfg false s.pre.ists.currlink s.pre.dsts.clink a = true) (hr : regionOf s.cfg a = none) :
    readThenWrite n a b f k s = .fault (.unmapped a.toNat) := by
  rw [readThenWrite, memRead_unmapped hf ha hp hr]
  rfl

theorem readThenWrite_write_unmapped (hf : s.cur.fault = none) (hr : readOk a n s) (hb : b.toNat % n = 0)
    (hp : apAllows s.cfg true s.pre.ists.currlink s.pre.dsts.clink b = true) (hm : regionOf s.cfg b = none) :
    readThenWrite n a b f k s = .fault (.unmapped b.toNat) := by
  rw [readThenWrite, memRead_of_readOk a n s hr, andThen_next, memWrite_unmapped hf hb hp hm]
  rfl

/-! ### Every form -/

/-- The loads of all forms are loads. -/
theorem allLoads_isLoad (r : Reg) (x : XReg) (q : StatusReg) (m : Addr1) (g : Addr2) (a : Word) (b : Fin 16) (off : BitVec 28) (s : State) :
    ∀ p ∈ registerLoads r x m g a b off s ++ systemLoads q m a s, IsLoad s p := by
  rw [List.forall_mem_append]
  exact ⟨fun p hp => isLoad_of_isRegisterLoad (registerLoads_isRegisterLoad r x m g a b off s p hp), systemLoads_isLoad q m a s⟩

theorem silent_copySides (dst src : EffAddr) : silent fun u => applySide dst (applySide src u) :=
  silent_comp (silent_applySide dst) (silent_applySide src)

/-- Settles O25: the alignment check comes first in every access. -/
theorem misalignedAccessFaults : Obligations.MisalignedAccessFaults := by
  unfold Obligations.MisalignedAccessFaults
  intro s r x q h v d m k j g a b off hf
  simp only [List.forall_mem_append (l₁ := allStores r x q h v m g a b off s)]
  refine ⟨fun p hp ha => ?_, ⟨fun p hp ha => ?_, fun p hp ha => ?_⟩, fun p hp => ?_⟩
  · obtain ⟨f, hx, hg⟩ := allLoads_isLoad r x q m g a b off s p hp
    obtain ⟨t, ht, hr⟩ := loadThrough_refuses hg (memRead_misaligned hf ha)
    exact faultsWith_of_refuses (hx.trans ht) hr
  · obtain ⟨-, y, hx, -⟩ := allStores_isStore r x q h v m g a b off s p hp
    obtain ⟨t, ht, hr⟩ := storeVal_refuses (memWrite_misaligned hf ha)
    exact faultsWith_of_refuses (hx.trans ht) hr
  · obtain ⟨f, hx⟩ := allUpdates_exec h v m s p hp
    obtain ⟨t, ht, hr⟩ := readThenWrite_misaligned (f := f) (silent_applySide p.operand) hf ha
    exact faultsWith_of_refuses (hx.trans ht) hr
  · rw [allCopies_exec d m k j s p hp, moveMem_eq]
    have hk := silent_copySides p.dst p.src
    refine ⟨fun ha => ?_, fun hr ha => ?_⟩
    · obtain ⟨t, ht, hc, -⟩ := readThenWrite_raises hk (memRead_misaligned hf ha)
      exact ⟨t, ht, hc⟩
    · obtain ⟨t, ht, hr⟩ := readThenWrite_refuses hk hr fun _ => memWrite_misaligned hf ha
      exact faultsWith_of_refuses ht hr

/-- Settles O26: the protection check comes next, then the memory map. -/
theorem forbiddenAccessFaults : Obligations.ForbiddenAccessFaults := by
  unfold Obligations.ForbiddenAccessFaults
  intro s r x q h v d m k j g a b off hf
  refine ⟨fun p hp ha => ?_, fun p hp ha => ?_, fun p hp ha => ?_, fun p hp hsrc hdst => ?_⟩
  · obtain ⟨f, hx, hg⟩ := allLoads_isLoad r x q m g a b off s p hp
    refine ⟨fun hn => ?_, fun hy hr => ?_⟩
    · obtain ⟨t, ht, hr⟩ := loadThrough_refuses hg (memRead_denied hf ha hn)
      exact denied_of_refuses (hx.trans ht) hr
    · rw [hx, loadThrough, memRead_unmapped hf ha hy hr]
      rfl
  · obtain ⟨-, y, hx, -⟩ := allStores_isStore r x q h v m g a b off s p hp
    refine ⟨fun hn => ?_, fun hy hr => ?_⟩
    · obtain ⟨t, ht, hr⟩ := storeVal_refuses (memWrite_denied hf ha hn)
      exact denied_of_refuses (hx.trans ht) hr
    · rw [hx, storeVal, memWrite_unmapped hf ha hy hr]
      rfl
  · obtain ⟨f, hx⟩ := allUpdates_exec h v m s p hp
    have hk := silent_applySide p.operand
    rw [hx, modifyMem_eq]
    refine ⟨fun hn => ?_, fun hr hn => ?_, readThenWrite_read_unmapped hf ha⟩
    · obtain ⟨t, ht, hc, hl⟩ := readThenWrite_raises hk (memRead_denied hf ha hn)
      exact ⟨t, ht, hc, hl _ (List.mem_singleton_self _)⟩
    · obtain ⟨t, ht, hr⟩ := readThenWrite_refuses hk hr fun _ => memWrite_denied hf ha hn
      exact denied_of_refuses ht hr
  · have hk := silent_copySides p.dst p.src
    rw [allCopies_exec d m k j s p hp, moveMem_eq]
    refine ⟨fun hn => ?_, fun hr hn => ?_, readThenWrite_read_unmapped hf hsrc, fun hr => readThenWrite_write_unmapped hf hr hdst⟩
    · obtain ⟨t, ht, hc, hl⟩ := readThenWrite_raises hk (memRead_denied hf hsrc hn)
      exact ⟨t, ht, hc, hl _ (List.mem_singleton_self _)⟩
    · obtain ⟨t, ht, hr⟩ := readThenWrite_refuses hk hr fun _ => memWrite_denied hf hdst hn
      exact denied_of_refuses ht hr

end Sys2Proof.Proofs
end

section
/-! PROOFS. What the ADDR2, ADDR3 and DIRM modes compute: O28. -/

namespace Sys2Proof.Proofs

open Sys2Proof.Machine Sys2Proof.Laws

/-- The scale of an access of 2^g bytes is g (R201). -/
theorem accessScale_two_pow {g : Nat} (h : g < 4) : accessScale (2 ^ g) = g := by interval_cases g <;> rfl

/-- The ADDR2 base z is A(4+z) (R200). -/
theorem baseReg_val (z : Fin 4) : (baseReg z).val = 4 + z.val := by simp [baseReg]; omega

/-- A shift left by two is a product with four. -/
theorem shiftLeft_two_eq_mul (v : Word) : v <<< 2 = 4 * v := by bv_omega

/-- Settles O28: each mode by its own arm, the base register read before the packet. -/
theorem addr2Addr3AndDirectModes : Obligations.Addr2Addr3AndDirectModes := by
  unfold Obligations.Addr2Addr3AndDirectModes
  refine ⟨fun s z g hg => ?_, fun s h => ?_, fun s a x off => ⟨rfl, rfl⟩⟩
  · simp [evalAddr2, plainAddr, accessScale_two_pow hg, baseReg_val, readA]
  · simp [evalAddr3, plainAddr, zext32, shiftLeft_two_eq_mul, readA]

end Sys2Proof.Proofs
end

section
/-! PROOFS. The step where no legal packet can be formed: O59. -/

namespace Sys2Proof.Proofs

open Sys2Proof.Machine Sys2Proof.Laws

variable {s : State}

/-- A faulting packet keeps what both of its states agree on (R500). -/
theorem pick_self {α : Type} (k : Nat) (x : α) : pick k x x = x := by simp [pick]

/-- A formation that fails only raises its cause (R504, R515). -/
theorem failFormation_untouched (f : Formed) (s : State) :
    (failFormation f s).pre = s.pre ∧ (failFormation f s).cur.a = s.cur.a ∧ (failFormation f s).cur.d = s.cur.d
      ∧ (failFormation f s).cur.m = s.cur.m ∧ (failFormation f s).cur.mem = s.cur.mem ∧ (failFormation f s).cur.pc = s.cur.pc := by
  cases f <;> simp [failFormation]

/-- A step that faults before any write ends with working registers, memory and program counter as they were, and keeps its cause and its
reports (R500). -/
theorem commit_failFormation {f : Formed} {c : Cause} (hf : (failFormation f (openStep s)).cur.fault = some c) :
    (commit (failFormation f (openStep s))).cur.fault = some c
      ∧ (commit (failFormation f (openStep s))).outputs = (failFormation f (openStep s)).outputs
      ∧ (commit (failFormation f (openStep s))).cur.mem = s.cur.mem ∧ keepsRegs [] s (commit (failFormation f (openStep s)))
      ∧ (commit (failFormation f (openStep s))).cur.pc = s.cur.pc := by
  obtain ⟨hpre, ha, hd, hm, hx, hp⟩ := failFormation_untouched f (openStep s)
  generalize failFormation f (openStep s) = u at *
  obtain ⟨hcur, hout⟩ : (commit u).cur = blur u.free u.pre u.cur ∧ (commit u).outputs = u.outputs := by simp [commit, hf]
  refine ⟨by rw [hcur]; exact hf, hout, ?_, fun r _ => ?_, ?_⟩
  · simp [hcur, blur, hpre, hx, pick_self, openStep]
  · cases r <;> simp [curReg, hcur, blur, hpre, ha, hd, hm, pick_self, openStep]
  · simp [hcur, blur, hpre, hp, pick_self, openStep]

/-- Where nothing is expected the marker check of a packet that cannot be formed finds nothing. -/
theorem checkMarker_of_no_expectation {is : List Instr} (h : s.cur.expect = .none ∨ s.cur.expect = .firstOfInt) : checkMarker is s = s := by
  rcases h with h | h <;> simp [checkMarker, missingMarker, h]

/-- Where no packet can be formed and nothing is expected, the step only raises the cause of that. -/
theorem step_of_unformed {f : Formed} (hr : running s) (hc : choose s.cur = .packet) (hi : s.cur.idle = false) (he : s.cur.pc.toNat % 2 = 0)
    (hx : s.cur.expect = .none ∨ s.cur.expect = .firstOfInt) (hf : formPacket 8 s.cur.pc.toNat 0 (openStep s) = .next f)
    (hn : ∀ is fin, f ≠ .packet is fin) : step s = .next (commit (failFormation f (openStep s))) := by
  have hm : checkMarker [] (openStep s) = openStep s := checkMarker_of_no_expectation hx
  rw [step_eq_runPacket hr hc hi]
  cases f with
  | packet is fin => exact absurd rfl (hn is fin)
  | undecodable | denied a => simp [runPacket, he, hf, hm]

/-- Settles O59: nothing is written between the opening of the step and the fault. -/
theorem undecodableStreamTimesOut : Obligations.UndecodableStreamTimesOut := by
  unfold Obligations.UndecodableStreamTimesOut
  intro s hcfg hin hf hdbg hi he hc hx
  have hr : running s := ⟨hcfg, hin, hf, by rw [hdbg]; exact ⟨rfl, rfl⟩⟩
  have hn : (openStep s).cur.fault = none := hf
  refine ⟨fun h => ?_, fun a h => ?_⟩
  · obtain ⟨hcause, -, hkept⟩ := commit_failFormation (s := s) (f := .undecodable) (c := .instructionTimeout)
      (by simp [failFormation, raise_fault, hn])
    exact ⟨_, step_of_unformed hr hc hi he hx h (by simp), hcause, hkept⟩
  · obtain ⟨hcause, hout, hkept⟩ := commit_failFormation (s := s) (f := .denied a) (c := .protectionViolation)
      (by simp [failFormation, raise_fault, hn])
    refine ⟨_, step_of_unformed hr hc hi he hx h (by simp), hcause, ?_, hkept⟩
    rw [hout]
    exact mem_outputs_raise _ (List.mem_cons_self ..)

end Sys2Proof.Proofs
end

section
/-! PROOFS. The decoder reads back what the encoder writes: O1, and the words of O2. An instruction is encoded in one of three forms by its
number of words; for each form the decoder's group and its parameters are those the encoder was given, and each operand reads back. -/

namespace Sys2Proof.Proofs

open Sys2Proof.Laws

/-! ### Bytes -/

/-- The words `ws` are those of one instruction and the decoder reads `i` from them. -/
def ReadsAs (ws : List Nat) (i : Instr) : Prop :=
  sizeWords (ws.headD 0) = ws.length ∧ (∀ w ∈ ws, w < 65536) ∧ decodeWords (ws.getD 0 0) (ws.getD 1 0) (ws.getD 2 0) = .ok i

/-- A word is read back from its two bytes (R127). -/
theorem bytesWord_wordBytes {w : Nat} (h : w < 65536) : bytesWord (BitVec.ofNat 8 w) (BitVec.ofNat 8 (w / 256)) = w := by
  simp only [bytesWord, BitVec.toNat_ofNat]; omega

/-- What the decoder reads from the words it reads from their bytes, and leaves the rest (R172). -/
theorem decode_of_readsAs {ws : List Nat} {i : Instr} (h : ReadsAs ws i) (rest : List Byte) :
    decode (ws.flatMap wordBytes ++ rest) = .ok (i, rest) := by
  obtain ⟨hn, hw, hd⟩ := h
  have hsize := sizeWords_le (ws.headD 0)
  match ws with
  | [] => exact absurd hn (by decide)
  | [a] =>
    have ha : a < 65536 := hw a (by simp)
    have hn : sizeWords a = 1 := hn
    have hd : decodeWords a 0 0 = .ok i := hd
    simp [decode, wordBytes, bytesWord_wordBytes ha, hn, hd, Except.map]
  | [a, b] =>
    have ha : a < 65536 := hw a (by simp)
    have hb : b < 65536 := hw b (by simp)
    have hn : sizeWords a = 2 := hn
    have hd : decodeWords a b 0 = .ok i := hd
    simp [decode, wordBytes, bytesWord_wordBytes ha, bytesWord_wordBytes hb, hn, hd, Except.map]
  | [a, b, c] =>
    have ha : a < 65536 := hw a (by simp)
    have hb : b < 65536 := hw b (by simp)
    have hc : c < 65536 := hw c (by simp)
    have hn : sizeWords a = 3 := hn
    have hd : decodeWords a b c = .ok i := hd
    simp [decode, wordBytes, bytesWord_wordBytes ha, bytesWord_wordBytes hb, bytesWord_wordBytes hc, hn, hd, Except.map]
  | a :: b :: c :: d :: l => simp only [hn, List.length_cons] at hsize; omega

/-! ### The three forms -/

/-- A field of a field. -/
theorem fld_fld {w lo n lo' n' : Nat} (h : lo' + n' ≤ n) : fld (fld w lo n) lo' n' = fld w (lo + lo') n' := by
  obtain ⟨k, rfl⟩ := Nat.exists_eq_add_of_le h
  simp only [fld, Nat.pow_add, Nat.mod_mul_right_div_self, Nat.div_div_eq_div_mul, Nat.mul_assoc, Nat.mod_mul_right_mod]

/-- The 16-bit groups by their number and their eleven operand bits, as `decodeGroup32` and `decodeGroup48` have them. -/
def decodeGroup16 (sub p : Nat) : Except DecodeError Instr :=
  match sub with
  | 0 => shortImm .addImm p
  | 1 => shortImm .subImm p
  | 2 => .ok (.ld32Addr2 (decodeReg (fld p 5 6)) (readAddr2 (fld p 0 5)))
  | 3 => if p < 256 then .ok (.atomic (BitVec.ofNat 8 p)) else .error .reservedBits
  | 4 => decodeMisc16 p
  | _ => .error .undefinedOpcode

theorem decode16_eq (w : Nat) : decode16 w = decodeGroup16 (fld w 11 3) (fld w 0 11) := by
  have h1 : fld w 5 6 = fld (fld w 0 11) 5 6 := by rw [fld_fld (by decide)]
  have h2 : fld w 0 5 = fld (fld w 0 11) 0 5 := by rw [fld_fld (by decide)]
  rw [decode16, h1, h2]
  rfl

section Forms

variable {op p w v : Nat} {i : Instr}

theorem readsAs_enc16 (hop : op < 8) (hp : p < 2048) (h : decodeGroup16 op p = .ok i) : ReadsAs (enc16 op p) i := by
  refine ⟨count_one _ (by omega) (by omega), by simp [enc16]; omega, ?_⟩
  have h1 : fld (16384 + op * 2048 + p) 11 3 = op := by simp only [fld]; omega
  have h2 : fld (16384 + op * 2048 + p) 0 11 = p := by simp only [fld]; omega
  have h3 : decode16 (16384 + op * 2048 + p) = .ok i := by rw [decode16_eq, h1, h2, h]
  exact (decodeWords_group16 op p 0 0 hop hp).trans h3

theorem readsAs_enc32 (hop : 32 ≤ op) (hop' : op < 128) (hp : p < 64) (hw : w < 65536) (h : decodeGroup32 op p w = .ok i) :
    ReadsAs (enc32 op p w) i :=
  ⟨count_two _ _ (by omega) (by omega), by simp [enc32]; omega, (decodeWords_group32 op p w 0 hop hop' hp).trans h⟩

theorem readsAs_enc48 (hop : op < 40) (hp : p < 128) (hv : v < 4294967296) (h : decodeGroup48 op p v = .ok i) : ReadsAs (enc48 op p v) i :=
  ⟨count_three _ _ _ (by omega), by simp [enc48]; omega, (decodeWords_group48 op p v hop hp).trans h⟩

/-- The 32-bit groups below 8 hold eight operand bits in Word 0. -/
theorem readsAs_lowGroup32 (hop : op < 8) (hp : p < 256) (hw : w < 65536) (h : decode32 (8192 + op * 256 + p) w = .ok i) :
    ReadsAs [8192 + op * 256 + p, w] i := by
  refine ⟨count_two _ _ (by omega) (by omega), by simp; omega, ?_⟩
  have hs : sizeWords (8192 + op * 256 + p) = 2 := sizeWords_two _ (by omega) (by omega)
  simpa [decodeWords, hs] using h

end Forms

/-- A form that is in order is accepted. -/
theorem guard_ok {c : Prop} [Decidable c] {i j : Instr} {e : DecodeError} (hc : c) (h : i = j) :
    (if c then .ok i else .error e) = (.ok j : Except DecodeError Instr) := by
  rw [if_pos hc, h]

/-! ### Operands that share a word -/

theorem finOfNat_val {n : Nat} [NeZero n] (x : Fin n) : Fin.ofNat n x.val = x := finOfNat_eq x _ rfl

theorem ofNat_fld_low16 (a : Nat) (x : Fin 16) : Fin.ofNat 16 (fld (a * 16 + x.val) 0 4) = x :=
  finOfNat_eq x _ (by simp only [fld]; omega)

theorem ofNat_fld_high16 (y x : Fin 16) : Fin.ofNat 16 (fld (y.val * 16 + x.val) 4 4) = y :=
  finOfNat_eq y _ (by simp only [fld]; omega)

theorem ofNat_fld_low32 (a : Nat) (x : Fin 32) : Fin.ofNat 32 (fld (a * 32 + x.val) 0 5) = x :=
  finOfNat_eq x _ (by simp only [fld]; omega)

theorem ofNat_fld_high32 (y x : Fin 32) : Fin.ofNat 32 (fld (y.val * 32 + x.val) 5 5) = y :=
  finOfNat_eq y _ (by simp only [fld]; omega)

theorem ibankCode_lt (b : IBank) : ibankCode b < 2 := by cases b <;> simp [ibankCode]

@[simp] theorem readIBank_ibankCode (b : IBank) : readIBank (ibankCode b) = b := by cases b <;> rfl

theorem bank_field (b : IBank) (z : Fin 16) : readIBank (fld (ibankCode b * 16 + z.val) 4 1) = b := by
  have := ibankCode_lt b
  rw [show fld (ibankCode b * 16 + z.val) 4 1 = ibankCode b by simp only [fld]; omega, readIBank_ibankCode]

theorem fld_lowWord {a b : Nat} (ha : a < 65536) : fld (a + 65536 * b) 0 16 = a := by simp only [fld]; omega

theorem fld_highWord {a b : Nat} (ha : a < 65536) (hb : b < 65536) : fld (a + 65536 * b) 16 16 = b := by simp only [fld]; omega

/-! ### Instructions with an ADDR1 field -/

/-- A well-formed ADDR1 field reads back (R186). -/
theorem addr1Only_addr1Code (f : Addr1 → Instr) {m : Addr1} (hm : m.wf = true) : addr1Only f (addr1Code m) = .ok (f m) := by
  simp [addr1Only, readAddr1_addr1Code m hm, hm]

section Addr1

variable {op : Nat} {m : Addr1} (hm : m.wf = true)
include hm

theorem readsAs_miscAddr1 {f : Addr1 → Instr} (hop : op < 64) (hd : ∀ w, decodeMiscAddr1 op w = addr1Only f w) :
    ReadsAs (enc32 52 op (addr1Code m)) (f m) :=
  readsAs_enc32 (by decide) (by decide) hop (addr1Code_lt m) ((hd _).trans (addr1Only_addr1Code f hm))

theorem readsAs_regAddr1 {f : Reg → Addr1 → Instr} (hop : 32 ≤ op) (hop' : op < 128) (hd : ∀ p w, decodeGroup32 op p w = regAddr1 f p w)
    (r : Reg) : ReadsAs (enc32 op (regCode r) (addr1Code m)) (f r m) :=
  readsAs_enc32 hop hop' (regCode_lt r) (addr1Code_lt m) (by rw [hd, regAddr1, decodeReg_regCode, addr1Only_addr1Code _ hm])

theorem readsAs_xregAddr1 {f : XReg → Addr1 → Instr} (hop : 32 ≤ op) (hop' : op < 128) (hd : ∀ p w, decodeGroup32 op p w = xregAddr1 f p w)
    (x : XReg) : ReadsAs (enc32 op (xregCode x) (addr1Code m)) (f x m) := by
  have hx := xregCode_lt x
  exact readsAs_enc32 hop hop' (by omega) (addr1Code_lt m)
    (by rw [hd, xregAddr1, if_pos hx, decodeXReg_xregCode, addr1Only_addr1Code _ hm])

theorem readsAs_halfAddr1 {f : Addr1 → Half → Instr} (hop : op < 128)
    (hd : ∀ v, decodeMisc48 op v = addr1Only (fun m => f m (BitVec.ofNat 16 (fld v 16 16))) (fld v 0 16)) (imm : Half) :
    ReadsAs (enc48 24 op (addr1Code m + 65536 * imm.toNat)) (f m imm) := by
  have h1 := addr1Code_lt m
  have h2 := imm.isLt
  refine readsAs_enc48 (by decide) hop (by omega) ((hd _).trans ?_)
  rw [fld_lowWord h1, fld_highWord h1 h2, addr1Only_addr1Code _ hm, bvOfNat_eq imm _ rfl]

theorem readsAs_byteAddr1 {f : Addr1 → Byte → Instr} (hop : op < 128) (hd : ∀ v, decodeMisc48 op v = byteParam v f) (imm : Byte) :
    ReadsAs (enc48 24 op (addr1Code m + 65536 * imm.toNat)) (f m imm) := by
  have h1 := addr1Code_lt m
  have h2 := imm.isLt
  refine readsAs_enc48 (by decide) hop (by omega) ((hd _).trans ?_)
  rw [byteParam, fld_lowWord h1, fld_highWord h1 (by omega), if_pos h2, addr1Only_addr1Code _ hm, bvOfNat_eq imm _ rfl]

end Addr1

theorem readsAs_twoAddr1 {op : Nat} {f : Addr1 → Addr1 → Instr} {d m : Addr1} (h : (d.wf && m.wf) = true) (hop : op < 128)
    (hd : ∀ v, decodeMisc48 op v = twoAddr1 v f) : ReadsAs (enc48 24 op (addr1Code d + 65536 * addr1Code m)) (f d m) := by
  have h1 := addr1Code_lt d
  have h2 := addr1Code_lt m
  obtain ⟨hdst, hsrc⟩ := Bool.and_eq_true_iff.1 h
  refine readsAs_enc48 (by decide) hop (by omega) ((hd _).trans ?_)
  rw [twoAddr1, fld_lowWord h1, fld_highWord h1 h2, readAddr1_addr1Code d hdst, readAddr1_addr1Code m hsrc, if_pos h]

/-! ### Instructions with an ADDR2 or an ADDR3 field -/

theorem readsAs_miscAddr2 {op : Nat} {f : Addr2 → Instr} (hop : op < 64) (hd : ∀ w, decodeMiscAddr2 op w = addr2Only f w) (m : Addr2) :
    ReadsAs (enc32 78 op (addr2Code m)) (f m) := by
  have hm := addr2Code_lt m
  refine readsAs_enc32 (by decide) (by decide) hop (by omega) ((hd _).trans ?_)
  rw [addr2Only, if_pos hm, readAddr2_addr2Code]

theorem addr3Code_lt (h : Addr3) : addr3Code h < 4096 := by
  have := h.imm.isLt
  simp only [addr3Code]; omega

theorem readsAs_mv32Addr3 {d m : Addr3} (h : (d.wf && m.wf) = true) : ReadsAs (encode (.mv32Addr3 d m)) (.mv32Addr3 d m) := by
  have h1 := addr3Code_lt d
  have h2 := addr3Code_lt m
  refine readsAs_lowGroup32 (op := 0) (by decide) (by omega) (by omega) ?_
  have hop : fld (8192 + 0 * 256 + addr3Code d / 16) 8 5 = 0 := by simp only [fld]; omega
  have hdst : fld (8192 + 0 * 256 + addr3Code d / 16) 0 8 * 16 + fld (addr3Code d % 16 * 4096 + addr3Code m) 12 4 = addr3Code d := by
    simp only [fld]; omega
  have hsrc : fld (addr3Code d % 16 * 4096 + addr3Code m) 0 12 = addr3Code m := by simp only [fld]; omega
  simp only [decode32, hop, decodeAddr3, hdst, hsrc, readAddr3_addr3Code]
  rw [if_pos h]

/-! ### DIRM instructions -/

section Dirm

variable {direct : Word → Instr} {indexed : Fin 16 → BitVec 28 → Instr} {legal : Prop} [Decidable legal] {p v : Nat} (hl : legal)
include hl

/-- With `I[0]` 0 the parameter is the address (R207). -/
theorem dirm_of_even (h : fld p 0 1 = 0) : dirm direct indexed legal p v = .ok (direct (BitVec.ofNat 32 v)) := by
  simp [dirm, hl, h]

/-- With `I[0]` 1 the parameter is the base register and the offset (R207). -/
theorem dirm_of_odd (h : fld p 0 1 = 1) (hb : notSp (Fin.ofNat 16 (fld v 0 4)) = true) :
    dirm direct indexed legal p v = .ok (indexed (Fin.ofNat 16 (fld v 0 4)) (BitVec.ofNat 28 (fld v 4 28))) := by
  rw [dirm, if_neg (not_not_intro hl), if_neg (by omega), if_pos hb]

end Dirm

theorem encIx_eq (op r : Nat) (b : Fin 16) (off : BitVec 28) : encIx op r b off = enc48 op (r * 2 + 1) (off.toNat * 16 + b.val) := by
  have h1 : off.toNat % 4096 * 16 + b.val = (off.toNat * 16 + b.val) % 65536 := by omega
  have h2 : off.toNat / 4096 = (off.toNat * 16 + b.val) / 65536 := by omega
  rw [encIx, enc48, ← h1, ← h2, Nat.add_assoc]

section DirmForms

variable {op k : Nat} {i : Instr} (hop : op < 40) (hk : k < 64)
include hop hk

theorem readsAs_direct {a : Word} (hd : fld (k * 2) 0 1 = 0 → fld (k * 2) 1 6 = k → decodeGroup48 op (k * 2) a.toNat = .ok i) :
    ReadsAs (enc48 op (k * 2) a.toNat) i :=
  readsAs_enc48 hop (by omega) a.isLt (hd (by simp only [fld]; omega) (by simp only [fld]; omega))

theorem readsAs_indexed {b : Fin 16} {off : BitVec 28}
    (hd : ∀ v, fld (k * 2 + 1) 0 1 = 1 → fld (k * 2 + 1) 1 6 = k → Fin.ofNat 16 (fld v 0 4) = b → BitVec.ofNat 28 (fld v 4 28) = off →
      decodeGroup48 op (k * 2 + 1) v = .ok i) : ReadsAs (encIx op k b off) i := by
  have ho := off.isLt
  have hoff : fld (off.toNat * 16 + b.val) 4 28 = off.toNat := by simp only [fld]; omega
  rw [encIx_eq]
  exact readsAs_enc48 hop (by omega) (by omega)
    (hd _ (by simp only [fld]; omega) (by simp only [fld]; omega) (ofNat_fld_low16 _ _) (bvOfNat_eq off _ hoff))

end DirmForms

section DirmRegisters

variable {op : Nat} (hop : op < 40)
include hop

theorem readsAs_regDirect {f : Reg → Word → Instr}
    (hd : ∀ p v, fld p 0 1 = 0 → decodeGroup48 op p v = .ok (f (decodeReg (fld p 1 6)) (BitVec.ofNat 32 v))) (r : Reg) (a : Word) :
    ReadsAs (enc48 op (regCode r * 2) a.toNat) (f r a) :=
  readsAs_direct hop (regCode_lt r) fun h0 h1 => by rw [hd _ _ h0, h1, decodeReg_regCode, bvOfNat_eq a _ rfl]

/-- A store names its register last. -/
theorem readsAs_storeDirect {f : Word → Reg → Instr}
    (hd : ∀ p v, fld p 0 1 = 0 → decodeGroup48 op p v = .ok (f (BitVec.ofNat 32 v) (decodeReg (fld p 1 6)))) (r : Reg) (a : Word) :
    ReadsAs (enc48 op (regCode r * 2) a.toNat) (f a r) :=
  readsAs_regDirect (f := fun r a => f a r) hop hd r a

theorem readsAs_xregDirect {f : XReg → Word → Instr}
    (hd : ∀ p v, p < 64 → fld p 0 1 = 0 → decodeGroup48 op p v = .ok (f (decodeXReg (fld p 1 6)) (BitVec.ofNat 32 v))) (x : XReg) (a : Word) :
    ReadsAs (enc48 op (xregCode x * 2) a.toNat) (f x a) := by
  have hx := xregCode_lt x
  exact readsAs_direct hop (by omega) fun h0 h1 => by rw [hd _ _ (by omega) h0, h1, decodeXReg_xregCode, bvOfNat_eq a _ rfl]

variable {b : Fin 16} (hb : notSp b = true)
include hb

theorem readsAs_regIndexed {g : Reg → Fin 16 → BitVec 28 → Instr}
    (hd : ∀ p v, fld p 0 1 = 1 → notSp (Fin.ofNat 16 (fld v 0 4)) = true →
      decodeGroup48 op p v = .ok (g (decodeReg (fld p 1 6)) (Fin.ofNat 16 (fld v 0 4)) (BitVec.ofNat 28 (fld v 4 28)))) (r : Reg) (off : BitVec 28) :
    ReadsAs (encIx op (regCode r) b off) (g r b off) :=
  readsAs_indexed hop (regCode_lt r) fun v h0 h1 h2 h3 => by rw [hd _ _ h0 (h2 ▸ hb), h1, h2, h3, decodeReg_regCode]

/-- A store names its register last. -/
theorem readsAs_storeIndexed {g : Fin 16 → BitVec 28 → Reg → Instr}
    (hd : ∀ p v, fld p 0 1 = 1 → notSp (Fin.ofNat 16 (fld v 0 4)) = true →
      decodeGroup48 op p v = .ok (g (Fin.ofNat 16 (fld v 0 4)) (BitVec.ofNat 28 (fld v 4 28)) (decodeReg (fld p 1 6)))) (r : Reg) (off : BitVec 28) :
    ReadsAs (encIx op (regCode r) b off) (g b off r) :=
  readsAs_regIndexed (g := fun r b o => g b o r) hop hb hd r off

theorem readsAs_xregIndexed {g : XReg → Fin 16 → BitVec 28 → Instr}
    (hd : ∀ p v, p < 64 → fld p 0 1 = 1 → notSp (Fin.ofNat 16 (fld v 0 4)) = true →
      decodeGroup48 op p v = .ok (g (decodeXReg (fld p 1 6)) (Fin.ofNat 16 (fld v 0 4)) (BitVec.ofNat 28 (fld v 4 28)))) (x : XReg)
    (off : BitVec 28) : ReadsAs (encIx op (xregCode x) b off) (g x b off) := by
  have hx := xregCode_lt x
  exact readsAs_indexed hop (by omega) fun v h0 h1 h2 h3 => by rw [hd _ _ (by omega) h0 (h2 ▸ hb), h1, h2, h3, decodeXReg_xregCode]

end DirmRegisters

/-! ### ADD and SUB with an immediate -/

theorem readsAs_longImm {op : Nat} {f : Fin 16 → Fin 16 → Half → Instr} (hop : op < 8)
    (hd : ∀ w0 w1, fld w0 8 5 = op → decode32 w0 w1 = longImm f w0 w1) (z y : Fin 16) (u : Half) : ReadsAs [8192 + op * 256 + z.val * 16 + y.val, u.toNat] (f z y u) := by
  rw [Nat.add_assoc]
  have h1 : fld (8192 + op * 256 + (z.val * 16 + y.val)) 8 5 = op := by simp only [fld]; omega
  have h2 : fld (8192 + op * 256 + (z.val * 16 + y.val)) 4 4 = z.val := by simp only [fld]; omega
  have h3 : fld (8192 + op * 256 + (z.val * 16 + y.val)) 0 4 = y.val := by simp only [fld]; omega
  refine readsAs_lowGroup32 hop (by omega) u.isLt ?_
  rw [hd _ _ h1, longImm, h2, h3, finOfNat_val, finOfNat_val, bvOfNat_eq u _ rfl]

/-- The short form names one register for both (R475). -/
theorem readsAs_shortImm {op : Nat} {f : IBank → Fin 16 → Fin 16 → Half → Instr} (hop : op < 8)
    (hd : ∀ p, decodeGroup16 op p = shortImm f p) (b : IBank) (z : Fin 16) {u : Half} (hu : u.toNat < 64) : ReadsAs (enc16 op (ibankCode b * 1024 + z.val * 64 + u.toNat)) (f b z z u) := by
  have hb := ibankCode_lt b
  have h1 : fld (ibankCode b * 1024 + z.val * 64 + u.toNat) 10 1 = ibankCode b := by simp only [fld]; omega
  have h2 : fld (ibankCode b * 1024 + z.val * 64 + u.toNat) 6 4 = z.val := by simp only [fld]; omega
  have h3 : fld (ibankCode b * 1024 + z.val * 64 + u.toNat) 0 6 = u.toNat := by simp only [fld]; omega
  refine readsAs_enc16 hop (by omega) ((hd _).trans ?_)
  rw [shortImm, h1, h2, h3, readIBank_ibankCode, finOfNat_val, bvOfNat_eq u _ rfl]

/-- The form the encoder takes, the short one where it exists. -/
theorem readsAs_encImm {short long : Nat} {f : IBank → Fin 16 → Fin 16 → Half → Instr} (hs : short < 8) (hl : long + 1 < 8)
    (hd : ∀ p, decodeGroup16 short p = shortImm f p)
    (hd' : ∀ b w0 w1, fld w0 8 5 = long + ibankCode b → decode32 w0 w1 = longImm (f b) w0 w1) (b : IBank) (z y : Fin 16) (u : Half) :
    ReadsAs (encImm short long b z y u) (f b z y u) := by
  have hb := ibankCode_lt b
  by_cases h : z = y ∧ u.toNat < 64
  · obtain ⟨rfl, hu⟩ := id h
    rw [encImm, if_pos h]
    exact readsAs_shortImm hs hd b z hu
  · rw [encImm, if_neg h]
    exact readsAs_longImm (by omega) (hd' b) z y u

/-! ### Branches -/

/-- The TA.MAP table that Word 1 of a branch to a register holds. -/
def condTable : Cond → Nat
  | .taMap lut => lut.toNat
  | _ => 0

theorem encBranch_reg (x : Fin 16) (c : Cond) (d : Fin 8) :
    encBranch (.reg x) c d = [11 * 512 + d.val * 64 + condCode c, condTable c, x.val] := by
  cases c <;> rfl

theorem condTable_lt (c : Cond) : condTable c < 65536 := by
  cases c with
  | taMap lut => exact lut.isLt
  | _ => exact Nat.zero_lt_succ _

/-- Only TA.MAP has a table. -/
theorem condTable_eq_zero {c : Cond} (h : condCode c ≠ 1) : condTable c = 0 := by
  cases c with
  | taMap lut => exact absurd rfl h
  | _ => rfl

theorem readCond_condCode (c : Cond) : readCond (condCode c) (condTable c) = some c := by
  cases c with
  | always => rfl
  | taMap lut => simp [readCond, condCode, condTable]
  | taZ i | taNZ i => revert i; decide
  | a r => cases r <;> rfl
  | d e => cases e with
    | rel r => cases r <;> rfl
    | ov | ovneg => rfl

/-- TA.MAP is no condition of a branch to a label (log entry 72). -/
theorem condCode_ne_one {w : Word} {c : Cond} (h : branchWf (.label w) c = true) : condCode c ≠ 1 := by
  cases c with
  | always => decide
  | taMap lut => cases h
  | taZ i | taNZ i | a r | d e => simp only [condCode]; omega

/-- A 48-bit instruction of the branch groups. -/
theorem readsAs_words48 {w0 v : Nat} {i : Instr} (hw : w0 < 8192) (hv : v < 4294967296) (h : decode48 w0 v = .ok i) :
    ReadsAs [w0, v % 65536, v / 65536] i := by
  refine ⟨count_three _ _ _ hw, by simp; omega, ?_⟩
  have hs : sizeWords w0 = 3 := sizeWords_three _ hw
  have hp : v % 65536 + 65536 * (v / 65536) = v := by omega
  simpa [decodeWords, hs, hp] using h

theorem readsAs_branchLabel (w : Word) (c : Cond) (d : Fin 8) (h : branchWf (.label w) c = true) :
    ReadsAs (encBranch (.label w) c d) (.branch (.label w) c d) := by
  have hc := condCode_lt c
  have h1 := condCode_ne_one h
  have hop : fld (10 * 512 + d.val * 64 + condCode c) 9 4 = 10 := by simp only [fld]; omega
  have hcode : fld (10 * 512 + d.val * 64 + condCode c) 0 6 = condCode c := by simp only [fld]; omega
  have hdelay : fld (10 * 512 + d.val * 64 + condCode c) 6 3 = d.val := by simp only [fld]; omega
  have hr := readCond_condCode c
  rw [condTable_eq_zero h1] at hr
  refine readsAs_words48 (by omega) w.isLt ?_
  rw [decode48, if_neg (by simp only [fld]; omega), if_pos hop, decodeBranchLabel, hcode, if_neg h1, hr, hdelay, finOfNat_val, bvOfNat_eq w _ rfl]

theorem readsAs_branchReg (x : Fin 16) (c : Cond) (d : Fin 8) : ReadsAs (encBranch (.reg x) c d) (.branch (.reg x) c d) := by
  have hc := condCode_lt c
  have ht := condTable_lt c
  have hop : fld (11 * 512 + d.val * 64 + condCode c) 9 4 = 11 := by simp only [fld]; omega
  have hcode : fld (11 * 512 + d.val * 64 + condCode c) 0 6 = condCode c := by simp only [fld]; omega
  have hdelay : fld (11 * 512 + d.val * 64 + condCode c) 6 3 = d.val := by simp only [fld]; omega
  have hx : fld (condTable c + 65536 * x.val) 16 16 = x.val := fld_highWord ht (by omega)
  have hn : ¬ (16 ≤ x.val ∨ condCode c ≠ 1 ∧ condTable c ≠ 0) := by
    have := condTable_eq_zero (c := c)
    omega
  have h := readsAs_words48 (w0 := 11 * 512 + d.val * 64 + condCode c) (v := condTable c + 65536 * x.val) (i := .branch (.reg x) c d)
    (by omega) (by omega) (by
      rw [decode48, if_neg (by simp only [fld]; omega), if_neg (by omega), if_pos hop, decodeBranchReg, hcode, fld_lowWord ht, hx, if_neg hn,
        readCond_condCode, hdelay, finOfNat_val, finOfNat_val])
  rwa [show (condTable c + 65536 * x.val) % 65536 = condTable c by omega, show (condTable c + 65536 * x.val) / 65536 = x.val by omega,
    ← encBranch_reg] at h

theorem readsAs_bcmpz (w : Word) (c : DCond) (x : Fin 16) (d : Fin 8) : ReadsAs (encode (.bcmpz w c x d)) (.bcmpz w c x d) := by
  have hc := dcondCode_lt c
  have hop : fld (3 * 2048 + d.val * 256 + dcondCode c * 16 + x.val) 11 2 = 3 := by simp only [fld]; omega
  have hcode : fld (3 * 2048 + d.val * 256 + dcondCode c * 16 + x.val) 4 4 = dcondCode c := by simp only [fld]; omega
  have hdelay : fld (3 * 2048 + d.val * 256 + dcondCode c * 16 + x.val) 8 3 = d.val := by simp only [fld]; omega
  have hx : fld (3 * 2048 + d.val * 256 + dcondCode c * 16 + x.val) 0 4 = x.val := by simp only [fld]; omega
  refine readsAs_words48 (by omega) w.isLt ?_
  rw [decode48, if_pos hop, decodeBcmpz, hcode, readDCond_dcondCode, hx, hdelay]
  simp only [finOfNat_val, bvOfNat_eq w _ rfl]

/-! ### 16-bit instructions with an operand -/

theorem readsAs_misc16 {p : Nat} {i : Instr} (k q : Nat) (hp : p = k * 64 + q) (hk : k < 32) (hq : q < 64)
    (h : fld p 6 5 = k → fld p 0 6 = q → decodeMisc16 p = .ok i) : ReadsAs (enc16 4 p) i :=
  readsAs_enc16 (by decide) (by omega) (h (by simp only [fld]; omega) (by simp only [fld]; omega))

/-- The delayed returns from interrupt (R260). -/
theorem decodeReti_delay (d : Fin 8) (h : (d != 0) = true) :
    decodeReti d.val = .ok (.retiIntD d) ∧ decodeReti (8 + d.val) = .ok (.retiRtintD d) := by
  revert d; decide

/-- The circular updates (R462). -/
theorem circ_circCode (f : Fin 4 → Fin 16 → Instr) (y : Fin 4) {x : Fin 16} (hx : notSp x = true) :
    circ f (y.val * 16 + x.val) = .ok (f y x) := by
  have hy : fld (y.val * 16 + x.val) 4 2 = y.val := by simp only [fld]; omega
  rw [circ, ofNat_fld_low16, hy, finOfNat_val, if_pos hx]

/-! ### Groups that share a form -/

theorem decode32_addImm (b : IBank) (w0 w1 : Nat) (h : fld w0 8 5 = 4 + ibankCode b) : decode32 w0 w1 = longImm (.addImm b) w0 w1 := by
  rw [decode32, h]; cases b <;> rfl

theorem decode32_subImm (b : IBank) (w0 w1 : Nat) (h : fld w0 8 5 = 6 + ibankCode b) : decode32 w0 w1 = longImm (.subImm b) w0 w1 := by
  rw [decode32, h]; cases b <;> rfl

theorem decode32_addU16 (w0 w1 : Nat) (h : fld w0 8 5 = 1) : decode32 w0 w1 = longImm .addU16 w0 w1 := by
  rw [decode32, h]; rfl

theorem decode32_subU16 (w0 w1 : Nat) (h : fld w0 8 5 = 2) : decode32 w0 w1 = longImm .subU16 w0 w1 := by
  rw [decode32, h]; rfl

/-- Three registers of one bank, one in Word 0 and two in Word 1. -/
theorem readsAs_threeM {op : Nat} {f : Fin 32 → Fin 32 → Fin 32 → Instr} (hop : 32 ≤ op) (hop' : op < 128)
    (hd : ∀ p w, decodeGroup32 op p w = if p < 32 ∧ w < 1024 then .ok (f (Fin.ofNat 32 p) (Fin.ofNat 32 (fld w 5 5)) (Fin.ofNat 32 (fld w 0 5)))
      else .error .reservedBits) (z y x : Fin 32) : ReadsAs (enc32 op z.val (y.val * 32 + x.val)) (f z y x) := by
  refine readsAs_enc32 hop hop' (by omega) (by omega) ((hd _ _).trans (guard_ok ⟨by omega, by omega⟩ ?_))
  rw [ofNat_fld_high32, ofNat_fld_low32, finOfNat_val]

theorem readsAs_bankRegs {op : Nat} {f : IBank → Fin 16 → Fin 16 → Fin 16 → Instr} (hop : 32 ≤ op) (hop' : op < 128)
    (hd : ∀ p w, decodeGroup32 op p w = if p < 32 ∧ w < 256 then .ok (f (readIBank (fld p 4 1)) (Fin.ofNat 16 (fld p 0 4))
      (Fin.ofNat 16 (fld w 4 4)) (Fin.ofNat 16 (fld w 0 4))) else .error .reservedBits) (b : IBank) (z y x : Fin 16) :
    ReadsAs (enc32 op (ibankCode b * 16 + z.val) (y.val * 16 + x.val)) (f b z y x) := by
  have hb := ibankCode_lt b
  refine readsAs_enc32 hop hop' (by omega) (by omega) ((hd _ _).trans (guard_ok ⟨by omega, by omega⟩ ?_))
  rw [ofNat_fld_high16, ofNat_fld_low16, ofNat_fld_low16, bank_field]

theorem readsAs_toStatus {op : Nat} {f : Reg → Instr} (hop : 32 ≤ op) (hop' : op < 128)
    (hd : ∀ p w, decodeGroup32 op p w = zeroParam w (f (decodeReg p))) (r : Reg) : ReadsAs (enc32 op (regCode r) 0) (f r) :=
  readsAs_enc32 hop hop' (regCode_lt r) (by decide) (by rw [hd, decodeReg_regCode]; rfl)

theorem readsAs_wordParam {op : Nat} {f : Word → Instr} (hop : op < 128) (hd : ∀ v, decodeMisc48 op v = .ok (f (BitVec.ofNat 32 v))) (a : Word) :
    ReadsAs (enc48 24 op a.toNat) (f a) :=
  readsAs_enc48 (by decide) hop a.isLt ((hd _).trans (by rw [bvOfNat_eq a _ rfl]))

theorem readsAs_statusOp (op : StatusOp) (h : op.wf = true) : ReadsAs (encStatus op) (.statusOp op) := by
  cases op with
  | load r m => cases r <;> exact readsAs_miscAddr1 (f := fun m => .statusOp (.load _ m)) h (by decide) fun _ => rfl
  | store r m => cases r <;> exact readsAs_miscAddr1 (f := fun m => .statusOp (.store _ m)) h (by decide) fun _ => rfl
  | toReg r x => cases r <;> exact readsAs_toStatus (f := fun x => .statusOp (.toReg _ x)) (by decide) (by decide) (fun _ _ => rfl) x
  | ofReg r x => cases r <;> exact readsAs_toStatus (f := fun x => .statusOp (.ofReg _ x)) (by decide) (by decide) (fun _ _ => rfl) x
  | andImm r v => cases r <;> exact readsAs_wordParam (f := fun v => .statusOp (.andImm _ v)) (by decide) (fun _ => rfl) v
  | orImm r v => cases r <;> exact readsAs_wordParam (f := fun v => .statusOp (.orImm _ v)) (by decide) (fun _ => rfl) v

/-! ### All instructions -/

/-- Every well-formed instruction is read back from its words. -/
theorem readsAs_encode (i : Instr) (h : i.wf = true) : ReadsAs (encode i) i := by
  cases i with
  | add32Addr1 m | addS16Addr1 m | addS8Addr1 m | andU16Addr1 m | andU8Addr1 m | andorB0Addr1 m | andorW0Addr1 m | mvU16Addr1 m
  | mvU8Addr1 m | s16tofAddr1 m | sub32Addr1 m | subS16Addr1 m | subS8Addr1 m | subr32Addr1 m | subrS16Addr1 m | subrS8Addr1 m
  | u16tofAddr1 m => exact readsAs_miscAddr1 h (by decide) fun _ => rfl
  | ld32Addr1 r m | ldB0Addr1 r m | ldB1Addr1 r m | ldB2Addr1 r m | ldB3Addr1 r m | ldS16Addr1 r m | ldS8Addr1 r m | ldU16Addr1 r m
  | ldU8Addr1 r m | ldW0Addr1 r m | ldW1Addr1 r m => exact readsAs_regAddr1 h (by decide) (by decide) (fun _ _ => rfl) r
  | st32Addr1 m r | stB0Addr1 m r | stB1Addr1 m r | stB2Addr1 m r | stB3Addr1 m r | stW0Addr1 m r | stW1Addr1 m r =>
    exact readsAs_regAddr1 (f := flip _) h (by decide) (by decide) (fun _ _ => rfl) r
  | st64Addr1 m x => exact readsAs_xregAddr1 (f := flip _) h (by decide) (by decide) (fun _ _ => rfl) x
  | ld64Addr1 x m => exact readsAs_xregAddr1 h (by decide) (by decide) (fun _ _ => rfl) x
  | and16Addr1 m u | or16Addr1 m u | xor16Addr1 m u | st16Addr1 m u => exact readsAs_halfAddr1 h (by decide) (fun _ => rfl) u
  | and8Addr1 m u | or8Addr1 m u | xor8Addr1 m u | st8Addr1 m u => exact readsAs_byteAddr1 h (by decide) (fun _ => rfl) u
  | mv16Addr1 d m | mv32Addr1 d m | mv64Addr1 d m | mv8Addr1 d m => exact readsAs_twoAddr1 h (by decide) fun _ => rfl
  | retAddr1 m d =>
    refine readsAs_enc32 (by decide) (by decide) (by omega) (addr1Code_lt m) ((if_pos d.isLt).trans ?_)
    rw [addr1Only_addr1Code _ h, finOfNat_val]
  | and32Addr2 m | andorAddr2 m | mv16Addr2 m | mv32Addr2 m | mv64Addr2 m | mv8Addr2 m | or32Addr2 m | xor32Addr2 m =>
    exact readsAs_miscAddr2 (by decide) (fun _ => rfl) m
  | ld32Addr2 r m =>
    have hr := regCode_lt r
    have hm := addr2Code_lt m
    have h1 : fld (regCode r * 32 + addr2Code m) 5 6 = regCode r := by simp only [fld]; omega
    have h2 : fld (regCode r * 32 + addr2Code m) 0 5 = addr2Code m := by simp only [fld]; omega
    exact readsAs_enc16 (by decide) (by omega) (by rw [decodeGroup16, h1, h2, decodeReg_regCode, readAddr2_addr2Code])
  | ld64Addr2 x m | st64Addr2 m x =>
    have hx := xregCode_lt x
    have hm := addr2Code_lt m
    exact readsAs_enc32 (by decide) (by decide) (by omega) (by omega)
      (guard_ok ⟨hx, hm⟩ (by rw [decodeXReg_xregCode, readAddr2_addr2Code]))
  | st32Addr2 m r =>
    have hm := addr2Code_lt m
    exact readsAs_enc32 (by decide) (by decide) (regCode_lt r) (by omega) (guard_ok hm (by rw [decodeReg_regCode, readAddr2_addr2Code]))
  | st16Addr2 m u =>
    have hm := addr2Code_lt m
    exact readsAs_enc32 (by decide) (by decide) (by omega) u.isLt (guard_ok hm (by rw [readAddr2_addr2Code, bvOfNat_eq u _ rfl]))
  | st8Addr2 m u =>
    have hm := addr2Code_lt m
    have hu := u.isLt
    exact readsAs_enc32 (by decide) (by decide) (by omega) (by omega)
      (guard_ok ⟨hm, hu⟩ (by rw [readAddr2_addr2Code, bvOfNat_eq u _ rfl]))
  | mv32Addr3 d m => exact readsAs_mv32Addr3 h
  | ld32Dirm r a | ldB0Dirm r a | ldB1Dirm r a | ldB2Dirm r a | ldB3Dirm r a | ldS16Dirm r a | ldS8Dirm r a | ldU16Dirm r a | ldU8Dirm r a
  | ldW0Dirm r a | ldW1Dirm r a => exact readsAs_regDirect (by decide) (fun _ _ e => by rw [decodeGroup48, dirm_of_even trivial e]) r a
  | st32Dirm a r | stB0Dirm a r | stB1Dirm a r | stB2Dirm a r | stB3Dirm a r | stW0Dirm a r | stW1Dirm a r =>
    exact readsAs_storeDirect (by decide) (fun _ _ e => by rw [decodeGroup48, dirm_of_even trivial e]) r a
  | ld32DirmIx r b o | ldB0DirmIx r b o | ldB1DirmIx r b o | ldB2DirmIx r b o | ldB3DirmIx r b o | ldS16DirmIx r b o | ldS8DirmIx r b o
  | ldU16DirmIx r b o | ldU8DirmIx r b o | ldW0DirmIx r b o | ldW1DirmIx r b o =>
    exact readsAs_regIndexed (by decide) h (fun _ _ e hb => by rw [decodeGroup48, dirm_of_odd trivial e hb]) r o
  | st32DirmIx b o r | stB0DirmIx b o r | stB1DirmIx b o r | stB2DirmIx b o r | stB3DirmIx b o r | stW0DirmIx b o r | stW1DirmIx b o r =>
    exact readsAs_storeIndexed (by decide) h (fun _ _ e hb => by rw [decodeGroup48, dirm_of_odd trivial e hb]) r o
  | ld64Dirm x a => exact readsAs_xregDirect (by decide) (fun _ _ hp e => by rw [decodeGroup48, dirm_of_even hp e]) x a
  | st64Dirm a x =>
    exact readsAs_xregDirect (f := fun x a => .st64Dirm a x) (by decide) (fun _ _ hp e => by rw [decodeGroup48, dirm_of_even hp e]) x a
  | ld64DirmIx x b o => exact readsAs_xregIndexed (by decide) h (fun _ _ hp e hb => by rw [decodeGroup48, dirm_of_odd hp e hb]) x o
  | st64DirmIx b o x =>
    exact readsAs_xregIndexed (g := fun x b o => .st64DirmIx b o x) (by decide) h
      (fun _ _ hp e hb => by rw [decodeGroup48, dirm_of_odd hp e hb]) x o
  | s16tofDirm a | u16tofDirm a =>
    exact readsAs_direct (k := 0) (by decide) (by decide) fun e _ => by
      rw [decodeGroup48, dirm_of_even (by decide) e, bvOfNat_eq a _ rfl]
  | s16tofDirmIx b o | u16tofDirmIx b o =>
    exact readsAs_indexed (k := 0) (by decide) (by decide) fun v e _ hb ho => by
      rw [decodeGroup48, dirm_of_odd (by decide) e (hb ▸ h), hb, ho]
  | callLabel w d => exact readsAs_enc48 (by decide) (by omega) w.isLt (guard_ok d.isLt (by rw [finOfNat_val, bvOfNat_eq w _ rfl]))
  | mvImm r w =>
    have hr := regCode_lt r
    exact readsAs_enc48 (by decide) (by omega) w.isLt (guard_ok hr (by rw [decodeReg_regCode, bvOfNat_eq w _ rfl]))
  | callProtLabel w | lbProt w | ldRpc w => exact readsAs_wordParam (by decide) (fun _ => rfl) w
  | callReg x d =>
    have hd : fld (d.val * 16 + x.val) 4 3 = d.val := by simp only [fld]; omega
    exact readsAs_enc32 (by decide) (by decide) (by decide) (by omega) (guard_ok ⟨rfl, by omega⟩ (by rw [ofNat_fld_low16, hd, finOfNat_val]))
  | callProtReg x =>
    exact readsAs_enc32 (by decide) (by decide) (by omega) (by decide) ((if_pos x.isLt).trans (guard_ok rfl (by rw [finOfNat_val])))
  | branch t c d => cases t with
    | label w => exact readsAs_branchLabel w c d h
    | reg x => exact readsAs_branchReg x c d
  | bcmpz w c x d => exact readsAs_bcmpz w c x d
  | ret d =>
    exact readsAs_misc16 2 d.val rfl (by decide) (by omega) fun hk hq => by
      rw [decodeMisc16, hk, hq]; exact guard_ok d.isLt (by rw [finOfNat_val])
  | movRpc x =>
    exact readsAs_misc16 3 x.val rfl (by decide) (by omega) fun hk hq => by
      rw [decodeMisc16, hk, hq]; exact guard_ok x.isLt (by rw [finOfNat_val])
  | incCirc y x =>
    exact readsAs_misc16 0 (y.val * 16 + x.val) (by omega) (by decide) (by omega) fun hk hq => by
      rw [decodeMisc16, hk, hq]; exact circ_circCode _ y h
  | decCirc y x =>
    exact readsAs_misc16 1 (y.val * 16 + x.val) (by omega) (by decide) (by omega) fun hk hq => by
      rw [decodeMisc16, hk, hq]; exact circ_circCode _ y h
  | retiIntD d =>
    exact readsAs_misc16 5 d.val rfl (by decide) (by omega) fun hk hq => by rw [decodeMisc16, hk, hq]; exact (decodeReti_delay d h).1
  | retiRtintD d =>
    exact readsAs_misc16 5 (8 + d.val) (by omega) (by decide) (by omega) fun hk hq => by
      rw [decodeMisc16, hk, hq]; exact (decodeReti_delay d h).2
  | entry1Prot | entry2Prot | retProt | exitProt | preserve | xc | xcp | enint | disint | retiInt | retiRtint | isr1Prot | isr2Prot
  | idle | emustop0 | eccselftest | nop => exact readsAs_enc16 (by decide) (by decide) rfl
  | atomic n =>
    have := n.isLt
    exact readsAs_enc16 (by decide) (by omega) (guard_ok n.isLt (by rw [bvOfNat_eq n _ rfl]))
  | statusOp op => exact readsAs_statusOp op h
  | addU16 z y u => exact readsAs_longImm (op := 1) (by decide) decode32_addU16 z y u
  | subU16 z y u => exact readsAs_longImm (op := 2) (by decide) decode32_subU16 z y u
  | addImm b z y u => exact readsAs_encImm (by decide) (by decide) (fun _ => rfl) decode32_addImm b z y u
  | subImm b z y u => exact readsAs_encImm (by decide) (by decide) (fun _ => rfl) decode32_subImm b z y u
  | addReg b z y x | subReg b z y x => exact readsAs_bankRegs (by decide) (by decide) (fun _ _ => rfl) b z y x
  | mvReg op => cases op with
    | word d s =>
      have hd := regCode_lt d
      have hs := regCode_lt s
      exact readsAs_enc32 (by decide) (by decide) hd (by omega) (guard_ok hs (by rw [decodeReg_regCode, decodeReg_regCode]))
    | pair d s =>
      have hd := xregCode_lt d
      have hs := xregCode_lt s
      exact readsAs_enc32 (by decide) (by decide) (by omega) (by omega) (guard_ok ⟨hd, hs⟩ (by rw [decodeXReg_xregCode, decodeXReg_xregCode]))
  | cmp op => cases op with
    | a y x | d y x | m y x =>
      exact readsAs_enc32 (by decide) (by decide) (by omega) (by omega) (guard_ok ⟨y.isLt, x.isLt⟩ (by rw [finOfNat_val, finOfNat_val]))
  | tbit t =>
    have ht := testCode_lt t
    refine readsAs_enc32 (by decide) (by decide) (by omega) (by decide) ?_
    rw [decodeGroup32, readTest_testCode]
    rfl
  | tflg t =>
    have ht := flagCode_lt t
    exact readsAs_enc32 (by decide) (by decide) (by omega) (by decide) ((if_pos ht).trans (guard_ok rfl (by rw [readFlag_flagCode])))
  | addBitrev z y x =>
    exact readsAs_enc32 (by decide) (by decide) (by omega) (by omega)
      (guard_ok ⟨by omega, by omega⟩ (by rw [ofNat_fld_high16, ofNat_fld_low16, finOfNat_val]))
  | ftos16 z x =>
    exact readsAs_enc32 (by decide) (by decide) (by omega) (by omega) (guard_ok ⟨by omega, by omega⟩ (by rw [finOfNat_val, finOfNat_val]))
  | crc z y x w =>
    have hy : fld (y.val * 256 + x.val * 16 + w.val) 8 4 = y.val := by simp only [fld]; omega
    have hx : fld (y.val * 256 + x.val * 16 + w.val) 4 4 = x.val := by simp only [fld]; omega
    have hw : fld (y.val * 256 + x.val * 16 + w.val) 0 4 = w.val := by simp only [fld]; omega
    exact readsAs_enc32 (by decide) (by decide) (by omega) (by omega)
      (guard_ok ⟨by omega, by omega⟩ (by simp only [hy, hx, hw, finOfNat_val]))
  | smpyf z y x | saddf z y x | addf z y x => exact readsAs_threeM (by decide) (by decide) (fun _ _ => rfl) z y x

/-- Settles O1: the words of each instruction are read back, and words are read back from their bytes. -/
theorem decodeAfterEncode : Obligations.DecodeAfterEncode := by
  unfold Obligations.DecodeAfterEncode
  exact fun i rest h => decode_of_readsAs (readsAs_encode i h) rest

/-! ### Words written out -/

/-- Settles O2: each word is run through the decoder. -/
theorem sampleWordsDecode : Obligations.SampleWordsDecode := by
  unfold Obligations.SampleWordsDecode
  exact ⟨by decide, by decide, by decide, by decide, by decide, by decide⟩

end Sys2Proof.Proofs
end

section
/-! PROOFS. The encoder writes back what the decoder reads: O3. Where the decoder answers, its parameters are codes of operands, so that the
words are those of a well-formed instruction; by O1 that is the instruction it answered. -/

namespace Sys2Proof.Proofs

open Sys2Proof.Laws

/-! ### Every field the decoder accepts is the code of an operand -/

theorem exists_fin {m n : Nat} (h : n < m) : ∃ x : Fin m, x.val = n := ⟨⟨n, h⟩, rfl⟩

theorem exists_bits {m n : Nat} (h : n < 2 ^ m) : ∃ u : BitVec m, u.toNat = n := ⟨BitVec.ofNatLT n h, BitVec.toNat_ofNatLT n h⟩

theorem exists_regCode {n : Nat} (h : n < 64) : ∃ r, regCode r = n := by
  by_cases ha : n < 16
  · exact ⟨.a ⟨n, ha⟩, rfl⟩
  · by_cases hd : n < 32
    · exact ⟨.d ⟨n - 16, by omega⟩, Nat.add_sub_of_le (by omega)⟩
    · exact ⟨.m ⟨n - 32, by omega⟩, Nat.add_sub_of_le (by omega)⟩

theorem exists_xregCode {n : Nat} (h : n < 32) : ∃ x, xregCode x = n := by
  by_cases ha : n < 8
  · exact ⟨.xa ⟨n, ha⟩, rfl⟩
  · by_cases hd : n < 16
    · exact ⟨.xd ⟨n - 8, by omega⟩, Nat.add_sub_of_le (by omega)⟩
    · exact ⟨.xm ⟨n - 16, by omega⟩, Nat.add_sub_of_le (by omega)⟩

theorem regCode_decodeReg {n : Nat} (h : n < 64) : regCode (decodeReg n) = n := by
  obtain ⟨r, rfl⟩ := exists_regCode h
  rw [decodeReg_regCode]

theorem xregCode_decodeXReg {n : Nat} (h : n < 32) : xregCode (decodeXReg n) = n := by
  obtain ⟨x, rfl⟩ := exists_xregCode h
  rw [decodeXReg_xregCode]

theorem exists_ibankCode {n : Nat} (h : n < 2) : ∃ b, ibankCode b = n := by
  interval_cases n
  · exact ⟨.a, rfl⟩
  · exact ⟨.d, rfl⟩

theorem exists_flagCode {n : Nat} (h : n < 8) : ∃ f, flagCode f = n := by
  by_cases ha : n < 4
  · exact ⟨.ta ⟨n, ha⟩, rfl⟩
  · exact ⟨.tdm ⟨n - 4, by omega⟩, Nat.add_sub_of_le (by omega)⟩

/-- A number below `k * m` is two fields side by side, such as two register numbers in a parameter word. -/
theorem exists_pair {k m n : Nat} (h : n < k * m) : ∃ (y : Fin k) (x : Fin m), y.val * m + x.val = n := by
  have hm : 0 < m := Nat.pos_of_ne_zero (by rintro rfl; simp at h)
  exact ⟨⟨n / m, Nat.div_lt_of_lt_mul (by rwa [Nat.mul_comm])⟩, ⟨n % m, Nat.mod_lt _ hm⟩, Nat.div_add_mod' n m⟩

/-- No ADDR1 pattern is reserved (R187): the top bits of the field select the row, and the row's operands fill the others. -/
theorem addr1Code_readAddr1 {f : Nat} (h : f < 65536) : addr1Code (readAddr1 f) = f := by
  have h2 : fld f 14 2 = fld f 12 4 / 4 := by simp only [fld]; omega
  have h3 : fld f 13 3 = fld f 12 4 / 2 := by simp only [fld]; omega
  have h4 : fld f 12 4 = f / 4096 := by simp only [fld]; omega
  rw [readAddr1, h2, h3, h4]
  generalize hk : f / 4096 = k
  split
  next hoff => simp only [fld, addr1Code, Fin.ofNat, BitVec.toNat_ofNat]; omega
  split
  next hscaled => simp only [fld, addr1Code, Fin.ofNat, BitVec.toNat_ofNat]; omega
  split
  next hpost => simp only [fld, addr1Code, Fin.ofNat, BitVec.toNat_ofNat]; omega
  split
  next hsp => simp only [fld, addr1Code, BitVec.toNat_ofNat]; omega
  split
  next hinc => simp only [fld, addr1Code, Fin.ofNat, BitVec.toNat_ofNat]; omega
  split
  next hdec => simp only [fld, addr1Code, Fin.ofNat, BitVec.toNat_ofNat]; omega
  split
  next hpre => simp only [fld, addr1Code, Fin.ofNat, BitVec.toNat_ofNat]; omega
  have htop : k = 15 := by omega
  clear * - hk htop
  split
  next hindex => simp only [fld, addr1Code, Fin.ofNat, BitVec.toNat_ofNat] at *; omega
  next => simp only [fld, addr1Code, Fin.ofNat, BitVec.toNat_ofNat]; omega

theorem addr2Code_readAddr2 {g : Nat} (h : g < 32) : addr2Code (readAddr2 g) = g := by
  interval_cases g <;> rfl

theorem addr3Code_readAddr3 {h : Nat} (hh : h < 4096) : addr3Code (readAddr3 h) = h := by
  simp only [fld, addr3Code, readAddr3, Fin.ofNat, BitVec.toNat_ofNat]; omega

theorem dcondCode_of_readDCond {n : Nat} {c : DCond} (h : readDCond n = some c) : dcondCode c = n := by
  have hn : n < 14 := by
    by_contra hn
    simp [readDCond, show ¬ n < 12 by omega, show n ≠ 12 by omega, show n ≠ 13 by omega] at h
  interval_cases n <;> cases h <;> rfl

theorem testCode_of_readTest {n : Nat} {t : TestDst} (h : readTest n = some t) : testCode t = n := by
  have hn : n < 11 := by
    by_contra hn
    simp [readTest, show ¬ n < 8 by omega, show n ≠ 8 by omega, show n ≠ 9 by omega, show n ≠ 10 by omega] at h
  interval_cases n <;> cases h <;> rfl

theorem relCode_readRel {n : Nat} (h : n < 12) : relCode (readRel n) = n := by interval_cases n <;> rfl

/-- TA.MAP takes its table from Word 1. -/
theorem condCode_of_readCond {n lut : Nat} {c : Cond} (hl : lut < 65536) (h : readCond n lut = some c) :
    condCode c = n ∧ (n = 1 → condTable c = lut) := by
  rw [readCond] at h
  split_ifs at h with h0 h1 h2 h3 h4
  · cases h; exact ⟨h0.symm, by omega⟩
  · cases h; exact ⟨h1.symm, fun _ => Nat.mod_eq_of_lt hl⟩
  · cases h; exact ⟨by simp only [condCode, Fin.ofNat]; omega, by omega⟩
  · cases h; exact ⟨by simp only [condCode, Fin.ofNat]; omega, by omega⟩
  · cases h; exact ⟨by simp only [condCode, relCode_readRel (show n - 10 < 12 by omega)]; omega, by omega⟩
  · obtain ⟨e, he, rfl⟩ := Option.map_eq_some_iff.1 h
    exact ⟨by simp only [condCode, dcondCode_of_readDCond he]; omega, by omega⟩

/-! ### What an answer says of the parameters -/

/-- The words are those of a well-formed instruction. -/
def Encoded (ws : List Nat) : Prop := ∃ i : Instr, i.wf = true ∧ encode i = ws

variable {i : Instr}

theorem of_guard_ok {c : Prop} [Decidable c] {o : Except DecodeError Instr} {e : DecodeError} (h : (if c then o else .error e) = .ok i) :
    c ∧ o = .ok i := by
  by_cases hc : c
  · exact ⟨hc, by rwa [if_pos hc] at h⟩
  · rw [if_neg hc] at h; cases h

theorem zero_of_zeroParam {w : Nat} {j : Instr} (h : zeroParam w j = .ok i) : w = 0 := (of_guard_ok h).1

theorem wf_of_addr1Only {f : Addr1 → Instr} {w : Nat} (h : addr1Only f w = .ok i) : (readAddr1 w).wf = true := (of_guard_ok h).1

section Group32

variable {op p w : Nat} (hp : p < 64) (hw : w < 65536)
include hw

theorem encoded_of_miscAddr1 {f : Addr1 → Instr} (h : addr1Only f w = .ok i)
    (hf : ∀ m, m.wf = true → (f m).wf = true ∧ encode (f m) = enc32 52 op (addr1Code m)) : Encoded (enc32 52 op w) := by
  obtain ⟨hwf, henc⟩ := hf _ (wf_of_addr1Only h)
  exact ⟨_, hwf, by rw [henc, addr1Code_readAddr1 hw]⟩

theorem encoded_of_decodeMiscAddr1 (h : decodeMiscAddr1 p w = .ok i) : Encoded (enc32 52 p w) := by
  unfold decodeMiscAddr1 at h
  split at h
  case h_22 => cases h
  all_goals exact encoded_of_miscAddr1 hw h fun _ hm => ⟨hm, rfl⟩

omit hw in
theorem encoded_of_miscAddr2 {f : Addr2 → Instr} (h : addr2Only f w = .ok i)
    (hf : ∀ m, (f m).wf = true ∧ encode (f m) = enc32 78 op (addr2Code m)) : Encoded (enc32 78 op w) := by
  obtain ⟨hw, -⟩ := of_guard_ok h
  obtain ⟨hwf, henc⟩ := hf (readAddr2 w)
  exact ⟨_, hwf, by rw [henc, addr2Code_readAddr2 hw]⟩

omit hw in
theorem encoded_of_decodeMiscAddr2 (h : decodeMiscAddr2 p w = .ok i) : Encoded (enc32 78 p w) := by
  unfold decodeMiscAddr2 at h
  split at h
  case h_9 => cases h
  all_goals exact encoded_of_miscAddr2 h fun _ => ⟨rfl, rfl⟩

include hp

theorem encoded_of_regAddr1 {f : Reg → Addr1 → Instr} (h : regAddr1 f p w = .ok i)
    (hf : ∀ r m, m.wf = true → (f r m).wf = true ∧ encode (f r m) = enc32 op (regCode r) (addr1Code m)) :
    Encoded (enc32 op p w) := by
  obtain ⟨r, rfl⟩ := exists_regCode hp
  obtain ⟨hwf, henc⟩ := hf r _ (wf_of_addr1Only h)
  exact ⟨_, hwf, by rw [henc, addr1Code_readAddr1 hw]⟩

omit hp in
theorem encoded_of_xregAddr1 {f : XReg → Addr1 → Instr} (h : xregAddr1 f p w = .ok i)
    (hf : ∀ x m, m.wf = true → (f x m).wf = true ∧ encode (f x m) = enc32 op (xregCode x) (addr1Code m)) :
    Encoded (enc32 op p w) := by
  obtain ⟨hp, h⟩ := of_guard_ok h
  obtain ⟨x, rfl⟩ := exists_xregCode hp
  obtain ⟨hwf, henc⟩ := hf x _ (wf_of_addr1Only h)
  exact ⟨_, hwf, by rw [henc, addr1Code_readAddr1 hw]⟩

omit hw in
theorem encoded_of_status {f : Reg → Instr} (h : zeroParam w (f (decodeReg p)) = .ok i)
    (hf : ∀ r, (f r).wf = true ∧ encode (f r) = enc32 op (regCode r) 0) : Encoded (enc32 op p w) := by
  obtain ⟨r, rfl⟩ := exists_regCode hp
  obtain ⟨hwf, henc⟩ := hf r
  exact ⟨_, hwf, by rw [henc, zero_of_zeroParam h]⟩

omit hp hw in
theorem encoded_of_bankRegs {j : Instr} {e : DecodeError}
    (h : (if p < 32 ∧ w < 256 then .ok j else .error e) = (.ok i : Except DecodeError Instr))
    (hf : ∀ (b : IBank) (z y x : Fin 16), Encoded (enc32 op (ibankCode b * 16 + z.val) (y.val * 16 + x.val))) : Encoded (enc32 op p w) := by
  obtain ⟨⟨hp, hw⟩, -⟩ := of_guard_ok h
  obtain ⟨k, z, rfl⟩ := exists_pair (k := 2) (m := 16) hp
  obtain ⟨b, hb⟩ := exists_ibankCode k.isLt
  obtain ⟨y, x, rfl⟩ := exists_pair (k := 16) (m := 16) hw
  rw [← hb]
  exact hf b z y x

omit hp hw in
theorem encoded_of_twoRegs {m n : Nat} {j : Instr} {e : DecodeError}
    (h : (if p < m ∧ w < n then .ok j else .error e) = (.ok i : Except DecodeError Instr))
    (hf : ∀ (y : Fin m) (x : Fin n), Encoded (enc32 op y.val x.val)) : Encoded (enc32 op p w) := by
  obtain ⟨⟨hp, hw⟩, -⟩ := of_guard_ok h
  exact hf ⟨p, hp⟩ ⟨w, hw⟩

omit hp hw in
theorem encoded_of_threeM {j : Instr} {e : DecodeError}
    (h : (if p < 32 ∧ w < 1024 then .ok j else .error e) = (.ok i : Except DecodeError Instr))
    (hf : ∀ z y x : Fin 32, Encoded (enc32 op z.val (y.val * 32 + x.val))) : Encoded (enc32 op p w) := by
  obtain ⟨⟨hp, hw⟩, -⟩ := of_guard_ok h
  obtain ⟨y, x, rfl⟩ := exists_pair (k := 32) (m := 32) hw
  exact hf ⟨p, hp⟩ y x

theorem encoded_of_decodeGroup32 (h : decodeGroup32 op p w = .ok i) : Encoded (enc32 op p w) := by
  unfold decodeGroup32 at h
  split at h
  -- groups 32 to 43 load a register or a pair, 44 to 51 store one
  iterate 11 exact encoded_of_regAddr1 hp hw h fun _ _ hm => ⟨hm, rfl⟩
  · exact encoded_of_xregAddr1 hw h fun _ _ hm => ⟨hm, rfl⟩
  iterate 7 exact encoded_of_regAddr1 hp hw h fun _ _ hm => ⟨hm, rfl⟩
  · exact encoded_of_xregAddr1 hw h fun _ _ hm => ⟨hm, rfl⟩
  · exact encoded_of_decodeMiscAddr1 hw h
  · obtain ⟨hp, h⟩ := of_guard_ok h
    obtain ⟨d, rfl⟩ := exists_fin hp
    exact ⟨.retAddr1 _ d, wf_of_addr1Only h, by rw [encode, addr1Code_readAddr1 hw]⟩
  · exact encoded_of_status hp (f := fun r => .statusOp (.toReg .dsts r)) h fun _ => ⟨rfl, rfl⟩
  · exact encoded_of_status hp (f := fun r => .statusOp (.toReg .ests r)) h fun _ => ⟨rfl, rfl⟩
  · exact encoded_of_status hp (f := fun r => .statusOp (.ofReg .dsts r)) h fun _ => ⟨rfl, rfl⟩
  · exact encoded_of_status hp (f := fun r => .statusOp (.ofReg .ests r)) h fun _ => ⟨rfl, rfl⟩
  · exact encoded_of_bankRegs h fun _ _ _ _ => ⟨.addReg _ _ _ _, rfl, rfl⟩
  · exact encoded_of_bankRegs h fun _ _ _ _ => ⟨.subReg _ _ _ _, rfl, rfl⟩
  · obtain ⟨d, rfl⟩ := exists_regCode hp
    obtain ⟨r, rfl⟩ := exists_regCode (of_guard_ok h).1
    exact ⟨.mvReg (.word d r), rfl, rfl⟩
  · obtain ⟨⟨hp, hw⟩, -⟩ := of_guard_ok h
    obtain ⟨d, rfl⟩ := exists_xregCode hp
    obtain ⟨x, rfl⟩ := exists_xregCode hw
    exact ⟨.mvReg (.pair d x), rfl, rfl⟩
  · exact encoded_of_twoRegs h fun y x => ⟨.cmp (.a y x), rfl, rfl⟩
  · exact encoded_of_twoRegs h fun y x => ⟨.cmp (.d y x), rfl, rfl⟩
  · exact encoded_of_twoRegs h fun y x => ⟨.cmp (.m y x), rfl, rfl⟩
  · split at h
    next t ht => exact ⟨.tbit t, rfl, by rw [encode, testCode_of_readTest ht, zero_of_zeroParam h]⟩
    next => cases h
  · obtain ⟨hp, h⟩ := of_guard_ok h
    obtain ⟨t, rfl⟩ := exists_flagCode hp
    exact ⟨.tflg t, rfl, by rw [encode, zero_of_zeroParam h]⟩
  · obtain ⟨⟨hp, hw⟩, -⟩ := of_guard_ok h
    obtain ⟨z, rfl⟩ := exists_fin hp
    obtain ⟨y, x, rfl⟩ := exists_pair (k := 16) (m := 16) hw
    exact ⟨.addBitrev z y x, rfl, rfl⟩
  · exact encoded_of_twoRegs h fun z x => ⟨.ftos16 z x, rfl, rfl⟩
  · obtain ⟨⟨hp, hw⟩, -⟩ := of_guard_ok h
    obtain ⟨z, rfl⟩ := exists_fin hp
    obtain ⟨yx, u, rfl⟩ := exists_pair (k := 256) (m := 16) hw
    obtain ⟨y, x, hyx⟩ := exists_pair (k := 16) (m := 16) yx.isLt
    exact ⟨.crc z y x u, rfl, by rw [encode, ← hyx, Nat.add_mul, Nat.mul_assoc]⟩
  · exact encoded_of_threeM h fun _ _ _ => ⟨.smpyf _ _ _, rfl, rfl⟩
  · exact encoded_of_threeM h fun _ _ _ => ⟨.saddf _ _ _, rfl, rfl⟩
  · exact encoded_of_threeM h fun _ _ _ => ⟨.addf _ _ _, rfl, rfl⟩
  · obtain ⟨⟨hp, hw⟩, -⟩ := of_guard_ok h
    obtain ⟨x, rfl⟩ := exists_xregCode hp
    exact ⟨.ld64Addr2 x (readAddr2 w), rfl, by rw [encode, addr2Code_readAddr2 hw]⟩
  · obtain ⟨r, rfl⟩ := exists_regCode hp
    exact ⟨.st32Addr2 (readAddr2 w) r, rfl, by rw [encode, addr2Code_readAddr2 (of_guard_ok h).1]⟩
  · obtain ⟨⟨hp, hw⟩, -⟩ := of_guard_ok h
    obtain ⟨x, rfl⟩ := exists_xregCode hp
    exact ⟨.st64Addr2 (readAddr2 w) x, rfl, by rw [encode, addr2Code_readAddr2 hw]⟩
  · obtain ⟨⟨hp, hw⟩, -⟩ := of_guard_ok h
    obtain ⟨u, rfl⟩ := exists_bits (m := 8) hw
    exact ⟨.st8Addr2 (readAddr2 p) u, rfl, by rw [encode, addr2Code_readAddr2 hp]⟩
  · obtain ⟨u, rfl⟩ := exists_bits (m := 16) hw
    exact ⟨.st16Addr2 (readAddr2 p) u, rfl, by rw [encode, addr2Code_readAddr2 (of_guard_ok h).1]⟩
  · exact encoded_of_decodeMiscAddr2 h
  · obtain ⟨⟨rfl, hw⟩, -⟩ := of_guard_ok h
    obtain ⟨d, x, rfl⟩ := exists_pair (k := 8) (m := 16) hw
    exact ⟨.callReg x d, rfl, rfl⟩
  · obtain ⟨hp, h⟩ := of_guard_ok h
    obtain ⟨x, rfl⟩ := exists_fin hp
    exact ⟨.callProtReg x, rfl, by rw [encode, zero_of_zeroParam h]⟩
  · cases h

end Group32

section Group16

variable {sub p : Nat} (hp : p < 2048)
include hp

/-- The short ADD and SUB name one register for both (R475). -/
theorem encoded_of_shortImm {f : IBank → Fin 16 → Fin 16 → Half → Instr} (hwf : ∀ b z u, (f b z z u).wf = true)
    (henc : ∀ b z u, u.toNat < 64 → encode (f b z z u) = enc16 sub (ibankCode b * 1024 + z.val * 64 + u.toNat)) : Encoded (enc16 sub p) := by
  obtain ⟨k, q, rfl⟩ := exists_pair (k := 2) (m := 1024) hp
  obtain ⟨z, n, hq⟩ := exists_pair (k := 16) (m := 64) q.isLt
  obtain ⟨b, hb⟩ := exists_ibankCode k.isLt
  have hn : (BitVec.ofNat 16 n.val).toNat = n.val := Nat.mod_eq_of_lt (by omega)
  exact ⟨f b z z (BitVec.ofNat 16 n.val), hwf .., by rw [henc _ _ _ (by omega), hn, hb, ← hq, Nat.add_assoc]⟩

omit hp in
theorem encoded_of_circ {f : Fin 4 → Fin 16 → Instr} {q : Nat} (hq : q < 64) (h : circ f q = .ok i)
    (hf : ∀ (y : Fin 4) (x : Fin 16), notSp x = true → Encoded (enc16 4 (64 * sub + (y.val * 16 + x.val)))) :
    Encoded (enc16 4 (64 * sub + q)) := by
  obtain ⟨y, x, rfl⟩ := exists_pair (k := 4) (m := 16) hq
  have hx := (of_guard_ok h).1
  rw [ofNat_fld_low16] at hx
  exact hf y x hx

omit hp in
theorem encoded_of_decodePlain {q : Nat} (h : decodePlain q = .ok i) : Encoded (enc16 4 (256 + q)) := by
  refine ⟨i, ?_⟩
  unfold decodePlain at h
  split at h
  case h_18 => cases h
  all_goals cases h
  all_goals exact ⟨rfl, rfl⟩

omit hp in
theorem encoded_of_decodeReti {q : Nat} (hq : q < 64) (h : decodeReti q = .ok i) : Encoded (enc16 4 (320 + q)) := by
  obtain ⟨k, d, rfl⟩ := exists_pair (k := 8) (m := 8) hq
  have hk : fld (k.val * 8 + d.val) 3 3 = k.val := by simp only [fld]; omega
  have hd : fld (k.val * 8 + d.val) 0 3 = d.val := by simp only [fld]; omega
  rw [decodeReti, hk, hd] at h
  by_cases h0 : d.val = 0
  · rw [if_pos h0] at h; cases h
  have hne : (d != 0) = true := bne_iff_ne.2 fun e => h0 (by rw [e]; rfl)
  rw [if_neg h0] at h
  split at h
  next hk => exact ⟨.retiIntD d, hne, by rw [encode, hk, Nat.zero_mul, Nat.zero_add]⟩
  next hk => exact ⟨.retiRtintD d, hne, by rw [encode, hk, Nat.one_mul, ← Nat.add_assoc]⟩
  next => cases h

theorem encoded_of_decodeMisc16 (h : decodeMisc16 p = .ok i) : Encoded (enc16 4 p) := by
  have hk : p = 64 * fld p 6 5 + fld p 0 6 := by simp only [fld]; omega
  have hq : fld p 0 6 < 64 := Nat.mod_lt _ (by decide)
  unfold decodeMisc16 at h
  rw [hk]
  generalize fld p 0 6 = q at *
  generalize fld p 6 5 = k at *
  split at h
  · exact encoded_of_circ hq h fun y x hx => ⟨.incCirc y x, hx, by rw [encode, Nat.mul_zero, Nat.zero_add]⟩
  · exact encoded_of_circ hq h fun y x hx => ⟨.decCirc y x, hx, by rw [encode, Nat.add_assoc]⟩
  · obtain ⟨d, rfl⟩ := exists_fin (of_guard_ok h).1
    exact ⟨.ret d, rfl, rfl⟩
  · obtain ⟨x, rfl⟩ := exists_fin (of_guard_ok h).1
    exact ⟨.movRpc x, rfl, rfl⟩
  · exact encoded_of_decodePlain h
  · exact encoded_of_decodeReti hq h
  · cases h

theorem encoded_of_decodeGroup16 (h : decodeGroup16 sub p = .ok i) : Encoded (enc16 sub p) := by
  unfold decodeGroup16 at h
  split at h
  · exact encoded_of_shortImm hp (f := .addImm) (fun _ _ _ => rfl) fun _ _ _ hu => if_pos ⟨rfl, hu⟩
  · exact encoded_of_shortImm hp (f := .subImm) (fun _ _ _ => rfl) fun _ _ _ hu => if_pos ⟨rfl, hu⟩
  · obtain ⟨n, g, rfl⟩ := exists_pair (k := 64) (m := 32) hp
    obtain ⟨r, hr⟩ := exists_regCode n.isLt
    exact ⟨.ld32Addr2 r (readAddr2 g.val), rfl, by rw [encode, hr, addr2Code_readAddr2 g.isLt]⟩
  · obtain ⟨u, rfl⟩ := exists_bits (m := 8) (of_guard_ok h).1
    exact ⟨.atomic u, rfl, rfl⟩
  · exact encoded_of_decodeMisc16 hp h
  · cases h

end Group16

section Group48

variable {op p v : Nat} (hv : v < 4294967296)
include hv

/-- A 32-bit parameter is two words. -/
theorem exists_twoWords : ∃ lo hi, lo < 65536 ∧ hi < 65536 ∧ v = lo + 65536 * hi := ⟨v % 65536, v / 65536, by omega, by omega, by omega⟩

theorem encoded_of_halfAddr1 {f : Addr1 → Instr} {g : Addr1 → Half → Instr} (h : addr1Only f (fld v 0 16) = .ok i)
    (hf : ∀ m u, m.wf = true → (g m u).wf = true ∧ encode (g m u) = enc48 24 op (addr1Code m + 65536 * u.toNat)) : Encoded (enc48 24 op v) := by
  obtain ⟨lo, hi, hlo, hhi, rfl⟩ := exists_twoWords hv
  rw [fld_lowWord hlo] at h
  obtain ⟨u, rfl⟩ := exists_bits (m := 16) hhi
  obtain ⟨hwf, henc⟩ := hf _ u (wf_of_addr1Only h)
  exact ⟨_, hwf, by rw [henc, addr1Code_readAddr1 hlo]⟩

theorem encoded_of_byteParam {f : Addr1 → Byte → Instr} (h : byteParam v f = .ok i)
    (hf : ∀ m u, m.wf = true → (f m u).wf = true ∧ encode (f m u) = enc48 24 op (addr1Code m + 65536 * u.toNat)) : Encoded (enc48 24 op v) := by
  obtain ⟨lo, hi, hlo, hhi, rfl⟩ := exists_twoWords hv
  rw [byteParam, fld_lowWord hlo, fld_highWord hlo hhi] at h
  obtain ⟨hbyte, h⟩ := of_guard_ok h
  obtain ⟨u, rfl⟩ := exists_bits (m := 8) hbyte
  obtain ⟨hwf, henc⟩ := hf _ u (wf_of_addr1Only h)
  exact ⟨_, hwf, by rw [henc, addr1Code_readAddr1 hlo]⟩

theorem encoded_of_twoAddr1 {f : Addr1 → Addr1 → Instr} (h : twoAddr1 v f = .ok i)
    (hf : ∀ d m, (d.wf && m.wf) = true → (f d m).wf = true ∧ encode (f d m) = enc48 24 op (addr1Code d + 65536 * addr1Code m)) :
    Encoded (enc48 24 op v) := by
  obtain ⟨lo, hi, hlo, hhi, rfl⟩ := exists_twoWords hv
  rw [twoAddr1, fld_lowWord hlo, fld_highWord hlo hhi] at h
  obtain ⟨hwf, henc⟩ := hf _ _ (of_guard_ok h).1
  exact ⟨_, hwf, by rw [henc, addr1Code_readAddr1 hlo, addr1Code_readAddr1 hhi]⟩

theorem encoded_of_wordParam {f : Word → Instr} (hf : ∀ a, (f a).wf = true ∧ encode (f a) = enc48 op p a.toNat) : Encoded (enc48 op p v) := by
  obtain ⟨a, rfl⟩ := exists_bits (m := 32) hv
  obtain ⟨hwf, henc⟩ := hf a
  exact ⟨_, hwf, henc⟩

theorem encoded_of_decodeMisc48 (h : decodeMisc48 p v = .ok i) : Encoded (enc48 24 p v) := by
  unfold decodeMisc48 at h
  split at h
  · exact encoded_of_halfAddr1 hv h (g := .or16Addr1) fun _ _ hm => ⟨hm, rfl⟩
  · exact encoded_of_halfAddr1 hv h (g := .and16Addr1) fun _ _ hm => ⟨hm, rfl⟩
  · exact encoded_of_halfAddr1 hv h (g := .xor16Addr1) fun _ _ hm => ⟨hm, rfl⟩
  iterate 3 exact encoded_of_byteParam hv h fun _ _ hm => ⟨hm, rfl⟩
  · exact encoded_of_halfAddr1 hv h (g := .st16Addr1) fun _ _ hm => ⟨hm, rfl⟩
  · exact encoded_of_byteParam hv h fun _ _ hm => ⟨hm, rfl⟩
  iterate 4 exact encoded_of_twoAddr1 hv h fun _ _ hm => ⟨hm, rfl⟩
  · exact encoded_of_wordParam hv (f := .callProtLabel) fun _ => ⟨rfl, rfl⟩
  · exact encoded_of_wordParam hv (f := .lbProt) fun _ => ⟨rfl, rfl⟩
  · exact encoded_of_wordParam hv (f := .ldRpc) fun _ => ⟨rfl, rfl⟩
  · exact encoded_of_wordParam hv (f := fun a => .statusOp (.andImm .dsts a)) fun _ => ⟨rfl, rfl⟩
  · exact encoded_of_wordParam hv (f := fun a => .statusOp (.andImm .ests a)) fun _ => ⟨rfl, rfl⟩
  · exact encoded_of_wordParam hv (f := fun a => .statusOp (.orImm .dsts a)) fun _ => ⟨rfl, rfl⟩
  · exact encoded_of_wordParam hv (f := fun a => .statusOp (.orImm .ests a)) fun _ => ⟨rfl, rfl⟩
  · cases h

/-- A DIRM instruction is direct or indexed by `I[0]` (R207). -/
theorem encoded_of_dirm {direct : Word → Instr} {indexed : Fin 16 → BitVec 28 → Instr} {legal : Prop} [Decidable legal]
    (h : dirm direct indexed legal p v = .ok i)
    (hd : legal → ∀ a, (direct a).wf = true ∧ encode (direct a) = enc48 op (fld p 1 6 * 2) a.toNat)
    (hi : legal → ∀ b o, notSp b = true → (indexed b o).wf = true ∧ encode (indexed b o) = encIx op (fld p 1 6) b o) (hp : p < 128) :
    Encoded (enc48 op p v) := by
  have hl : legal := by
    by_contra hl
    rw [dirm, if_pos hl] at h; cases h
  rw [dirm, if_neg (not_not_intro hl)] at h
  by_cases h0 : fld p 0 1 = 0
  · obtain ⟨a, rfl⟩ := exists_bits (m := 32) hv
    obtain ⟨hwf, henc⟩ := hd hl a
    have hpp : fld p 1 6 * 2 = p := by simp only [fld] at *; omega
    exact ⟨_, hwf, by rw [henc, hpp]⟩
  · rw [if_neg h0] at h
    obtain ⟨o, b, rfl⟩ := exists_pair (k := 268435456) (m := 16) hv
    obtain ⟨hb, -⟩ := of_guard_ok h
    rw [ofNat_fld_low16] at hb
    obtain ⟨u, hu⟩ := exists_bits (m := 28) o.isLt
    obtain ⟨hwf, henc⟩ := hi hl b u hb
    have hpp : fld p 1 6 * 2 + 1 = p := by simp only [fld] at *; omega
    exact ⟨_, hwf, by rw [henc, encIx_eq, hpp, hu]⟩

theorem encoded_of_decodeGroup48 (hp : p < 128) (h : decodeGroup48 op p v = .ok i) : Encoded (enc48 op p v) := by
  have hr : regCode (decodeReg (fld p 1 6)) = fld p 1 6 := regCode_decodeReg (Nat.mod_lt _ (by decide))
  have hx : p < 64 → xregCode (decodeXReg (fld p 1 6)) = fld p 1 6 := fun hl => xregCode_decodeXReg (by simp only [fld]; omega)
  have h0 : p < 2 → fld p 1 6 = 0 := fun hl => by simp only [fld]; omega
  unfold decodeGroup48 at h
  split at h
  -- groups 0 to 11 load a register or a pair, 12 to 19 store one, 20 and 21 convert
  iterate 11 exact encoded_of_dirm hv h (fun _ _ => ⟨rfl, by rw [encode, hr]⟩) (fun _ _ _ hb => ⟨hb, by rw [encode, hr]⟩) hp
  · exact encoded_of_dirm hv h (fun hl _ => ⟨rfl, by rw [encode, hx hl]⟩) (fun hl _ _ hb => ⟨hb, by rw [encode, hx hl]⟩) hp
  iterate 7 exact encoded_of_dirm hv h (fun _ _ => ⟨rfl, by rw [encode, hr]⟩) (fun _ _ _ hb => ⟨hb, by rw [encode, hr]⟩) hp
  · exact encoded_of_dirm hv h (fun hl _ => ⟨rfl, by rw [encode, hx hl]⟩) (fun hl _ _ hb => ⟨hb, by rw [encode, hx hl]⟩) hp
  iterate 2 exact encoded_of_dirm hv h (fun hl _ => ⟨rfl, by rw [encode, h0 hl]⟩) (fun hl _ _ hb => ⟨hb, by rw [encode, h0 hl]⟩) hp
  · obtain ⟨r, rfl⟩ := exists_regCode (of_guard_ok h).1
    exact encoded_of_wordParam hv (f := .mvImm r) fun _ => ⟨rfl, rfl⟩
  · obtain ⟨d, rfl⟩ := exists_fin (of_guard_ok h).1
    exact encoded_of_wordParam hv (f := fun a => .callLabel a d) fun _ => ⟨rfl, rfl⟩
  · exact encoded_of_decodeMisc48 hv h
  · cases h

end Group48

/-! ### The words by their size -/

section Words

variable {w0 w1 w2 : Nat}

theorem sizeWords_eq_one : sizeWords w0 = 1 ↔ fld w0 14 1 = 1 := by unfold sizeWords; split_ifs <;> simp [*]

theorem sizeWords_eq_two : sizeWords w0 = 2 ↔ fld w0 14 1 ≠ 1 ∧ fld w0 13 1 = 1 := by unfold sizeWords; split_ifs <;> simp [*]

theorem sizeWords_eq_three : sizeWords w0 = 3 ↔ fld w0 14 1 ≠ 1 ∧ fld w0 13 1 ≠ 1 := by unfold sizeWords; split_ifs <;> simp [*]

/-- Word 0 without I_Link, by its fields. -/
theorem word0_of_one (h : sizeWords w0 = 1) : w0 % 32768 = 16384 + fld w0 11 3 * 2048 + fld w0 0 11 := by
  have h := sizeWords_eq_one.1 h
  simp only [fld] at *; omega

theorem word0_of_two (h : sizeWords w0 = 2) : w0 % 32768 = 8192 + fld w0 8 5 * 256 + (fld w0 4 4 * 16 + fld w0 0 4)
    ∧ w0 % 32768 = 8192 + fld w0 6 7 * 64 + fld w0 0 6 := by
  obtain ⟨h1, h2⟩ := sizeWords_eq_two.1 h
  simp only [fld] at *; omega

theorem word0_of_three (h : sizeWords w0 = 3) : w0 % 32768 = fld w0 7 6 * 128 + fld w0 0 7 := by
  obtain ⟨h1, h2⟩ := sizeWords_eq_three.1 h
  simp only [fld] at *; omega

/-- The decoder does not look at I_Link (R172, R174). -/
theorem fld_withoutLink {lo n : Nat} (h : lo + n ≤ 15) : fld (w0 % 32768) lo n = fld w0 lo n := by
  have e : w0 % 32768 = fld w0 0 15 := by simp [fld]
  rw [e, fld_fld h, Nat.zero_add]

theorem sizeWords_withoutLink : sizeWords (w0 % 32768) = sizeWords w0 := by simp (disch := decide) only [sizeWords, fld_withoutLink]

theorem decodeWords_withoutLink : decodeWords (w0 % 32768) w1 w2 = decodeWords w0 w1 w2 := by
  simp (disch := decide) only [decodeWords, sizeWords_withoutLink, decode16_eq, decode32, decodeAddr3, longImm, decode48, decodeBcmpz,
    decodeBranchLabel, decodeBranchReg, fld_withoutLink]

/-- The decoder uses the first words only (R172). -/
theorem decodeWords_of_one (h : sizeWords w0 = 1) : decodeWords w0 w1 w2 = decode16 w0 := by simp [decodeWords, h]

theorem decodeWords_of_two (h : sizeWords w0 = 2) : decodeWords w0 w1 w2 = decode32 w0 w1 := by simp [decodeWords, h]

theorem decodeWords_of_three (h : sizeWords w0 = 3) : decodeWords w0 w1 w2 = decode48 w0 (w1 + 65536 * w2) := by simp [decodeWords, h]

theorem sizeWords_cases (w : Nat) : sizeWords w = 1 ∨ sizeWords w = 2 ∨ sizeWords w = 3 := by
  unfold sizeWords; split_ifs <;> simp

/-- The words the decoder uses, I_Link 0. -/
def usedWords (w0 w1 w2 : Nat) : List Nat := [w0 % 32768, w1, w2].take (sizeWords w0)

/-- Where the words used are those of an instruction, that is the one answered (O1). -/
theorem encode_of_encoded (he : Encoded (usedWords w0 w1 w2)) (h : decodeWords w0 w1 w2 = .ok i) :
    i.wf = true ∧ encode i = usedWords w0 w1 w2 := by
  obtain ⟨j, hwf, henc⟩ := he
  obtain ⟨-, -, hj⟩ := readsAs_encode j hwf
  have hs : sizeWords (w0 % 32768) = sizeWords w0 := sizeWords_withoutLink
  have hi : decodeWords ((encode j).getD 0 0) ((encode j).getD 1 0) ((encode j).getD 2 0) = .ok i := by
    rw [← decodeWords_withoutLink] at h
    rw [← h, henc, usedWords]
    rcases sizeWords_cases w0 with hn | hn | hn <;> rw [hn] at hs ⊢
    · exact (decodeWords_of_one hs).trans (decodeWords_of_one hs).symm
    · exact (decodeWords_of_two hs).trans (decodeWords_of_two hs).symm
    · rfl
  obtain rfl : j = i := Except.ok.inj (hj.symm.trans hi)
  exact ⟨hwf, henc⟩

end Words

section Answers

variable {w0 w1 w2 : Nat}

theorem encoded_of_decode16 (h : decode16 w0 = .ok i) (hs : sizeWords w0 = 1) : Encoded (usedWords w0 w1 w2) := by
  rw [decode16_eq] at h
  have he := encoded_of_decodeGroup16 (Nat.mod_lt _ (by decide)) h
  rw [usedWords, hs, word0_of_one hs]
  exact he

theorem encoded_of_addr3 (hw : w1 < 65536) (h : decodeAddr3 w0 w1 = .ok i) :
    Encoded [8192 + 0 * 256 + (fld w0 4 4 * 16 + fld w0 0 4), w1] := by
  obtain ⟨hwf, -⟩ := of_guard_ok h
  refine ⟨.mv32Addr3 _ _, hwf, ?_⟩
  have hd : fld w0 0 8 * 16 + fld w1 12 4 < 4096 := by simp only [fld]; omega
  have hm : fld w1 0 12 < 4096 := by simp only [fld]; omega
  rw [encode, addr3Code_readAddr3 hd, addr3Code_readAddr3 hm]
  have h0 : 8192 + (fld w0 0 8 * 16 + fld w1 12 4) / 16 = 8192 + 0 * 256 + (fld w0 4 4 * 16 + fld w0 0 4) := by simp only [fld]; omega
  have h1 : (fld w0 0 8 * 16 + fld w1 12 4) % 16 * 4096 + fld w1 0 12 = w1 := by simp only [fld]; omega
  rw [h0, h1]

/-- The exception: the long form of what the encoder writes short. -/
def HasShortForm (i : Instr) : Prop := ∃ b z u, u.toNat < 64 ∧ (i = .addImm b z z u ∨ i = .subImm b z z u)

theorem longImm_operands {f : Fin 16 → Fin 16 → Half → Instr} (hw : w1 < 65536) (h : longImm f w0 w1 = .ok i) :
    ∃ z y u, i = f z y u ∧ z.val = fld w0 4 4 ∧ y.val = fld w0 0 4 ∧ u.toNat = w1 := by
  cases h
  exact ⟨_, _, _, rfl, Nat.mod_eq_of_lt (Nat.mod_lt _ (by decide)), Nat.mod_eq_of_lt (Nat.mod_lt _ (by decide)), Nat.mod_eq_of_lt hw⟩

theorem encoded_of_longImm {op : Nat} {f : Fin 16 → Fin 16 → Half → Instr} (hw : w1 < 65536) (h : longImm f w0 w1 = .ok i)
    (hf : ∀ z y u, (f z y u).wf = true ∧ encode (f z y u) = [8192 + op * 256 + z.val * 16 + y.val, u.toNat]) :
    Encoded [8192 + op * 256 + (fld w0 4 4 * 16 + fld w0 0 4), w1] := by
  obtain ⟨z, y, u, -, hz, hy, hu⟩ := longImm_operands hw h
  obtain ⟨hwf, henc⟩ := hf z y u
  exact ⟨_, hwf, by rw [henc, hz, hy, hu, Nat.add_assoc]⟩

theorem encoded_or_short {short long : Nat} {f : IBank → Fin 16 → Fin 16 → Half → Instr} {b : IBank} (hw : w1 < 65536)
    (h : longImm (f b) w0 w1 = .ok i) (hf : ∀ z y u, (f b z y u).wf = true ∧ encode (f b z y u) = encImm short long b z y u)
    (hshort : ∀ z u, u.toNat < 64 → HasShortForm (f b z z u)) :
    Encoded [8192 + (long + ibankCode b) * 256 + (fld w0 4 4 * 16 + fld w0 0 4), w1] ∨ i.wf = true ∧ HasShortForm i := by
  obtain ⟨z, y, u, rfl, hz, hy, hu⟩ := longImm_operands hw h
  obtain ⟨hwf, henc⟩ := hf z y u
  by_cases hs : z = y ∧ u.toNat < 64
  · obtain ⟨rfl, hlt⟩ := hs
    exact .inr ⟨hwf, hshort z u hlt⟩
  · exact .inl ⟨_, hwf, by rw [henc, encImm, if_neg hs, hz, hy, hu, Nat.add_assoc]⟩

theorem encoded_or_short_of_addImm {b : IBank} (hw : w1 < 65536) (h : longImm (.addImm b) w0 w1 = .ok i) :
    Encoded [8192 + (4 + ibankCode b) * 256 + (fld w0 4 4 * 16 + fld w0 0 4), w1] ∨ i.wf = true ∧ HasShortForm i :=
  encoded_or_short (f := .addImm) hw h (fun _ _ _ => ⟨rfl, rfl⟩) fun z u hu => ⟨b, z, u, hu, .inl rfl⟩

theorem encoded_or_short_of_subImm {b : IBank} (hw : w1 < 65536) (h : longImm (.subImm b) w0 w1 = .ok i) :
    Encoded [8192 + (6 + ibankCode b) * 256 + (fld w0 4 4 * 16 + fld w0 0 4), w1] ∨ i.wf = true ∧ HasShortForm i :=
  encoded_or_short (f := .subImm) hw h (fun _ _ _ => ⟨rfl, rfl⟩) fun z u hu => ⟨b, z, u, hu, .inr rfl⟩

theorem encoded_or_short_of_decode32 (hw : w1 < 65536) (hs : sizeWords w0 = 2) (h : decode32 w0 w1 = .ok i) :
    Encoded (usedWords w0 w1 w2) ∨ i.wf = true ∧ HasShortForm i := by
  obtain ⟨hlow, hhigh⟩ := word0_of_two hs
  have he : usedWords w0 w1 w2 = [w0 % 32768, w1] := by rw [usedWords, hs]; rfl
  rw [he]
  unfold decode32 at h
  split at h
  next hop => rw [hlow, hop]; exact .inl (encoded_of_addr3 hw h)
  next hop => rw [hlow, hop]; exact .inl (encoded_of_longImm hw h fun _ _ _ => ⟨rfl, rfl⟩)
  next hop => rw [hlow, hop]; exact .inl (encoded_of_longImm hw h fun _ _ _ => ⟨rfl, rfl⟩)
  next => cases h
  next hop => rw [hlow, hop]; exact encoded_or_short_of_addImm (b := .a) hw h
  next hop => rw [hlow, hop]; exact encoded_or_short_of_addImm (b := .d) hw h
  next hop => rw [hlow, hop]; exact encoded_or_short_of_subImm (b := .a) hw h
  next hop => rw [hlow, hop]; exact encoded_or_short_of_subImm (b := .d) hw h
  next =>
    rw [hhigh]
    exact .inl (encoded_of_decodeGroup32 (Nat.mod_lt _ (by decide)) hw h)

theorem encoded_of_decodeBcmpz {v : Nat} (hv : v < 4294967296) (hop : fld w0 11 2 = 3) (h : decodeBcmpz w0 v = .ok i) :
    Encoded [fld w0 7 6 * 128 + fld w0 0 7, v % 65536, v / 65536] := by
  unfold decodeBcmpz at h
  split at h
  next c hc =>
    obtain ⟨a, rfl⟩ := exists_bits (m := 32) hv
    obtain ⟨x, hx⟩ := exists_fin (show fld w0 0 4 < 16 from Nat.mod_lt _ (by decide))
    obtain ⟨d, hd⟩ := exists_fin (show fld w0 8 3 < 8 from Nat.mod_lt _ (by decide))
    have hw : 3 * 2048 + fld w0 8 3 * 256 + fld w0 4 4 * 16 + fld w0 0 4 = fld w0 7 6 * 128 + fld w0 0 7 := by simp only [fld] at *; omega
    exact ⟨.bcmpz a c x d, rfl, by rw [encode, hx, hd, dcondCode_of_readDCond hc, hw]⟩
  next => cases h

theorem encoded_of_decodeBranchLabel {v : Nat} (hv : v < 4294967296) (hop : fld w0 9 4 = 10) (h : decodeBranchLabel w0 v = .ok i) :
    Encoded [fld w0 7 6 * 128 + fld w0 0 7, v % 65536, v / 65536] := by
  unfold decodeBranchLabel at h
  split_ifs at h with h1
  split at h
  next c hc =>
    obtain ⟨a, rfl⟩ := exists_bits (m := 32) hv
    obtain ⟨d, hd⟩ := exists_fin (show fld w0 6 3 < 8 from Nat.mod_lt _ (by decide))
    obtain ⟨hcode, -⟩ := condCode_of_readCond (by decide) hc
    have hw : 10 * 512 + fld w0 6 3 * 64 + fld w0 0 6 = fld w0 7 6 * 128 + fld w0 0 7 := by simp only [fld] at *; omega
    have hwf : branchWf (.label a) c = true := by
      cases c with
      | taMap lut => exact absurd hcode.symm h1
      | _ => rfl
    exact ⟨.branch (.label a) c d, hwf, by rw [encode, encBranch, hd, hcode, hw]⟩
  next => cases h

theorem encoded_of_decodeBranchReg {v : Nat} (hv : v < 4294967296) (hop : fld w0 9 4 = 11) (h : decodeBranchReg w0 v = .ok i) :
    Encoded [fld w0 7 6 * 128 + fld w0 0 7, v % 65536, v / 65536] := by
  obtain ⟨lo, hi, hlo, hhi, rfl⟩ := exists_twoWords hv
  rw [decodeBranchReg, fld_lowWord hlo, fld_highWord hlo hhi] at h
  split_ifs at h with hn
  split at h
  next c hc =>
    obtain ⟨x, hx⟩ := exists_fin (show hi < 16 by omega)
    obtain ⟨d, hd⟩ := exists_fin (show fld w0 6 3 < 8 from Nat.mod_lt _ (by decide))
    obtain ⟨hcode, htable⟩ := condCode_of_readCond hlo hc
    have ht : condTable c = lo := by
      by_cases h1 : fld w0 0 6 = 1
      · exact htable h1
      · rw [condTable_eq_zero (by rwa [hcode])]; omega
    have hw : 11 * 512 + fld w0 6 3 * 64 + fld w0 0 6 = fld w0 7 6 * 128 + fld w0 0 7 := by simp only [fld] at *; omega
    have h0 : (lo + 65536 * hi) % 65536 = lo := by omega
    have h1 : (lo + 65536 * hi) / 65536 = hi := by omega
    exact ⟨.branch (.reg x) c d, rfl, by rw [encode, encBranch_reg, hx, hd, hcode, ht, hw, h0, h1]⟩
  next => cases h

theorem encoded_of_decode48 (hw1 : w1 < 65536) (hw2 : w2 < 65536) (hs : sizeWords w0 = 3) (h : decode48 w0 (w1 + 65536 * w2) = .ok i) :
    Encoded (usedWords w0 w1 w2) := by
  have hv : w1 + 65536 * w2 < 4294967296 := by omega
  have he : usedWords w0 w1 w2 = [fld w0 7 6 * 128 + fld w0 0 7, (w1 + 65536 * w2) % 65536, (w1 + 65536 * w2) / 65536] := by
    rw [usedWords, hs, word0_of_three hs, show (w1 + 65536 * w2) % 65536 = w1 by omega, show (w1 + 65536 * w2) / 65536 = w2 by omega]
    rfl
  rw [he]
  unfold decode48 at h
  split_ifs at h with h1 h2 h3
  · exact encoded_of_decodeBcmpz hv h1 h
  · exact encoded_of_decodeBranchLabel hv h2 h
  · exact encoded_of_decodeBranchReg hv h3 h
  · exact encoded_of_decodeGroup48 hv (Nat.mod_lt _ (by decide)) h

/-- What the decoder answers is well formed and its encoding is the words used, or it has a short form. -/
theorem wf_and_encode_of_decodeWords (hw1 : w1 < 65536) (hw2 : w2 < 65536) (h : decodeWords w0 w1 w2 = .ok i) :
    i.wf = true ∧ (encode i = usedWords w0 w1 w2 ∨ sizeWords w0 = 2 ∧ HasShortForm i) := by
  rcases sizeWords_cases w0 with hs | hs | hs
  · obtain ⟨hwf, henc⟩ := encode_of_encoded (encoded_of_decode16 (by rwa [← decodeWords_of_one hs]) hs) h
    exact ⟨hwf, .inl henc⟩
  · rcases encoded_or_short_of_decode32 hw1 hs (by rwa [← decodeWords_of_two hs]) with he | ⟨hwf, hshort⟩
    · obtain ⟨hwf, henc⟩ := encode_of_encoded he h
      exact ⟨hwf, .inl henc⟩
    · exact ⟨hwf, .inr ⟨hs, hshort⟩⟩
  · obtain ⟨hwf, henc⟩ := encode_of_encoded (encoded_of_decode48 hw1 hw2 hs (by rwa [← decodeWords_of_three hs])) h
    exact ⟨hwf, .inl henc⟩

end Answers

/-! ### Unused opcode numbers -/

section Unused

variable {w0 w1 w2 : Nat}

theorem decodePlain_unused {q : Nat} (h : 17 ≤ q) : decodePlain q = .error .undefinedOpcode := by
  unfold decodePlain; split
  case h_18 => rfl
  all_goals omega

theorem decodeMisc16_unused {p : Nat} (h : 6 ≤ fld p 6 5 ∨ fld p 6 5 = 4 ∧ 17 ≤ fld p 0 6) : decodeMisc16 p = .error .undefinedOpcode := by
  unfold decodeMisc16; split
  case h_5 => exact decodePlain_unused (by omega)
  case h_7 => rfl
  all_goals omega

theorem decode16_unused (h : 5 ≤ fld w0 11 3 ∨ fld w0 11 3 = 4 ∧ (6 ≤ fld w0 6 5 ∨ fld w0 6 5 = 4 ∧ 17 ≤ fld w0 0 6)) :
    decode16 w0 = .error .undefinedOpcode := by
  have h1 : fld (fld w0 0 11) 6 5 = fld w0 6 5 := fld_fld (by decide)
  have h2 : fld (fld w0 0 11) 0 6 = fld w0 0 6 := fld_fld (by decide)
  unfold decode16; split
  case h_5 => exact decodeMisc16_unused (by rw [h1, h2]; omega)
  case h_6 => rfl
  all_goals omega

theorem decodeMiscAddr1_unused {p w : Nat} (h : 21 ≤ p) : decodeMiscAddr1 p w = .error .undefinedOpcode := by
  unfold decodeMiscAddr1; split
  case h_22 => rfl
  all_goals omega

theorem decodeMiscAddr2_unused {p w : Nat} (h : 8 ≤ p) : decodeMiscAddr2 p w = .error .undefinedOpcode := by
  unfold decodeMiscAddr2; split
  case h_9 => rfl
  all_goals omega

theorem decodeGroup32_unused {op p w : Nat} (h : 81 ≤ op) : decodeGroup32 op p w = .error .undefinedOpcode := by
  unfold decodeGroup32; split
  case h_50 => rfl
  all_goals omega

theorem decode32_unused
    (h : fld w0 8 5 = 3 ∨ 81 ≤ fld w0 6 7 ∨ fld w0 6 7 = 52 ∧ 21 ≤ fld w0 0 6 ∨ fld w0 6 7 = 78 ∧ 8 ≤ fld w0 0 6) :
    decode32 w0 w1 = .error .undefinedOpcode := by
  have hg : fld w0 8 5 = fld w0 6 7 / 4 := by simp only [fld]; omega
  unfold decode32; split
  case h_4 => rfl
  case h_9 =>
    rcases h with h | h | ⟨h, hp⟩ | ⟨h, hp⟩
    · contradiction
    · exact decodeGroup32_unused h
    · rw [h]; exact decodeMiscAddr1_unused hp
    · rw [h]; exact decodeMiscAddr2_unused hp
  all_goals omega

theorem decodeMisc48_unused {p v : Nat} (h : 19 ≤ p) : decodeMisc48 p v = .error .undefinedOpcode := by
  unfold decodeMisc48; split
  case h_20 => rfl
  all_goals omega

theorem decodeGroup48_unused {op p v : Nat} (h : 25 ≤ op) : decodeGroup48 op p v = .error .undefinedOpcode := by
  unfold decodeGroup48; split
  case h_26 => rfl
  all_goals omega

theorem decode48_unused {v : Nat} (h : 25 ≤ fld w0 7 6 ∧ fld w0 7 6 < 40 ∨ fld w0 7 6 = 24 ∧ 19 ≤ fld w0 0 7) :
    decode48 w0 v = .error .undefinedOpcode := by
  have h1 : fld w0 11 2 = fld w0 7 6 / 16 := by simp only [fld]; omega
  have h2 : fld w0 9 4 = fld w0 7 6 / 4 := by simp only [fld]; omega
  rw [decode48, if_neg (by omega), if_neg (by omega), if_neg (by omega)]
  rcases h with ⟨h, -⟩ | ⟨h, hp⟩
  · exact decodeGroup48_unused h
  · rw [h]; exact decodeMisc48_unused hp

end Unused

/-- A bit of a word is its field of one bit. -/
theorem getLsbD_eq_fld (w : Nat) {k : Nat} (hk : k < 16) : (BitVec.ofNat 16 w).getLsbD k = decide (fld w k 1 = 1) := by
  rw [BitVec.getLsbD_ofNat, Nat.testBit_eq_decide_div_mod_eq]
  simp [hk, fld]

/-- Bits 14 and 13 of Word 0 give the size (R172). -/
theorem sizeWords_eq_of_bits (w : Nat) :
    sizeWords w = if (BitVec.ofNat 16 w).getLsbD 14 then 1 else if (BitVec.ofNat 16 w).getLsbD 13 then 2 else 3 := by
  simp only [getLsbD_eq_fld w (show 14 < 16 by decide), getLsbD_eq_fld w (show 13 < 16 by decide), decide_eq_true_eq, sizeWords]

/-- Settles O3: the answers by the size of the instruction, the refusals by its opcode number. -/
theorem decodingDropsNoBit : Obligations.DecodingDropsNoBit := by
  unfold Obligations.DecodingDropsNoBit
  refine ⟨fun w _ => sizeWords_eq_of_bits w, ⟨fun f => addr1Code_readAddr1, fun g => addr2Code_readAddr2⟩,
    fun w0 w1 w2 i _ hw1 hw2 h => wf_and_encode_of_decodeWords hw1 hw2 h, fun w0 w1 w2 => ⟨fun hs h => ?_, fun hs h => ?_, fun hs h => ?_⟩⟩
  · rw [decodeWords_of_one hs, decode16_unused h]
  · rw [decodeWords_of_two hs, decode32_unused h]
  · rw [decodeWords_of_three hs, decode48_unused h]

end Sys2Proof.Proofs
end

section
/-! PROOFS. What an instruction does to the two hardware stacks, to INTS and to a fault already raised: most leave all of them alone, a
protected transfer pushes or pops one frame, a return from an interrupt restores INTS or pops one frame. One lemma for each shared operation,
then `exec`. -/

namespace Sys2Proof.Proofs

open Sys2Proof.Machine Sys2Proof.Laws

variable {s t u : State} {is : List Instr} {fin : Nat}

/-- Both hardware stacks and INTS are as they were, and the first cause of a fault stays (R502). -/
def keepsStacks (s t : State) : Prop :=
  t.cur.protStack = s.cur.protStack ∧ t.cur.rtStack = s.cur.rtStack ∧ t.cur.dsts.ints = s.cur.dsts.ints
    ∧ (s.cur.fault ≠ none → t.cur.fault = s.cur.fault)

theorem keepsStacks_refl (s : State) : keepsStacks s s := ⟨rfl, rfl, rfl, fun _ => rfl⟩

theorem keepsStacks_trans (h : keepsStacks s t) (g : keepsStacks t u) : keepsStacks s u := by
  obtain ⟨h1, h2, h3, h4⟩ := h
  obtain ⟨g1, g2, g3, g4⟩ := g
  exact ⟨g1.trans h1, g2.trans h2, g3.trans h3, fun n => (g4 (h4 n ▸ n)).trans (h4 n)⟩

/-! ### Operations that always answer -/

theorem raise_keepsStacks (c : Cause) (s : State) : keepsStacks s (raise c s) :=
  ⟨by simp, by simp, by simp, fun n => by
    obtain ⟨d, hd⟩ := Option.ne_none_iff_exists'.1 n
    simp [raise_cur_fault, hd]⟩

theorem raiseIf_keepsStacks (b : Bool) (c : Cause) (s : State) : keepsStacks s (raiseIf b c s) := by
  cases b
  · exact keepsStacks_refl s
  · exact raise_keepsStacks c s

theorem checkSp_keepsStacks (s : State) : keepsStacks s (checkSp s) := raiseIf_keepsStacks _ _ _

theorem checkTransfer_keepsStacks (target : Word) (s : State) : keepsStacks s (checkTransfer target s) := by
  unfold checkTransfer
  split
  · exact keepsStacks_refl s
  · exact raiseIf_keepsStacks _ _ _

theorem writeA_keepsStacks (i : Fin 16) (v : Word) (s : State) : keepsStacks s (writeA i v s) := keepsStacks_refl s

theorem writeRpc_keepsStacks (v : Word) (s : State) : keepsStacks s (writeRpc v s) := keepsStacks_refl s

theorem scrambleWork_keepsStacks (s : State) : keepsStacks s (scrambleWork s) := ⟨rfl, rfl, rfl, fun _ => rfl⟩

theorem writeReg_keepsStacks (r : Reg) (v : Word) (s : State) : keepsStacks s (writeReg r v s) := by cases r <;> exact keepsStacks_refl s

theorem writeX_keepsStacks (x : XReg) (v : DWord) (s : State) : keepsStacks s (writeX x v s) :=
  keepsStacks_trans (writeReg_keepsStacks _ _ _) (writeReg_keepsStacks _ _ _)

theorem applySide_keepsStacks (e : EffAddr) (s : State) : keepsStacks s (applySide e s) := by
  unfold applySide
  split <;> exact keepsStacks_refl s

/-- Software does not reach INTS (R70). -/
theorem writeStatus_keepsStacks (q : StatusReg) (v : Word) (s : State) : keepsStacks s (writeStatus q v s) := by
  cases q <;> exact keepsStacks_refl s

theorem writeSum_keepsStacks (b : IBank) (z : Fin 16) (v : Word) (o neg : Bool) (s : State) : keepsStacks s (writeSum b z v o neg s) := by
  cases b <;> cases o <;> exact keepsStacks_refl s

theorem writeTestDst_keepsStacks (d : TestDst) (b : Bool) (s : State) : keepsStacks s (spend 1 (writeTestDst d b s)) := by
  rcases d with f | _ | _ | _
  · cases f <;> exact keepsStacks_refl s
  all_goals exact keepsStacks_refl s

theorem swapStacks_keepsStacks (src dst : StackId) (pushed : Option Word) (s : State) : keepsStacks s (swapStacks src dst pushed s) := by
  obtain ⟨-, -, e⟩ | ⟨sp, -, -, e⟩ | ⟨-, e⟩ := swapStacks_cases src dst pushed s <;> rw [e] <;> exact keepsStacks_refl s

/-! ### Operations that may stop -/

theorem stopUnlessFaulted_keepsStacks {r : Refusal} (h : stopUnlessFaulted r s = .next t) : keepsStacks s t := by
  unfold stopUnlessFaulted at h
  split at h <;> cases h
  exact keepsStacks_refl s

theorem keepsStacks_of_memoryOnly (h : memoryOnly s t) : keepsStacks s t := by
  obtain ⟨⟨m, l, f, e⟩, hf, -⟩ := h
  exact ⟨by rw [e], by rw [e], by rw [e], hf⟩

theorem memRead_keepsStacks {a : Word} {n : Nat} {v : DWord} (h : memRead a n s = .next (v, t)) : keepsStacks s t := by
  obtain ⟨e, hf, hr⟩ := memRead_next a n s v t h
  exact keepsStacks_of_memoryOnly ⟨⟨_, _, _, e⟩, hf, hr⟩

theorem memWrite_keepsStacks {a : Word} {n : Nat} {v : DWord} (h : memWrite a n v s = .next t) : keepsStacks s t :=
  keepsStacks_of_memoryOnly (memWrite_memoryOnly _ _ _ _ _ h)

theorem pushFrame_keepsStacks {sp v : Word} {n : Nat} (h : pushFrame sp n v s = .next t) : keepsStacks s t := by
  obtain ⟨u, hu, ht⟩ := andThen_eq_next h
  refine keepsStacks_trans (memWrite_keepsStacks hu) ?_
  split at ht
  · exact keepsStacks_of_memoryOnly (scribble_memoryOnly _ _ _ _ ht)
  · cases ht; exact keepsStacks_refl _

theorem jumpTo_keepsStacks {delay : Fin 8} {late : Late} {target : Word} (h : jumpTo delay late target s = .next t) : keepsStacks s t := by
  obtain ⟨-, rfl, -⟩ | ⟨-, -, rfl⟩ | ⟨-, -, rfl⟩ := jumpTo_next _ _ _ _ _ h <;> exact keepsStacks_refl _

/-- A read, and what is done with its value. -/
theorem keepsStacks_of_read {a : Word} {n : Nat} {k : DWord × State → State} (h : andThen (memRead a n s) (fun v => .next (k v)) = .next t)
    (hk : ∀ v, keepsStacks v.2 (k v)) : keepsStacks s t := by
  obtain ⟨v, hv, ht⟩ := andThen_eq_next h
  cases ht
  exact keepsStacks_trans (memRead_keepsStacks hv) (hk v)

theorem loadReg_keepsStacks {n : Nat} {f : Word → DWord → Word} {r : Reg} {e : EffAddr} (h : loadReg n f r e s = .next t) :
    keepsStacks s t :=
  keepsStacks_of_read h fun _ => keepsStacks_trans (writeReg_keepsStacks _ _ _) (applySide_keepsStacks _ _)

theorem loadPair_keepsStacks {x : XReg} {e : EffAddr} (h : loadPair x e s = .next t) : keepsStacks s t :=
  keepsStacks_of_read h fun _ => keepsStacks_trans (writeX_keepsStacks _ _ _) (applySide_keepsStacks _ _)

theorem storeVal_keepsStacks {n : Nat} {v : DWord} {e : EffAddr} (h : storeVal n v e s = .next t) : keepsStacks s t := by
  obtain ⟨u, hu, ht⟩ := andThen_eq_next h
  cases ht
  exact keepsStacks_trans (memWrite_keepsStacks hu) (applySide_keepsStacks _ _)

theorem moveMem_keepsStacks {n : Nat} {dst src : EffAddr} (h : moveMem n dst src s = .next t) : keepsStacks s t := by
  obtain ⟨v, hv, ht⟩ := andThen_eq_next h
  obtain ⟨u, hu, ht⟩ := andThen_eq_next ht
  cases ht
  exact keepsStacks_trans (memRead_keepsStacks hv) (keepsStacks_trans (memWrite_keepsStacks hu)
    (keepsStacks_trans (applySide_keepsStacks _ _) (applySide_keepsStacks _ _)))

theorem modifyMem_keepsStacks {n : Nat} {f : DWord → DWord} {e : EffAddr} (h : modifyMem n f e s = .next t) : keepsStacks s t := by
  obtain ⟨v, hv, ht⟩ := andThen_eq_next h
  exact keepsStacks_trans (memRead_keepsStacks hv) (storeVal_keepsStacks ht)

theorem callTo_keepsStacks {target : Word} {delay : Fin 8} (h : callTo target delay s = .next t) : keepsStacks s t := by
  obtain ⟨u, hu, ht⟩ := andThen_eq_next h
  have hc := keepsStacks_trans (checkSp_keepsStacks s) (checkTransfer_keepsStacks target _)
  refine keepsStacks_trans hc (keepsStacks_trans (pushFrame_keepsStacks hu) (keepsStacks_trans ?_ (jumpTo_keepsStacks ht)))
  split <;> exact keepsStacks_refl u

theorem returnTo_keepsStacks {delay : Fin 8} (h : returnTo delay s = .next t) : keepsStacks s t := by
  obtain ⟨v, hv, ht⟩ := andThen_eq_next h
  have hc := keepsStacks_trans (checkSp_keepsStacks s) (checkTransfer_keepsStacks s.pre.rpc _)
  have hw : keepsStacks v.2 (writeSp (readSp s - 8) (writeRpc (lowWord v.1) v.2)) := keepsStacks_refl v.2
  exact keepsStacks_trans hc (keepsStacks_trans (memRead_keepsStacks hv) (keepsStacks_trans hw (jumpTo_keepsStacks ht)))

theorem branchTo_keepsStacks {target : Word} {delay : Fin 8} (h : branchTo target delay s = .next t) : keepsStacks s t :=
  keepsStacks_trans (checkTransfer_keepsStacks target s) (jumpTo_keepsStacks h)

theorem enterProtected_keepsStacks {target : Word} {pushed : Option Word} (h : enterProtected target pushed s = .next t) :
    keepsStacks s t := by
  have hs : keepsStacks s (swapStacks (stackOf s.cfg s.pre.ists.currlink) (targetStack target s) pushed (scrambleWork s)) :=
    keepsStacks_trans (scrambleWork_keepsStacks s) (swapStacks_keepsStacks _ _ _ _)
  simp only [enterProtected] at h
  generalize swapStacks (stackOf s.cfg s.pre.ists.currlink) (targetStack target s) pushed (scrambleWork s) = u at h hs
  have hj := jumpTo_keepsStacks h
  exact keepsStacks_trans hs hj

/-! ### Frames that come and go -/

/-- What an instruction may do to the hardware stacks of before its packet: push one frame below MAXPSP or pop one, pop a real-time frame,
or change INTS in an INT handler (R246, R250, R287, R288). The first cause of a fault stays. -/
structure movesStacks (s t : State) : Prop where
  prot : t.cur.protStack = s.cur.protStack
    ∨ (∃ f, t.cur.protStack = f :: s.pre.protStack ∧ s.pre.protStack.length < s.cfg.maxPsp) ∨ ∃ f, s.pre.protStack = f :: t.cur.protStack
  rt : (t.cur.rtStack = s.cur.rtStack ∧ (t.cur.dsts.ints = s.cur.dsts.ints ∨ s.pre.dsts.ints = .int))
    ∨ ∃ f, s.pre.rtStack = f :: t.cur.rtStack
  cause : s.cur.fault ≠ none → t.cur.fault = s.cur.fault

theorem movesStacks_of_keepsStacks (h : keepsStacks s t) : movesStacks s t := by
  obtain ⟨hp, hr, hi, hf⟩ := h
  exact ⟨.inl hp, .inl ⟨hr, .inl hi⟩, hf⟩

/-- What comes before may leave the stacks alone. -/
theorem movesStacks_of_before (h : keepsStacks s t) (hc : keepsContext s t) (hm : movesStacks t u) : movesStacks s u := by
  obtain ⟨h1, h2, h3, h4⟩ := h
  obtain ⟨hpre, hcfg, -⟩ := hc
  obtain ⟨m1, m2, m3⟩ := hm
  rw [h1, hpre, hcfg] at m1
  rw [h2, h3, hpre] at m2
  exact ⟨m1, m2, fun n => (m3 (h4 n ▸ n)).trans (h4 n)⟩

/-- What comes after may leave the stacks alone. -/
theorem movesStacks_of_after (g : keepsStacks t u) (hm : movesStacks s t) : movesStacks s u := by
  obtain ⟨g1, g2, g3, g4⟩ := g
  obtain ⟨m1, m2, m3⟩ := hm
  exact ⟨by rwa [g1], by rwa [g2, g3], fun n => (g4 (m3 n ▸ n)).trans (m3 n)⟩

theorem pushProt_movesStacks (f : ProtFrame) (s : State) : movesStacks s (pushProt f s) := by
  unfold pushProt
  split
  · rename_i hl
    split <;> exact ⟨.inr (.inl ⟨f, rfl, hl⟩), .inl ⟨rfl, .inl rfl⟩, fun _ => rfl⟩
  · exact movesStacks_of_keepsStacks (keepsStacks_refl s)

theorem callProt_movesStacks {target : Word} (h : callProt target s = .next t) : movesStacks s t := by
  obtain ⟨u, hu, ht⟩ := andThen_eq_next h
  have hk : keepsStacks s u := keepsStacks_trans (checkSp_keepsStacks s) (keepsStacks_trans (raiseIf_keepsStacks _ _ _) (pushFrame_keepsStacks hu))
  have hc : keepsContext s u := keepsContext_trans (checkSp_keepsContext s)
    (keepsContext_trans (raiseIf_keepsContext _ _ _) (pushFrame_keepsContext hu))
  refine movesStacks_of_after (enterProtected_keepsStacks ht) (movesStacks_of_before ?_ ?_ (pushProt_movesStacks _ _))
  · exact keepsStacks_trans hk (writeRpc_keepsStacks _ u)
  · exact keepsContext_trans hc (writeRpc_keepsContext _ u)

theorem returnProt_movesStacks (h : returnProt s = .next t) : movesStacks s t := by
  unfold returnProt at h
  split at h
  · exact movesStacks_of_keepsStacks (keepsStacks_trans (checkSp_keepsStacks s) (stopUnlessFaulted_keepsStacks h))
  · rename_i f rest hf
    simp only at h
    split at h
    · exact movesStacks_of_keepsStacks (keepsStacks_trans (checkSp_keepsStacks s) (stopUnlessFaulted_keepsStacks h))
    · obtain ⟨v, hv, ht⟩ := andThen_eq_next h
      have h1 : keepsStacks s (writeRpc (lowWord v.1) (scrambleWork v.2)) := keepsStacks_trans (checkSp_keepsStacks s)
        (keepsStacks_trans (memRead_keepsStacks hv) (keepsStacks_trans (scrambleWork_keepsStacks _) (writeRpc_keepsStacks _ _)))
      generalize writeRpc (lowWord v.1) (scrambleWork v.2) = u at h1 ht
      have h2 : keepsStacks u (if f.stack = stackOf s.cfg s.pre.ists.currlink then u
          else { u with cur := { u.cur with secsp := u.cur.secsp.set (stackOf s.cfg s.pre.ists.currlink) (readSp s) } }) := by
        split <;> exact keepsStacks_refl u
      have h3 := keepsStacks_trans h1 (keepsStacks_trans h2 (writeA_keepsStacks 15
        ((if f.stack = stackOf s.cfg s.pre.ists.currlink then readSp s else s.pre.secsp[f.stack]) - 8) _))
      change jumpTo 0 .nothing s.pre.rpc (spend 1 { (writeSp _ _) with cur := _ }) = _ at ht
      change keepsStacks s (writeSp _ _) at h3
      generalize writeSp _ _ = w at ht h3
      refine movesStacks_of_after (jumpTo_keepsStacks ht) ?_
      obtain ⟨-, hr, hi, hk⟩ := h3
      exact ⟨.inr (.inr ⟨f, hf⟩), .inl ⟨hr, .inl hi⟩, hk⟩

/-- RETI.INT restores the level that its INT entry left (R287). -/
theorem returnInt_movesStacks {delay : Fin 8} (h : returnInt delay s = .next t) : movesStacks s t := by
  unfold returnInt at h
  split at h
  · rename_i v rest hi hv
    obtain ⟨r, hr, ht⟩ := andThen_eq_next h
    have h1 : keepsStacks s (writeSp (readSp s - BitVec.ofNat 32 s.cfg.intFrameBytes) (writeRpc (lowWord r.1) r.2)) :=
      keepsStacks_trans (checkSp_keepsStacks s) (keepsStacks_trans (checkTransfer_keepsStacks s.pre.rpc _)
        (keepsStacks_trans (memRead_keepsStacks hr) (keepsStacks_trans (writeRpc_keepsStacks _ _) (writeA_keepsStacks 15 _ _))))
    simp only at ht
    generalize writeSp (readSp s - BitVec.ofNat 32 s.cfg.intFrameBytes) (writeRpc (lowWord r.1) r.2) = u at h1 ht
    refine movesStacks_of_after (jumpTo_keepsStacks ht) ?_
    obtain ⟨hp, hr, -, hk⟩ := h1
    exact ⟨.inl hp, .inl ⟨hr, .inr hi⟩, hk⟩
  · exact movesStacks_of_keepsStacks (stopUnlessFaulted_keepsStacks h)

theorem returnRealtime_movesStacks {delay : Fin 8} (h : returnRealtime delay s = .next t) : movesStacks s t := by
  unfold returnRealtime at h
  split at h
  · exact movesStacks_of_keepsStacks (stopUnlessFaulted_keepsStacks h)
  · rename_i f rest hf
    refine movesStacks_of_after (jumpTo_keepsStacks h) ?_
    exact ⟨.inl rfl, .inr ⟨f, hf⟩, fun _ => rfl⟩

/-! ### Instructions whose meaning branches -/

theorem execAtomic_keepsStacks {n : BitVec 8} (h : execAtomic n s = .next t) : keepsStacks s t := by
  unfold execAtomic at h
  split_ifs at h
  · exact stopUnlessFaulted_keepsStacks h
  all_goals cases h; exact keepsStacks_refl s

theorem execBranch_keepsStacks {target : BrTarget} {c : Cond} {delay : Fin 8} (h : execBranch target c delay s = .next t) :
    keepsStacks s t := by
  unfold execBranch at h
  split_ifs at h
  · exact branchTo_keepsStacks h
  · cases h; exact keepsStacks_refl s

theorem execBcmpz_keepsStacks {label : Word} {c : DCond} {x : Fin 16} {delay : Fin 8} (h : execBcmpz label c x delay s = .next t) :
    keepsStacks s t := by
  have hf : keepsStacks s (bcmpzFlags (readD x s) s) := keepsStacks_refl s
  unfold execBcmpz at h
  split_ifs at h
  · exact keepsStacks_trans hf (branchTo_keepsStacks h)
  · cases h; exact hf

theorem execStatusOp_keepsStacks {op : StatusOp} (h : execStatusOp op s = .next t) : keepsStacks s t := by
  cases op with
  | load r m => exact keepsStacks_of_read h fun _ => keepsStacks_trans (writeStatus_keepsStacks _ _ _) (applySide_keepsStacks _ _)
  | store r m => exact storeVal_keepsStacks h
  | toReg r dst => cases h; exact writeReg_keepsStacks _ _ _
  | ofReg | andImm | orImm => cases h; exact writeStatus_keepsStacks _ _ _

theorem execSubReg_keepsStacks {b : IBank} {z y x : Fin 16} (h : execSubReg b z y x s = .next t) : keepsStacks s t := by
  unfold execSubReg at h
  split at h <;> cases h <;> exact writeSum_keepsStacks _ _ _ _ _ _

theorem execMvReg_keepsStacks {op : MvRegs} (h : execMvReg op s = .next t) : keepsStacks s t := by
  cases op <;> cases h
  · exact writeReg_keepsStacks _ _ _
  · exact writeX_keepsStacks _ _ _

theorem execCmp_keepsStacks {op : CmpRegs} (h : execCmp op s = .next t) : keepsStacks s t := by
  cases op <;> cases h <;> exact keepsStacks_refl s

theorem execIncCirc_keepsStacks {y : Fin 4} {x : Fin 16} (h : execIncCirc y x s = .next t) : keepsStacks s t := by
  simp only [execIncCirc] at h
  split at h <;> cases h <;> exact keepsStacks_refl s

theorem execDecCirc_keepsStacks {y : Fin 4} {x : Fin 16} (h : execDecCirc y x s = .next t) : keepsStacks s t := by
  simp only [execDecCirc] at h
  split at h <;> cases h <;> exact keepsStacks_refl s

/-! ### All instructions -/

/-- An instruction moves the hardware stacks as above, or is an EMUSTOP0 that halts with the state of before its packet (R296). -/
theorem exec_stacks {i : Instr} (h : exec i s = .next t) : movesStacks s t ∨ (breakArmed s = true ∧ t.cur = s.pre) := by
  have keep (g : keepsStacks s t) : movesStacks s t ∨ (breakArmed s = true ∧ t.cur = s.pre) := .inl (movesStacks_of_keepsStacks g)
  cases i with
  | add32Addr1 | addS16Addr1 | addS8Addr1 | andU16Addr1 | andU8Addr1 | andorB0Addr1 | andorW0Addr1 | mvU16Addr1 | mvU8Addr1 | retAddr1
    | s16tofAddr1 | sub32Addr1 | subS16Addr1 | subS8Addr1 | subr32Addr1 | subrS16Addr1 | subrS8Addr1 | u16tofAddr1 | and32Addr2
    | andorAddr2 | mv16Addr2 | mv32Addr2 | mv64Addr2 | mv8Addr2 | or32Addr2 | xor32Addr2 | s16tofDirm | s16tofDirmIx | u16tofDirm
    | u16tofDirmIx | preserve | xc | xcp | eccselftest => cases h
  | and16Addr1 m v => exact keep (modifyMem_keepsStacks (show execAnd16Addr1 m v s = .next t from h))
  | and8Addr1 m v => exact keep (modifyMem_keepsStacks (show execAnd8Addr1 m v s = .next t from h))
  | or16Addr1 m v => exact keep (modifyMem_keepsStacks (show execOr16Addr1 m v s = .next t from h))
  | or8Addr1 m v => exact keep (modifyMem_keepsStacks (show execOr8Addr1 m v s = .next t from h))
  | xor16Addr1 m v => exact keep (modifyMem_keepsStacks (show execXor16Addr1 m v s = .next t from h))
  | xor8Addr1 m v => exact keep (modifyMem_keepsStacks (show execXor8Addr1 m v s = .next t from h))
  | ld32Addr1 | ldB0Addr1 | ldB1Addr1 | ldB2Addr1 | ldB3Addr1 | ldS16Addr1 | ldS8Addr1 | ldU16Addr1 | ldU8Addr1 | ldW0Addr1
    | ldW1Addr1 | ld32Addr2 | ld32Dirm | ld32DirmIx | ldB0Dirm | ldB0DirmIx | ldB1Dirm | ldB1DirmIx | ldB2Dirm | ldB2DirmIx | ldB3Dirm
    | ldB3DirmIx | ldS16Dirm | ldS16DirmIx | ldS8Dirm | ldS8DirmIx | ldU16Dirm | ldU16DirmIx | ldU8Dirm | ldU8DirmIx | ldW0Dirm
    | ldW0DirmIx | ldW1Dirm | ldW1DirmIx => exact keep (loadReg_keepsStacks h)
  | ld64Addr1 | ld64Addr2 | ld64Dirm | ld64DirmIx => exact keep (loadPair_keepsStacks h)
  | mv16Addr1 | mv32Addr1 | mv64Addr1 | mv8Addr1 | mv32Addr3 => exact keep (moveMem_keepsStacks h)
  | st16Addr1 | st32Addr1 | st64Addr1 | st8Addr1 | stB0Addr1 | stB1Addr1 | stB2Addr1 | stB3Addr1 | stW0Addr1 | stW1Addr1 | st16Addr2
    | st32Addr2 | st64Addr2 | st8Addr2 | st32Dirm | st32DirmIx | st64Dirm | st64DirmIx | stB0Dirm | stB0DirmIx | stB1Dirm | stB1DirmIx
    | stB2Dirm | stB2DirmIx | stB3Dirm | stB3DirmIx | stW0Dirm | stW0DirmIx | stW1Dirm | stW1DirmIx => exact keep (storeVal_keepsStacks h)
  | callLabel | callReg => exact keep (callTo_keepsStacks h)
  | ret => exact keep (returnTo_keepsStacks h)
  | branch => exact keep (execBranch_keepsStacks h)
  | bcmpz => exact keep (execBcmpz_keepsStacks h)
  | callProtLabel | callProtReg => exact .inl (callProt_movesStacks h)
  | lbProt => exact keep (enterProtected_keepsStacks h)
  | retProt => exact .inl (returnProt_movesStacks h)
  | retiInt | retiIntD => exact .inl (returnInt_movesStacks h)
  | retiRtint | retiRtintD => exact .inl (returnRealtime_movesStacks h)
  | emustop0 =>
    obtain ⟨-, e⟩ | ⟨hb, -⟩ := execEmustop0_cases s
    · cases e.symm.trans h; exact keep (keepsStacks_refl s)
    · cases (if_pos hb).symm.trans h
      exact .inr ⟨hb, rfl⟩
  | entry1Prot | entry2Prot | exitProt | enint | disint | isr1Prot | isr2Prot | idle | movRpc | nop | addU16 | subU16 | addBitrev
    | ftos16 | crc | smpyf | saddf | addf => cases h; exact keep (keepsStacks_refl s)
  | atomic => exact keep (execAtomic_keepsStacks h)
  | ldRpc => exact keep (keepsStacks_of_read h fun _ => writeRpc_keepsStacks _ _)
  | statusOp => exact keep (execStatusOp_keepsStacks h)
  | addImm | addReg | subImm => cases h; exact keep (writeSum_keepsStacks _ _ _ _ _ _)
  | subReg => exact keep (execSubReg_keepsStacks h)
  | mvImm => cases h; exact keep (writeReg_keepsStacks _ _ _)
  | mvReg => exact keep (execMvReg_keepsStacks h)
  | cmp => exact keep (execCmp_keepsStacks h)
  | tbit => cases h; exact keep (writeTestDst_keepsStacks _ _ _)
  | tflg => cases h; exact keep (writeTestDst_keepsStacks (.flag _) _ _)
  | incCirc => exact keep (execIncCirc_keepsStacks h)
  | decCirc => exact keep (execDecCirc_keepsStacks h)

end Sys2Proof.Proofs
end

section
/-! PROOFS. Both hardware stacks stay within their limits: O7. A packet leaves each as it was, or a frame longer below the limit, or a frame
shorter; only an entry makes the real-time stack longer, and the level past MAXRTISP is reached by an NMI or with a fault. -/

namespace Sys2Proof.Proofs

open Sys2Proof.Machine Sys2Proof.Laws

variable {s t u : State} {is : List Instr} {fin : Nat}

/-! ### The limits -/

/-- Both stacks are within their limits, and no handler of an NMI is interrupted (R253, R546, R555). -/
def withinLimits (c : Params) (a : Arch) : Prop :=
  a.protStack.length ≤ c.maxPsp ∧ a.rtStack.length ≤ c.maxRtisp + 1 ∧ ∀ f ∈ a.rtStack, f.dsts.ints ≠ .nmi

/-- The level past MAXRTISP is that of an NMI handler. -/
def lastLevelIsNmi (c : Params) (a : Arch) : Prop := a.rtStack.length = c.maxRtisp + 1 → a.dsts.ints = .nmi

/-- The invariant: outside FAULT the last level is reserved for an NMI. -/
def stacksInOrder (c : Params) (a : Arch) : Prop := withinLimits c a ∧ (a.fault = none → lastLevelIsNmi c a)

theorem withinLimits_of_keepsStacks {c : Params} (h : keepsStacks s t) (hs : withinLimits c s.cur) : withinLimits c t.cur := by
  obtain ⟨hp, hr, -⟩ := h
  rwa [withinLimits, hp, hr]

theorem lastLevelIsNmi_of_keepsStacks {c : Params} (h : keepsStacks s t) (hs : lastLevelIsNmi c s.cur) : lastLevelIsNmi c t.cur := by
  obtain ⟨-, hr, hi, -⟩ := h
  rwa [lastLevelIsNmi, hr, hi]

theorem stacksInOrder_of_keepsStacks {c : Params} (h : keepsStacks s t) (hs : stacksInOrder c s.cur) : stacksInOrder c t.cur := by
  refine ⟨withinLimits_of_keepsStacks h hs.1, fun hf => lastLevelIsNmi_of_keepsStacks h (hs.2 ?_)⟩
  obtain ⟨-, -, -, hk⟩ := h
  by_contra n
  exact n ((hk n).symm.trans hf)

/-- Outside an NMI handler the level past MAXRTISP is not in use. -/
theorem rtStack_length_le {c : Params} {a : Arch} (h : withinLimits c a) (hl : lastLevelIsNmi c a) (hn : a.dsts.ints ≠ .nmi) :
    a.rtStack.length ≤ c.maxRtisp := by
  obtain ⟨-, hr, -⟩ := h
  by_contra n
  exact hn (hl (by omega))

/-! ### The packet -/

/-- What a packet has done so far: PSP is within its limit, the real-time stack has at most lost frames, and where it has not, INTS is as it
was or was that of an INT handler. -/
def stacksOfPacket (s : State) : Prop :=
  s.cur.protStack.length ≤ s.cfg.maxPsp ∧ s.cur.rtStack <:+ s.pre.rtStack
    ∧ (s.cur.rtStack.length < s.pre.rtStack.length ∨ s.cur.dsts.ints = s.pre.dsts.ints ∨ s.pre.dsts.ints = .int)

theorem stacksOfPacket_of_cur_eq_pre (hp : s.pre.protStack.length ≤ s.cfg.maxPsp) (h : s.cur = s.pre) : stacksOfPacket s := by
  rw [stacksOfPacket, h]
  exact ⟨hp, List.suffix_refl _, .inr (.inl rfl)⟩

theorem stacksOfPacket_of_keepsStacks (h : keepsStacks s t) (hp : t.pre = s.pre) (hc : t.cfg = s.cfg) (hs : stacksOfPacket s) :
    stacksOfPacket t := by
  obtain ⟨h1, h2, h3, -⟩ := h
  rwa [stacksOfPacket, h1, h2, h3, hp, hc]

theorem stacksOfPacket_of_movesStacks (h : movesStacks s t) (hc : keepsContext s t) (hp : s.pre.protStack.length ≤ s.cfg.maxPsp)
    (hs : stacksOfPacket s) : stacksOfPacket t := by
  obtain ⟨hpre, hcfg, -⟩ := hc
  obtain ⟨hprot, hrt, -⟩ := h
  obtain ⟨h1, h2, h3⟩ := hs
  rw [stacksOfPacket, hpre, hcfg]
  refine ⟨?_, ?_⟩
  · obtain e | ⟨f, e, hl⟩ | ⟨f, e⟩ := hprot
    · rwa [e]
    · rw [e]; exact hl
    · rw [e, List.length_cons] at hp; omega
  · obtain ⟨e, hi⟩ | ⟨f, e⟩ := hrt
    · rw [e]
      refine ⟨h2, ?_⟩
      obtain hi | hi := hi
      · rwa [hi]
      · exact .inr (.inr hi)
    · rw [e]
      exact ⟨List.suffix_cons _ _, .inl (by simp)⟩

theorem stacksOfPacket_execAll (h : execAll is s = .next t) (hp : s.pre.protStack.length ≤ s.cfg.maxPsp) (hs : stacksOfPacket s) :
    stacksOfPacket t := by
  induction is generalizing s with
  | nil => cases h; exact hs
  | cons i is ih =>
    simp only [execAll] at h
    split at h
    · cases h; exact hs
    · obtain ⟨u, hu, ht⟩ := andThen_eq_next h
      have hc := exec_keepsContext hu
      obtain ⟨hpre, hcfg, -⟩ := id hc
      refine ih ht (by rwa [hpre, hcfg]) ?_
      obtain hm | ⟨-, e⟩ := exec_stacks hu
      · exact stacksOfPacket_of_movesStacks hm hc hp hs
      · exact stacksOfPacket_of_cur_eq_pre (by rwa [hpre, hcfg]) (e.trans hpre.symm)

/-- What a packet has done keeps the limits that held before it. -/
theorem limits_of_stacksOfPacket (h : stacksOfPacket s) (hp : withinLimits s.cfg s.pre) (hl : lastLevelIsNmi s.cfg s.pre) :
    withinLimits s.cfg s.cur ∧ lastLevelIsNmi s.cfg s.cur := by
  obtain ⟨h1, h2, h3⟩ := h
  obtain ⟨-, hr, hf⟩ := hp
  have hle := h2.length_le
  refine ⟨⟨h1, by omega, fun f hm => hf f (h2.subset hm)⟩, fun e => ?_⟩
  have hn := hl (by omega)
  obtain h3 | h3 | h3 := h3
  · omega
  · exact h3.trans hn
  · exact absurd (h3.symm.trans hn) (by decide)

/-! ### The end of a packet -/

theorem scrambleLate_keepsStacks (is : List Instr) (s : State) : keepsStacks s (scrambleLate is s) := by
  unfold scrambleLate
  split
  · exact scrambleWork_keepsStacks s
  · exact keepsStacks_refl s

theorem stickyLate_keepsStacks (is : List Instr) (s : State) : keepsStacks s (stickyLate is s) := by
  obtain ⟨_, _, _, _, _, e, -⟩ := stickyLate_cases is s
  rw [e]
  exact keepsStacks_refl s

theorem countDelay_keepsStacks (s : State) : keepsStacks s (countDelay s) := by
  obtain ⟨-, e⟩ | ⟨p, -, -, e⟩ | ⟨p, -, -, e⟩ := countDelay_cases s <;> rw [e]
  · exact keepsStacks_refl s
  · cases p.late <;> exact keepsStacks_refl s
  · exact keepsStacks_refl s

theorem countAtomic_keepsStacks (s : State) : keepsStacks s (countAtomic s) := by
  obtain ⟨k, e⟩ := countAtomic_eq s
  rw [e]
  exact keepsStacks_refl s

theorem failFormation_keepsStacks (f : Formed) (s : State) : keepsStacks s (failFormation f s) := by
  cases f with
  | packet => exact keepsStacks_refl s
  | undecodable => exact raise_keepsStacks _ s
  | denied a => exact raise_keepsStacks _ (emit (.accessError a) s)

theorem checkMarker_keepsStacks (is : List Instr) (s : State) : keepsStacks s (checkMarker is s) := by
  unfold checkMarker
  split
  · exact keepsStacks_refl s
  · split
    · exact raise_keepsStacks _ s
    · exact keepsStacks_refl s

theorem linearCheck_keepsStacks (s : State) : keepsStacks s (linearCheck s) := by
  have hr : ∀ u : State, keepsStacks s u → keepsStacks s { raise .linearLinkCrossing u with pre := (raise .linearLinkCrossing u).cur } :=
    fun u hu => keepsStacks_trans hu (raise_keepsStacks .linearLinkCrossing u)
  unfold linearCheck
  split
  · exact keepsStacks_refl s
  · split
    · exact keepsStacks_refl s
    · refine hr _ ?_
      split
      · exact failFormation_keepsStacks _ s
      all_goals exact keepsStacks_refl s

/-- Each part of what a faulting packet leaves is that of before or after it (R500). -/
theorem withinLimits_blur (k : Nat) {c : Params} {p a : Arch} (hp : withinLimits c p) (ha : withinLimits c a) : withinLimits c (blur k p a) := by
  obtain ⟨hp1, hp2⟩ := hp
  obtain ⟨ha1, ha2⟩ := ha
  refine ⟨?_, ?_⟩
  · obtain e | e := pick_cases (k + 100) p.protStack a.protStack <;> simp only [blur, e]
    · exact hp1
    · exact ha1
  · obtain e | e := pick_cases (k + 101) p.rtStack a.rtStack <;> simp only [blur, e]
    · exact hp2
    · exact ha2

theorem stacksInOrder_commit {c : Params} (hp : withinLimits c s.pre) (h : stacksInOrder c s.cur) : stacksInOrder c (commit s).cur := by
  unfold commit
  split
  · exact h
  · rename_i d hd
    exact ⟨withinLimits_blur s.free hp h.1, fun n => by simp [blur, hd] at n⟩

theorem stacksInOrder_closePacket {c : Params} (h : closePacket s = .next t) (hp : withinLimits c s.pre) (hs : stacksInOrder c s.cur) :
    stacksInOrder c t.cur := by
  have hu : stacksInOrder c (commit (countAtomic (countDelay s))).cur := stacksInOrder_commit (by simpa using hp)
    (stacksInOrder_of_keepsStacks (keepsStacks_trans (countDelay_keepsStacks s) (countAtomic_keepsStacks _)) hs)
  obtain ⟨-, rfl⟩ | ⟨-, u, rfl, ⟨-, rfl⟩ | ⟨-, -, rfl⟩⟩ := closePacket_cases h
  · exact stacksInOrder_commit hp hs
  · exact hu
  · exact stacksInOrder_of_keepsStacks (linearCheck_keepsStacks _) hu

/-- The state before the packet `s` is at has its stacks in order, and the packet has not touched them. -/
def stacksBefore (s : State) : Prop := withinLimits s.cfg s.pre ∧ lastLevelIsNmi s.cfg s.pre ∧ stacksOfPacket s

theorem stacksBefore_of_keepsStacks (h : keepsStacks s t) (hc : keepsContext s t) (hs : stacksBefore s) : stacksBefore t := by
  obtain ⟨hpre, hcfg, -⟩ := hc
  obtain ⟨h1, h2, h3⟩ := hs
  exact ⟨by rwa [hpre, hcfg], by rwa [hpre, hcfg], stacksOfPacket_of_keepsStacks h hpre hcfg h3⟩

theorem stacksInOrder_of_stacksBefore (hs : stacksBefore s) : stacksInOrder s.cfg s.cur := by
  obtain ⟨h1, h2, h3⟩ := hs
  obtain ⟨g1, g2⟩ := limits_of_stacksOfPacket h3 h1 h2
  exact ⟨g1, fun _ => g2⟩

theorem stacksInOrder_commit_of_stacksBefore (hs : stacksBefore s) : stacksInOrder s.cfg (commit s).cur :=
  stacksInOrder_commit hs.1 (stacksInOrder_of_stacksBefore hs)

theorem stacksInOrder_runFormed (h : runFormed is fin s = .next t) (hs : stacksBefore s) : stacksInOrder s.cfg t.cur := by
  have hm := stacksBefore_of_keepsStacks (checkMarker_keepsStacks is s) (checkMarker_keepsContext is s) hs
  have hcfg : (checkMarker is s).cfg = s.cfg := checkMarker_cfg is s
  simp only [runFormed] at h
  split at h
  · obtain ⟨-, rfl⟩ := unlessFaulted_next h (by simp)
    exact hcfg ▸ stacksInOrder_commit_of_stacksBefore hm
  · obtain ⟨u, hu, ht⟩ := andThen_eq_next h
    obtain ⟨h1, h2, h3⟩ := hm
    obtain ⟨hpre, hc, -⟩ := execAll_keepsContext hu
    have hx := stacksOfPacket_execAll (s := openPacket fin (checkMarker is s)) hu h1.1 h3
    have hb : stacksBefore u := ⟨by rw [hpre, hc]; exact h1, by rw [hpre, hc]; exact h2, hx⟩
    have ho : stacksInOrder u.cfg (stickyLate is (scrambleLate is u)).cur := stacksInOrder_of_keepsStacks
      (keepsStacks_trans (scrambleLate_keepsStacks is u) (stickyLate_keepsStacks is _)) (stacksInOrder_of_stacksBefore hb)
    have hcu : u.cfg = s.cfg := hc.trans hcfg
    exact hcu ▸ stacksInOrder_closePacket ht (by simpa using hb.1) ho

/-- The packet at the program counter begins with the stacks as they were. -/
theorem stacksBefore_beforePacket (ecc : Bool) (h : stacksInOrder s.cfg s.cur) (hf : s.cur.fault = none) : stacksBefore (beforePacket ecc s) :=
  stacksBefore_of_keepsStacks (raiseIf_keepsStacks ecc _ (openStep s)) (raiseIf_keepsContext ecc _ (openStep s))
    ⟨h.1, h.2 hf, stacksOfPacket_of_cur_eq_pre (s := openStep s) h.1.1 rfl⟩

theorem stacksInOrder_runPacket {ecc : Bool} (h : runPacket ecc s = .next t) (hs : stacksInOrder s.cfg s.cur) (hf : s.cur.fault = none) :
    stacksInOrder s.cfg t.cur := by
  have hb := stacksBefore_beforePacket ecc hs hf
  have hcfg : (beforePacket ecc s).cfg = s.cfg := beforePacket_cfg ecc s
  simp only [runPacket] at h
  change (if s.cur.pc.toNat % 2 = 1 then unlessFaulted (beforePacket ecc s) _ else _) = _ at h
  split at h
  · obtain ⟨-, rfl⟩ := unlessFaulted_next h (by simp)
    exact hcfg ▸ stacksInOrder_commit_of_stacksBefore hb
  · split at h
    · exact hcfg ▸ stacksInOrder_runFormed h hb
    · rename_i f hn _
      cases h
      obtain ⟨-, hctx, -⟩ := failFormation_faults (f := f) hn (checkMarker [] (beforePacket ecc s))
      have hu : stacksBefore (failFormation f (checkMarker [] (beforePacket ecc s))) := stacksBefore_of_keepsStacks
        (keepsStacks_trans (checkMarker_keepsStacks [] _) (failFormation_keepsStacks f _))
        (keepsContext_trans (checkMarker_keepsContext [] _) hctx) hb
      have hc : (failFormation f (checkMarker [] (beforePacket ecc s))).cfg = s.cfg := by simp
      exact hc ▸ stacksInOrder_commit_of_stacksBefore hu
    all_goals
      obtain ⟨-, rfl⟩ := unlessFaulted_next h (by simp)
      exact hcfg ▸ stacksInOrder_commit_of_stacksBefore hb

/-! ### Entries -/

/-- In an NMI handler no interrupt enters (R530, R540, R555). -/
theorem choose_of_nmi {c : Arch} (h : c.dsts.ints = .nmi) : choose c = .packet := by
  have hr : rtintAllowed c = false := by simp [rtintAllowed, h]
  have hi : chooseInt c = .packet := by
    unfold chooseInt
    split
    · simp [intAllowed, h]
    · rfl
  have hn : ¬ (c.nmiPending && c.dsts.ints != .nmi) = true := by simp [h]
  simp only [choose, if_neg hn, hr, hi]
  split
  · rfl
  · split <;> rfl

theorem ints_of_choose {c : Arch} (h : choose c ≠ .packet) : c.dsts.ints ≠ .nmi := fun n => h (choose_of_nmi n)

/-- A real-time entry pushes one frame, that of the level it interrupts, and sets INTS (R541). -/
theorem enterRealtime_stacks {nmi : Bool} {vector : Word} {prio : BitVec 8} (h : enterRealtime nmi vector prio s = .next t) :
    t.cur.rtStack = frameOf s.cur :: s.cur.rtStack ∧ t.cur.protStack = s.cur.protStack ∧ t.cur.fault = s.cur.fault
      ∧ t.cur.dsts.ints = if nmi then .nmi else .rtint := by
  unfold enterRealtime at h
  split at h <;> cases h
  cases nmi <;> exact ⟨rfl, rfl, rfl, rfl⟩

theorem withinLimits_enterRealtime {c : Params} {nmi : Bool} {vector : Word} {prio : BitVec 8}
    (h : enterRealtime nmi vector prio s = .next t) (hs : withinLimits c s.cur) (hl : lastLevelIsNmi c s.cur) (hn : s.cur.dsts.ints ≠ .nmi) :
    withinLimits c t.cur := by
  obtain ⟨hr, hp, -⟩ := enterRealtime_stacks h
  have hle := rtStack_length_le hs hl hn
  obtain ⟨h1, -, h3⟩ := hs
  rw [withinLimits, hr, hp]
  refine ⟨h1, by simpa using hle, fun f hf => ?_⟩
  obtain rfl | hf := List.mem_cons.1 hf
  · exact hn
  · exact h3 f hf

theorem rtispWarn_keepsStacks (s : State) : keepsStacks s (rtispWarn s) := by
  unfold rtispWarn
  split <;> exact keepsStacks_refl s

theorem rtintLimits_keepsStacks (s : State) : keepsStacks s (rtintLimits s) := by
  unfold rtintLimits
  split
  · exact keepsStacks_refl s
  · split
    · exact keepsStacks_refl s
    · exact raise_keepsStacks _ s

/-- An RTINT that goes past MAXRTISP faults (log entry 50). -/
theorem rtintLimits_past (h : (rtintLimits s).cur.fault = none) : s.cur.rtStack.length ≤ s.cfg.maxRtisp := by
  unfold rtintLimits at h
  split_ifs at h with h1 h2
  · omega
  · omega
  · simp [raise_cur_fault] at h

/-- An INT entry leaves both hardware stacks (R532). -/
theorem enterInt_stacks {q : IntRequest} (h : enterInt q s = .next t) :
    t.cur.protStack = s.cur.protStack ∧ t.cur.rtStack = s.cur.rtStack ∧ (s.cur.fault ≠ none → t.cur.fault = s.cur.fault) := by
  simp only [enterInt] at h
  split at h
  · cases h
  · obtain ⟨u, hu, ht⟩ := andThen_eq_next h
    cases ht
    obtain ⟨hp, hr, -, hf⟩ := keepsStacks_trans (raiseIf_keepsStacks _ .intWrongStack s)
      (keepsStacks_trans (checkSp_keepsStacks _) (pushFrame_keepsStacks hu))
    exact ⟨hp, hr, hf⟩

theorem stacksInOrder_boundary {ecc : Bool} (h : boundary ecc s = .next t) (hs : stacksInOrder s.cfg s.cur) (hf : s.cur.fault = none) :
    stacksInOrder s.cfg t.cur := by
  have hl := hs.2 hf
  have ho : withinLimits s.cfg (openStep s).cur := hs.1
  have hn (hc : choose s.cur ≠ .packet) : (openStep s).cur.dsts.ints ≠ .nmi := ints_of_choose hc
  have hrun : ∀ e, runOrIdle e s = .next t → stacksInOrder s.cfg t.cur := fun e h => by
    simp only [runOrIdle] at h
    split_ifs at h
    · cases h; exact hs
    · exact stacksInOrder_runPacket h hs hf
  simp only [boundary] at h
  split at h
  · exact hrun _ h
  · split at h
    all_goals rename_i hc
    · obtain ⟨u, hu, ht⟩ := andThen_eq_next h
      cases ht
      have hu' := withinLimits_enterRealtime hu ho hl (hn (by simp [hc]))
      obtain ⟨-, -, -, hi⟩ := enterRealtime_stacks hu
      obtain ⟨-, -, -, -, hpre, -⟩ := enterRealtime_flow hu
      refine stacksInOrder_commit (by rw [rtispWarn_pre, hpre]; exact hs.1)
        (stacksInOrder_of_keepsStacks (rtispWarn_keepsStacks u) ⟨hu', fun _ _ => hi⟩)
    · obtain ⟨u, hu, ht⟩ := andThen_eq_next h
      cases ht
      have hk := keepsStacks_trans (rtispWarn_keepsStacks u) (rtintLimits_keepsStacks (rtispWarn u))
      have hu' := withinLimits_enterRealtime hu ho hl (hn (by simp [hc]))
      obtain ⟨-, -, -, -, hpre, hcfg, -⟩ := enterRealtime_flow hu
      refine stacksInOrder_commit (by rw [rtintLimits_pre, rtispWarn_pre, hpre]; exact hs.1)
        ⟨withinLimits_of_keepsStacks hk hu', fun hf e => ?_⟩
      have hle := rtintLimits_past hf
      obtain ⟨-, hr, -⟩ := rtintLimits_keepsStacks (rtispWarn u)
      rw [rtispWarn_cfg, hcfg, ← hr, e] at hle
      exact absurd hle (by simp)
    · obtain ⟨u, hu, ht⟩ := andThen_eq_next h
      cases ht
      obtain ⟨hp, hr, -⟩ := enterInt_stacks hu
      obtain ⟨-, -, -, -, hpre, -⟩ := enterInt_flow hu
      have hle := rtStack_length_le hs.1 hl (hn (by simp [hc]))
      refine stacksInOrder_commit (hpre ▸ ho) ⟨by rwa [withinLimits, hp, hr], fun _ e => ?_⟩
      rw [hr] at e
      exact absurd (e.symm.le.trans hle) (by simp)
    · exact hrun _ h

/-! ### The step -/

theorem stacksInOrder_takeReset (s : State) : stacksInOrder s.cfg (takeReset s).cur := by
  obtain e | ⟨t, -, e, -⟩ := takeReset_cases s <;> rw [e] <;>
    exact ⟨⟨Nat.zero_le _, Nat.zero_le _, fun f hf => by cases hf⟩, fun _ h => by simp [Arch.reset] at h⟩

theorem afterStep_keepsStacks (s : State) : keepsStacks s (afterStep s) := by
  obtain e | ⟨-, e⟩ := afterStep_cases s <;> rw [e] <;> exact keepsStacks_refl s

theorem busWrite_keepsStacks (a : Word) (v : Byte) (s : State) : keepsStacks s (busWrite a v s) := by
  unfold busWrite
  split <;> exact keepsStacks_refl s

/-- The debugger does not reach INTS either (R582). -/
theorem dbgWriteReg_keepsStacks (r : DebugReg) (v : Word) (s : State) : keepsStacks s (dbgWriteReg r v s) := by
  cases r with
  | reg x => exact writeReg_keepsStacks x v s
  | pc => unfold dbgWriteReg; simp only; split <;> exact keepsStacks_refl s
  | rpc => exact keepsStacks_refl s
  | status q => exact writeStatus_keepsStacks q v s

theorem dbgAccess_keepsStacks (a : Option Word) (f : State → State) (s : State) (hf : keepsStacks s (f s)) :
    keepsStacks s (dbgAccess a f s) := by
  obtain e | e | ⟨-, -, -, e⟩ := dbgAccess_cases a f s <;> rw [e]
  · exact keepsStacks_refl s
  · exact keepsStacks_refl s
  · exact hf

theorem applyEvent_keepsStacks (e : Event) (s : State) : keepsStacks s (applyEvent e s) := by
  cases e with
  | busWrite a v => exact busWrite_keepsStacks a v s
  | dbgHalt => obtain e | ⟨-, e⟩ := requestHalt_cases s <;> simp only [applyEvent, e] <;> exact keepsStacks_refl s
  | dbgRun | dbgFreeRun | dbgStep | dbgSyncRun | dbgSync =>
    simp only [applyEvent, dbgCommand]
    split_ifs <;> exact keepsStacks_refl s
  | dbgWrite r v => exact dbgAccess_keepsStacks _ _ _ (dbgWriteReg_keepsStacks r v s)
  | dbgWriteMem a v => exact dbgAccess_keepsStacks _ _ _ (busWrite_keepsStacks a v s)
  | _ => exact keepsStacks_refl s

theorem stacksInOrder_deliver (h : stacksInOrder s.cfg s.cur) : stacksInOrder (deliver s).cfg (deliver s).cur :=
  deliver_induction (I := fun s => stacksInOrder s.cfg s.cur) (fun _ => Iff.rfl)
    (fun e s _ hs => by rw [applyEvent_cfg]; exact stacksInOrder_of_keepsStacks (applyEvent_keepsStacks e s) hs) h

/-- A step that answers, down to the boundary (R13). -/
theorem step_boundary (h : step s = .next t) :
    t = takeReset (deliver s) ∨ t.cur = (deliver s).cur ∨ t = enterHalt (deliver s)
      ∨ ∃ ecc u, (deliver s).cur.fault = none ∧ boundary ecc (deliver s) = .next u ∧ t = afterStep u := by
  simp only [step, stepAfter] at h
  split_ifs at h with hw hr hf
  · cases h; exact .inl rfl
  · cases h; exact .inr (.inl rfl)
  · simp only [runStep] at h
    split at h
    · cases h; exact .inr (.inl rfl)
    · cases h; exact .inr (.inl rfl)
    · split_ifs at h
      · cases h; exact .inr (.inr (.inl rfl))
      · obtain ⟨u, hu, ht⟩ := andThen_eq_next h
        cases ht
        exact .inr (.inr (.inr ⟨_, u, by simpa using hf, hu, rfl⟩))

/-- Settles O7: instructions push below the limit or pop, an entry pushes where the last level is free, and a fault keeps what was in order. -/
theorem stepKeepsHardwareStacksWithinLimits : Obligations.StepKeepsHardwareStacksWithinLimits := by
  unfold Obligations.StepKeepsHardwareStacksWithinLimits
  rintro s t ⟨h1, h2, h3, h4⟩ h
  obtain ⟨-, -, hcfg⟩ := stepEndsBetweenPackets s t h
  have hd : stacksInOrder s.cfg (deliver s).cur := deliver_cfg s ▸ stacksInOrder_deliver ⟨⟨h1, h2, h3⟩, h4⟩
  have ht : stacksInOrder s.cfg t.cur := by
    obtain rfl | e | rfl | ⟨ecc, u, hf, hu, rfl⟩ := step_boundary h
    · exact deliver_cfg s ▸ stacksInOrder_takeReset (deliver s)
    · exact e ▸ hd
    · exact hd
    · have hb : stacksInOrder s.cfg u.cur := deliver_cfg s ▸ stacksInOrder_boundary hu (by rwa [deliver_cfg]) hf
      exact stacksInOrder_of_keepsStacks (afterStep_keepsStacks u) hb
  obtain ⟨⟨g1, g2, g3⟩, g4⟩ := hcfg ▸ ht
  exact ⟨g1, g2, g3, g4⟩

end Sys2Proof.Proofs
end

section
/-! PROOFS. Calls, returns and branches that are in order: O35, O39; and the instructions that do nothing or have no meaning: O43, O50. -/

namespace Sys2Proof.Proofs

open Sys2Proof.Machine Sys2Proof.Laws

variable {s t u : State}

/-! ### Transfers that are in order -/

/-- A transfer to an even target goes there, at once or after its slots, and changes nothing but the flow. -/
theorem jumpTo_of_even {target : Word} (he : target.toNat % 2 = 0) (delay : Fin 8) (late : Late) (s : State) :
    ∃ t, jumpTo delay late target s = .next t ∧ FlowsTo target delay late s t ∧ onlyFlow s t ∧ keepsStatus s t
      ∧ t.outputs = s.outputs := by
  have ho : ¬ target.toNat % 2 = 1 := by omega
  have keep (pc : Word) (p : Option Pending) (k : PacketCtx) :
      onlyFlow s { s with cur := { s.cur with pc := pc, pending := p }, pkt := k } :=
    ⟨fun r _ => by cases r <;> rfl, keepsMemory_of_eq rfl rfl, rfl, rfl, by simp [keepsSystem]⟩
  unfold jumpTo
  rw [if_neg ho]
  split
  · rename_i hd
    exact ⟨_, rfl, ⟨rfl, rfl, rfl, fun _ => ⟨rfl, rfl, rfl⟩, fun n => absurd hd n⟩, keep _ _ _, ⟨rfl, rfl⟩, rfl⟩
  · rename_i hd
    exact ⟨_, rfl, ⟨rfl, rfl, rfl, fun n => absurd n hd, fun _ => ⟨rfl, rfl, rfl⟩⟩, keep _ _ _, ⟨rfl, rfl⟩, rfl⟩

/-- A branch to a legal target goes there. -/
theorem branchTo_of_ok {target : Word} (h : transferOk target s) (delay : Fin 8) :
    ∃ t, branchTo target delay s = .next t ∧ FlowsTo target delay .nothing s t ∧ onlyFlow s t ∧ keepsStatus s t := by
  obtain ⟨he, hk⟩ := h
  rw [branchTo, checkTransfer_of_ok target s hk]
  obtain ⟨t, ht, hf, ho, hs, -⟩ := jumpTo_of_even he delay .nothing s
  exact ⟨t, ht, hf, ho, hs⟩

/-- The low word of the four bytes read is the old word. -/
theorem lowWord_readLE (a : Word) (s : State) : lowWord (BitVec.ofNat 64 (readLE s.pre.mem a.toNat 4)) = oldWord s a :=
  loadWhole_readLE a 0 s

/-- What leaves the flow alone may come before a transfer. -/
theorem flowsTo_of_keepsFlow {target : Word} {delay : Fin 8} {late : Late} (h : keepsFlow s u) (g : FlowsTo target delay late u t) :
    FlowsTo target delay late s t := by
  obtain ⟨hpc, hp, he, hi, hk⟩ := h
  rwa [FlowsTo, hpc, hp, he, hi, hk] at g

theorem keepsSystem_trans (h : keepsSystem s t) (g : keepsSystem t u) : keepsSystem s u := by
  simp only [keepsSystem] at *
  simp only [g, h, and_self]

theorem keepsStatus_trans (h : keepsStatus s t) (g : keepsStatus t u) : keepsStatus s u := ⟨g.1.trans h.1, g.2.trans h.2⟩

theorem newWord_of_keepsMemory (a : Word) (h : keepsMemory s t) : newWord t a = newWord s a := by
  simp only [newWord, newByte, h.1]

/-! ### Calls and returns -/

/-- What a CALL has written when it jumps: SP, and RPC unless it is delayed (R232, R233). -/
theorem keeps_writeRpc_writeSp (delay : Fin 8) (pc sp : Word) (s : State) :
    ∃ t, t = (if delay = 0 then writeRpc pc (writeSp sp s) else writeSp sp s) ∧ t.cur.a[15] = sp ∧ keepsRegs [.a 15] s t ∧ keepsMemory s t
      ∧ keepsStatus s t ∧ t.cur.ists = s.cur.ists ∧ keepsSystem s t ∧ keepsFlow s t ∧ (delay = 0 → t.cur.rpc = pc)
      ∧ (delay ≠ 0 → t.cur.rpc = s.cur.rpc) := by
  obtain ⟨hregs, hmem, hstat, hrpc, hists, hsys, hflow⟩ := onlyRegs_writeReg (.a 15) sp s
  have h15 : (writeSp sp s).cur.a[15] = sp := curReg_writeReg_same (.a 15) sp s
  refine ⟨_, rfl, ?_⟩
  split
  · rename_i hd
    exact ⟨h15, hregs, hmem, hstat, hists, hsys, hflow, fun _ => rfl, fun n => absurd hd n⟩
  · rename_i hd
    exact ⟨h15, hregs, hmem, hstat, hists, hsys, hflow, fun n => absurd n hd, fun _ => hrpc⟩

/-- A call whose frame and target are in order (R232). -/
theorem callTo_of_ok {target : Word} (delay : Fin 8) (ha : s.pre.a[15].toNat % 8 = 0) (hw : writeOk s.pre.a[15] 4 s)
    (ht : transferOk target s) : CallDone (callTo target delay s) target delay s := by
  obtain ⟨he, hk⟩ := ht
  obtain ⟨u, hu, hword, hbut, hmem, hfu⟩ := pushFrame_of_ok s.pre.a[15] s.pre.rpc s ha hw
  obtain ⟨uregs, ustat, urpc, uists, usys, uflow⟩ := keepsRest_of_memoryOnly hmem hfu
  obtain ⟨w, hw, h15, wregs, wmem, wstat, wists, wsys, wflow, wnow, wlate⟩ :=
    keeps_writeRpc_writeSp delay s.pkt.seqPc (s.pre.a[15] + 8) u
  obtain ⟨t, ht, tflow, ⟨tregs, tmem, trpc, tists, tsys⟩, tstat, -⟩ := jumpTo_of_even he delay .rpc w
  have hp : pushFrame (readSp s) 8 s.pre.rpc s = .next u := hu
  have hx : callTo target delay s = .next t := by
    rw [← ht, hw, callTo, checkSp_of_aligned s ha, checkTransfer_of_ok target s hk, hp]
    rfl
  have hm := keepsMemory_trans wmem tmem
  refine ⟨t, hx, (newWord_of_keepsMemory _ hm).trans hword, fun b hb => (hm.1 b).trans (hbut b hb), ?_,
    keepsRegs_trans uregs (keepsRegs_trans wregs tregs), keepsStatus_trans ustat (keepsStatus_trans wstat tstat),
    tists.trans (wists.trans uists), keepsSystem_trans usys (keepsSystem_trans wsys tsys), fun hd => trpc.trans (wnow hd),
    fun hd => trpc.trans ((wlate hd).trans urpc), flowsTo_of_keepsFlow uflow (flowsTo_of_keepsFlow wflow tflow)⟩
  exact (tregs (.a 15) List.not_mem_nil).trans h15

/-- A return whose slot and target are in order (R234). -/
theorem returnTo_of_ok (delay : Fin 8) (ha : s.pre.a[15].toNat % 8 = 0) (hr : readOk (s.pre.a[15] - 8) 4 s) (ht : transferOk s.pre.rpc s) :
    ∃ t, returnTo delay s = .next t ∧ t.cur.rpc = oldWord s (s.pre.a[15] - 8) ∧ t.cur.a[15] = s.pre.a[15] - 8
      ∧ keepsRegs [.a 15] s t ∧ keepsMemory s t ∧ keepsStatus s t ∧ t.cur.ists = s.cur.ists ∧ keepsSystem s t
      ∧ FlowsTo s.pre.rpc delay .nothing s t := by
  obtain ⟨he, hk⟩ := ht
  obtain ⟨wregs, wmem, wstat, wrpc, wists, wsys, wflow⟩ :=
    onlyRegs_writeReg (.a 15) (s.pre.a[15] - 8) (writeRpc (oldWord s (s.pre.a[15] - 8)) s)
  obtain ⟨t, ht, tflow, ⟨tregs, tmem, trpc, tists, tsys⟩, tstat, -⟩ :=
    jumpTo_of_even he delay .nothing (writeReg (.a 15) (s.pre.a[15] - 8) (writeRpc (oldWord s (s.pre.a[15] - 8)) s))
  have hm := memRead_of_readOk (readSp s - 8) 4 s hr
  have hx : returnTo delay s = .next t := by
    rw [← ht, returnTo, checkSp_of_aligned s ha, checkTransfer_of_ok _ s hk, hm, andThen_next, lowWord_readLE]
    rfl
  have hrpc : keepsRegs [] s (writeRpc (oldWord s (s.pre.a[15] - 8)) s) := fun r _ => by cases r <;> rfl
  exact ⟨t, hx, trpc.trans wrpc, (tregs (.a 15) List.not_mem_nil).trans (curReg_writeReg_same (.a 15) _ _),
    keepsRegs_trans hrpc (keepsRegs_trans wregs tregs), keepsMemory_trans wmem tmem, keepsStatus_trans wstat tstat, tists.trans wists,
    keepsSystem_trans wsys tsys, flowsTo_of_keepsFlow wflow tflow⟩

/-- Settles O35: each call and return with its frame and target in order. -/
theorem callsAndReturns : Obligations.CallsAndReturns := by
  unfold Obligations.CallsAndReturns
  refine ⟨fun s target x delay _ ha hw ht => ⟨callTo_of_ok delay ha hw ht, fun hx => ?_⟩, fun s delay _ ha hr ht => returnTo_of_ok delay ha hr ht⟩
  rw [exec_callReg delay hx]
  exact callTo_of_ok delay ha hw ht

/-! ### Branches -/

theorem exec_branch_of_not {tgt : BrTarget} {k : Cond} (delay : Fin 8) (h : condHolds k s.pre.dsts s.pre.ests = false) :
    exec (.branch tgt k delay) s = .next s := if_neg (by simp [h])

theorem exec_bcmpz_of_not {x : Fin 16} {d : DCond} (target : Word) (delay : Fin 8) (h : bcmpzHolds d s.pre.d[x] s.pre.ests = false) :
    exec (.bcmpz target d x delay) s = .next (bcmpzFlags (readD x s) s) := if_neg fun n => Bool.false_ne_true (h.symm.trans n)

theorem onlyFlow_refl (s : State) : onlyFlow s s := ⟨fun _ _ => rfl, ⟨fun _ => rfl, rfl⟩, rfl, rfl, by simp [keepsSystem]⟩

theorem onlyFlow_trans (h : onlyFlow s t) (g : onlyFlow t u) : onlyFlow s u := by
  obtain ⟨h1, h2, h3, h4, h5⟩ := h
  obtain ⟨g1, g2, g3, g4, g5⟩ := g
  exact ⟨keepsRegs_trans h1 g1, keepsMemory_trans h2 g2, g3.trans h3, g4.trans h4, keepsSystem_trans h5 g5⟩

/-- BCMPZ writes the flags of the D bank at most (R239). -/
theorem bcmpzFlags_keeps (v : Word) (s : State) :
    onlyFlow s (bcmpzFlags v s) ∧ keepsFlow s (bcmpzFlags v s)
      ∧ ∃ f, (bcmpzFlags v s).cur.dsts = s.cur.dsts ∧ (bcmpzFlags v s).cur.ests = { s.cur.ests with flags := f } :=
  ⟨⟨fun r _ => by cases r <;> rfl, ⟨fun _ => rfl, rfl⟩, rfl, rfl, by simp [keepsSystem, bcmpzFlags]⟩, ⟨rfl, rfl, rfl, rfl, rfl⟩,
    _, rfl, rfl⟩

theorem exec_branch_done {tgt : BrTarget} {k : Cond} (delay : Fin 8)
    (h : condHolds k s.pre.dsts s.pre.ests = true → transferOk (brTarget tgt s) s) :
    ∃ t, exec (.branch tgt k delay) s = .next t ∧ onlyFlow s t ∧ keepsStatus s t
      ∧ (condHolds k s.pre.dsts s.pre.ests = true → FlowsTo (brTarget tgt s) delay .nothing s t)
      ∧ (condHolds k s.pre.dsts s.pre.ests = false → t = s) := by
  cases hc : condHolds k s.pre.dsts s.pre.ests with
  | true =>
    obtain ⟨t, ht, hf, ho, hs⟩ := branchTo_of_ok (h hc) delay
    exact ⟨t, (exec_branch_of_holds delay hc).trans ht, ho, hs, fun _ => hf, fun n => by cases n⟩
  | false => exact ⟨s, exec_branch_of_not delay hc, onlyFlow_refl s, ⟨rfl, rfl⟩, fun n => (by cases n), fun _ => rfl⟩

theorem exec_bcmpz_done {label : Word} {d : DCond} {x : Fin 16} (delay : Fin 8)
    (h : bcmpzHolds d s.pre.d[x] s.pre.ests = true → transferOk label s) :
    ∃ t f, exec (.bcmpz label d x delay) s = .next t ∧ onlyFlow s t ∧ t.cur.dsts = s.cur.dsts ∧ t.cur.ests = { s.cur.ests with flags := f }
      ∧ (bcmpzHolds d s.pre.d[x] s.pre.ests = true → FlowsTo label delay .nothing s t)
      ∧ (bcmpzHolds d s.pre.d[x] s.pre.ests = false → keepsFlow s t) := by
  obtain ⟨uo, uf, f, ud, ue⟩ := bcmpzFlags_keeps (readD x s) s
  cases hc : bcmpzHolds d s.pre.d[x] s.pre.ests with
  | true =>
    obtain ⟨t, ht, hf, ho, hs⟩ := branchTo_of_ok (s := bcmpzFlags (readD x s) s) (h hc) delay
    exact ⟨t, f, (exec_bcmpz_of_holds label delay hc).trans ht, onlyFlow_trans uo ho, hs.1.trans ud, hs.2.trans ue,
      fun _ => flowsTo_of_keepsFlow uf hf, fun n => by cases n⟩
  | false => exact ⟨_, f, exec_bcmpz_of_not label delay hc, uo, ud, ue, fun n => (by cases n), fun _ => uf⟩

/-- Two relations with one base, of which one is the complement, are complements (R62, R72). -/
theorem cond_complement {p q : RelCond} (hb : (relBase p).1 = (relBase q).1) (hc : (relBase p).2 = !(relBase q).2) (f : Flags) (ov neg : Bool) :
    condA p f = !condA q f ∧ condD (.rel p) f ov neg = !condD (.rel q) f ov neg := by
  simp [condA, condD, hb, hc]

/-- Settles O39: a branch is its transfer where its condition holds, else nothing. -/
theorem branchesGoOrFallThrough : Obligations.BranchesGoOrFallThrough := by
  unfold Obligations.BranchesGoOrFallThrough
  refine ⟨fun s target label c d x delay => ⟨exec_branch_done delay, exec_bcmpz_done delay, beq_iff_eq, bne_iff_ne⟩,
    fun f ov neg ds es => ⟨fun p hp => ?_, fun i => rfl⟩⟩
  simp only [List.mem_cons, List.not_mem_nil, or_false] at hp
  obtain rfl | rfl | rfl | rfl | rfl | rfl := hp <;> exact cond_complement (by rfl) (by rfl) f ov neg

/-! ### Instructions without effect or meaning -/

/-- EMUSTOP0 halts only where a debugger is connected, the CPU does not run free and has not faulted (R296, R585, R500). -/
theorem breakArmed_iff (s : State) : breakArmed s = true ↔ s.dbg.connected = true ∧ s.dbg.mode ≠ .freeRun ∧ s.cur.fault = none := by
  simp [breakArmed, and_assoc]

/-- Settles O43: the markers and NOP answer the state they are given, EMUSTOP0 as well where it does not halt. -/
theorem markersDoNothing : Obligations.MarkersDoNothing := by
  unfold Obligations.MarkersDoNothing
  refine fun s => ⟨rfl, rfl, rfl, rfl, rfl, fun h => if_neg ?_, fun hc hm hf => ?_⟩
  · rw [breakArmed_iff]
    rintro ⟨hc, hm, hf⟩
    simp [hc, hm, hf] at h
  · exact ⟨_, if_pos ((breakArmed_iff s).2 ⟨hc, hm, hf⟩), rfl, rfl, rfl⟩

/-- Settles O50: each of these instructions has a refusal for its meaning. -/
theorem namedOnlyInstructionsRefused : Obligations.NamedOnlyInstructionsRefused := by
  unfold Obligations.NamedOnlyInstructionsRefused
  intro s m g d a b off
  exact ⟨rfl, rfl, rfl, rfl, rfl, rfl, rfl, rfl, rfl, rfl, rfl, rfl, rfl, rfl, rfl, rfl, rfl, rfl, rfl, rfl, rfl, rfl, rfl, rfl, rfl, rfl,
    rfl, rfl, rfl, rfl, rfl, rfl, rfl, rfl⟩

end Sys2Proof.Proofs
end

section
/-! PROOFS. Protected calls, branches and returns that are in order: O40, O42. -/

namespace Sys2Proof.Proofs

open Sys2Proof.Machine Sys2Proof.Laws

variable {s t u : State}

/-! ### The stack swap and the jump -/

/-- A transfer at once. -/
theorem jumpTo_now {target : Word} (he : target.toNat % 2 = 0) (late : Late) (s : State) :
    jumpTo 0 late target s = .next { s with cur := { s.cur with pc := target }, pkt := { s.pkt with jumped := true } } := by
  have ho : ¬ target.toNat % 2 = 1 := by omega
  rw [jumpTo, if_neg ho, if_pos rfl]

/-- A swap writes A15 and the SECSP of the STACK being left, and nothing else (R246). -/
theorem swapStacks_eq (src dst : StackId) (pushed : Option Word) (s : State) :
    ∃ a secsp, swapStacks src dst pushed s = { s with cur := { s.cur with a := a, secsp := secsp } }
      ∧ (dst = src → a[15] = pushed.getD s.cur.a[15] ∧ secsp = s.cur.secsp)
      ∧ (dst ≠ src → a[15] = s.pre.secsp[dst] ∧ secsp = s.cur.secsp.set src (pushed.getD s.pre.a[15])) := by
  obtain ⟨hd, hp, e⟩ | ⟨sp, hd, hp, e⟩ | ⟨hd, e⟩ := swapStacks_cases src dst pushed s
  · exact ⟨_, _, e, fun _ => ⟨by rw [hp]; rfl, rfl⟩, fun n => absurd hd n⟩
  · exact ⟨_, _, e, fun _ => ⟨by rw [hp]; exact curReg_writeReg_same (.a 15) sp s, rfl⟩, fun n => absurd hd n⟩
  · exact ⟨_, _, e, fun n => absurd n hd, fun _ => ⟨curReg_writeReg_same (.a 15) _ s, rfl⟩⟩

/-- The other pointers stay where one is saved. -/
theorem secsp_set_other (v : Vector Word 16) (k : StackId) (x : Word) : ∀ i : Fin 16, i ≠ k → (v.set k x)[i] = v[i] := fun i hi => by
  have hn : k.val ≠ i.val := fun e => hi (Fin.ext e.symm)
  simp [Vector.getElem_set_ne, hn]

/-- A protected call or branch to an even target, with a frame pushed or not (R246, R249). -/
theorem enterProtected_of_even {target : Word} (he : target.toNat % 2 = 0) (pushed : Option Word) (s : State) :
    ∃ t, enterProtected target pushed s = .next t ∧ t.cur.mem = s.cur.mem ∧ t.cur.stored = s.cur.stored ∧ t.cur.rpc = s.cur.rpc
      ∧ t.cur.protStack = s.cur.protStack ∧ t.outputs = s.outputs
      ∧ SwapsTo (targetStack target s)
          (pushed.getD (if targetStack target s = stackOf s.cfg s.pre.ists.currlink then s.cur.a[15] else s.pre.a[15])) s t
      ∧ ProtFlow target (targetStack target s) s t := by
  obtain ⟨a, d, m, n, hw, h15⟩ := scrambleWork_eq s
  obtain ⟨a', secsp, hs, hsame, hother⟩ := swapStacks_eq (stackOf s.cfg s.pre.ists.currlink) (targetStack target s) pushed (scrambleWork s)
  rw [hw] at hs hsame hother
  have hx := jumpTo_now he .nothing { s with
    free := n
    cur := { s.cur with
      a := a'
      d := d
      m := m
      secsp := secsp
      dsts := { s.cur.dsts with clink := s.pre.ists.currlink }
      ists := { s.cur.ists with atomic := 0, currsp := targetStack target s }
      expect := .entryPair } }
  refine ⟨_, Eq.trans ?_ hx, rfl, rfl, rfl, rfl, rfl, ⟨fun hd => ?_, fun hd => ?_⟩, ⟨rfl, rfl, rfl, rfl, rfl, rfl, rfl, rfl, rfl, rfl, rfl⟩⟩
  · rw [enterProtected, hw, hs]
  · rw [if_pos hd, ← h15]
    exact hsame hd
  · obtain ⟨ha, hk⟩ := hother hd
    rw [if_neg hd]
    refine ⟨ha, ?_, fun i hi => ?_⟩
    · simp [hk]
    · rw [hk]
      exact secsp_set_other _ _ _ i hi

/-! ### Calls and branches -/

/-- Outside the FAULT state the free bytes of a frame report nothing. -/
theorem scribble_outputs {a : Word} {n : Nat} (h : scribble a n s = .next t) (hf : t.cur.fault = none) : t.outputs = s.outputs := by
  induction n generalizing a s with
  | zero => cases h; rfl
  | succ n ih =>
    simp only [scribble] at h
    split at h
    · cases h
      simp [raise_cur_fault] at hf
    · split at h
      · split at h <;> cases h
        rfl
      all_goals
        have hn := ih h
        exact hn

theorem pushFrame_outputs {sp v : Word} {n : Nat} (hw : writeOk sp 4 s) (h : pushFrame sp n v s = .next t) (hf : t.cur.fault = none) :
    t.outputs = s.outputs := by
  rw [pushFrame, memWrite_of_writeOk _ _ _ _ hw, andThen_next] at h
  split at h
  · have hs := scribble_outputs h hf
    exact hs
  · cases h; rfl

/-- A push where there is room, with its warning (R246, R517). -/
theorem pushProt_of_room (f : ProtFrame) (h : s.pre.protStack.length < s.cfg.maxPsp) :
    pushProt f s = { s with
      cur := { s.cur with protStack := f :: s.pre.protStack }
      outputs := if s.pre.warnPsp ≤ s.pre.protStack.length + 1 then .pspWarning :: s.outputs else s.outputs } := by
  simp only [pushProt, if_pos h]
  split <;> rfl

/-- A protected call with room on both stacks and an even target (R246). -/
theorem callProt_of_room {target : Word} (hf : s.cur.fault = none) (ha : s.pre.a[15].toNat % 8 = 0)
    (hm : s.pre.protStack.length < s.cfg.maxPsp) (hw : writeOk s.pre.a[15] 4 s) (he : target.toNat % 2 = 0) :
    ∃ t, callProt target s = .next t ∧ ProtCallDone (.next t) target (targetStack target s) s
      ∧ t.outputs = if s.pre.warnPsp ≤ s.pre.protStack.length + 1 then .pspWarning :: s.outputs else s.outputs := by
  obtain ⟨u, hu, hword, hbut, hmem, hfu⟩ := pushFrame_of_ok s.pre.a[15] s.pre.rpc s ha hw
  have hout := pushFrame_outputs hw hu (hfu.trans hf)
  have hn : raiseIf (decide (s.cfg.maxPsp ≤ s.pre.protStack.length)) .protectedCallStackFull s = s := by
    rw [decide_eq_false (by omega)]; rfl
  have hp : pushFrame (readSp s) 8 s.pre.rpc s = .next u := hu
  obtain ⟨⟨m, l, f, hcur⟩, -, hpre, hpkt, hcfg, hdbg, hin⟩ := hmem
  obtain rfl : f = s.cur.fault := by rw [← hfu, hcur]
  have hroom := pushProt_of_room (s := writeRpc s.pkt.seqPc u) ⟨s.pre.ists.currlink, stackOf s.cfg s.pre.ists.currlink, s.pkt.seqPc⟩
    (by rw [writeRpc_pre, writeRpc_cfg, hpre, hcfg]; exact hm)
  obtain ⟨t, ht, tmem, -, trpc, tprot, tout, tswap, tflow⟩ := enterProtected_of_even he (some (readSp s + 8))
    (pushProt ⟨s.pre.ists.currlink, stackOf s.cfg s.pre.ists.currlink, s.pkt.seqPc⟩ (writeRpc s.pkt.seqPc u))
  rw [hroom] at tmem trpc tprot tout tswap tflow
  simp only [SwapsTo, ProtFlow, targetStack, writeRpc, hcfg, hpre, hcur] at tmem trpc tprot tout tswap tflow
  have hword' : newWord t s.pre.a[15] = newWord u s.pre.a[15] := by simp only [newWord, newByte, tmem, hcur]
  refine ⟨t, ?_, ⟨t, rfl, hword'.trans hword, fun b hb => ?_, trpc, tprot, tswap, tflow⟩, ?_⟩
  · simp only [callProt, checkSp_of_aligned s ha, hn, hp, andThen_next, ht]
  · rw [← hbut b hb, tmem, hcur]
  · rw [tout, hout]

/-- Settles O40: the push where there is one, then the swap and the jump. -/
theorem protectedCallAndBranch : Obligations.ProtectedCallAndBranch := by
  unfold Obligations.ProtectedCallAndBranch
  have hst {s : State} {target : Word} {l : LinkId} (hl : linkOf s.cfg target = some l) : targetStack target s = stackOf s.cfg l :=
    stackAt_of_link _ _ _ _ hl
  refine ⟨fun s target x l hf ha hm hw he hl => ?_, fun s target l he hl => ?_⟩
  · obtain ⟨t, ht, hd, -⟩ := callProt_of_room hf ha hm hw he
    rw [hst hl, ← ht] at hd
    exact ⟨hd, fun hx => by rw [exec_callProtReg hx]; exact hd⟩
  · obtain ⟨t, ht, hmem, hsto, hrpc, hprot, -, hswap, hflow⟩ := enterProtected_of_even he none s
    rw [hst hl] at hswap hflow
    exact ⟨t, ht, keepsMemory_of_eq hmem hsto, hrpc, hprot, hswap, hflow⟩

/-! ### Returns -/

/-- The pointer that the caller's frame is at, as RET.PROT finds it (R250, decision D40). -/
def callerSp (f : ProtFrame) (s : State) : Word := if f.stack = stackOf s.cfg s.pre.ists.currlink then s.pre.a[15] else s.pre.secsp[f.stack]

/-- A protected return with its frame, its slot and an even target in order (R250). -/
theorem returnProt_of_ok {f : ProtFrame} {rest : List ProtFrame} (ha : s.pre.a[15].toNat % 8 = 0) (hs : s.pre.protStack = f :: rest)
    (hr : s.pre.rpc = f.ret) (hk : (linkOf s.cfg f.ret).map (stackOf s.cfg) = some f.stack) (he : f.ret.toNat % 2 = 0)
    (hro : readOk (callerSp f s - 8) 4 s) : ProtReturnDone (returnProt s) f rest (callerSp f s - 8) s := by
  have hb : (f.ret != f.ret || (linkOf s.cfg f.ret).map (stackOf s.cfg) != some f.stack) = false := by simp [hk]
  have hsp : (if f.stack = stackOf s.cfg s.pre.ists.currlink then readSp s else s.pre.secsp[f.stack]) = callerSp f s := rfl
  obtain ⟨a, d, m, n, hw, -⟩ := scrambleWork_eq s
  simp only [returnProt, hs, hr, hb, checkSp_of_aligned s ha, hsp, memRead_of_readOk _ 4 s hro, andThen_next, Bool.false_eq_true, if_false,
    lowWord_readLE, hw, jumpTo_now he]
  have h15 (w : State) : (writeSp (callerSp f s - 8) w).cur.a[15] = callerSp f s - 8 := curReg_writeReg_same (.a 15) _ w
  refine ⟨_, rfl, rfl, rfl, ?_⟩
  split
  · rename_i hd
    exact ⟨rfl, h15 _, ⟨fun _ => rfl, rfl⟩, rfl, rfl, rfl, fun _ => rfl, fun n => absurd hd n, rfl, rfl, rfl, rfl, rfl, rfl, rfl⟩
  · rename_i hd
    refine ⟨rfl, h15 _, ⟨fun _ => rfl, rfl⟩, rfl, rfl, rfl, fun n => absurd n hd, fun _ => ⟨?_, secsp_set_other _ _ _⟩, rfl, rfl, rfl, rfl, rfl,
      rfl, rfl⟩
    exact Vector.getElem_set_self _

/-- Settles O42: the frame is popped, the slot read and the stacks swapped back. -/
theorem protectedReturn : Obligations.ProtectedReturn := by
  unfold Obligations.ProtectedReturn
  exact fun s f rest _ ha hs hr hk he hro => returnProt_of_ok ha hs hr hk he hro

end Sys2Proof.Proofs
end

section
/-! PROOFS. The end of a packet: O57. -/

namespace Sys2Proof.Proofs

open Sys2Proof.Machine Sys2Proof.Laws

variable {s t : State}

/-! ### What the end of a packet counts -/

/-- The ATOMIC counter after a packet that has loaded it or not (R282). -/
def atomicAfter (s : State) : BitVec 8 :=
  if s.pkt.atomicLoaded then s.cur.ists.atomic else BitVec.ofNat 8 (s.cur.ists.atomic.toNat - 1)

theorem countAtomic_eq_atomicAfter (s : State) :
    countAtomic s = { s with cur := { s.cur with ists := { s.cur.ists with atomic := atomicAfter s } } } := by
  cases hl : s.pkt.atomicLoaded with
  | true => simp [countAtomic, atomicAfter, hl]
  | false =>
    by_cases h0 : s.cur.ists.atomic = 0
    · have ha : atomicAfter s = s.cur.ists.atomic := by simp [atomicAfter, hl, h0]
      rw [countAtomic, if_pos (.inr h0), ha]
    · have hpos : s.cur.ists.atomic.toNat ≠ 0 := fun e => h0 (BitVec.eq_of_toNat_eq e)
      have hlt := s.cur.ists.atomic.isLt
      have ha : s.cur.ists.atomic - 1 = atomicAfter s := by
        apply BitVec.eq_of_toNat_eq
        have h1 : (1 : BitVec 8).toNat = 1 := rfl
        simp only [atomicAfter, hl, Bool.false_eq_true, if_false, BitVec.toNat_sub, BitVec.toNat_ofNat, h1]
        omega
      rw [countAtomic, if_neg (not_or.2 ⟨by simp [hl], h0⟩), ha]

/-- A packet that counts to `t` without a fault, and has jumped or runs on in its LINK, ends with that (R13). -/
theorem closePacket_of_counted (hh : s.pkt.halted = false) (ht : countAtomic (countDelay s) = t) (hf : t.cur.fault = none)
    (he : t.pkt.jumped = true ∨ (t.pkt.wraps = false ∧ linkOf t.cfg t.cur.pc = some t.cur.ists.currlink)) :
    closePacket s = .next (settle t) := by
  have hc : commit t = settle t := commit_of_no_fault t hf
  have hx : closePacket s = if t.cur.fault.isSome || t.pkt.jumped then .next (commit t)
      else if t.pkt.wraps then .refused .pastTop else .next (linearCheck (commit t)) := by
    rw [closePacket, if_neg (by simp [hh]), ht]
  rw [hx, hc, hf]
  obtain hj | ⟨hw, hl⟩ := he
  · simp [hj]
  · cases hj : t.pkt.jumped
    · simp [hw, linearCheck_of_link (s := settle t) hl]
    · simp

/-- A packet that runs on is checked for the LINK of the code there (R240). -/
theorem closePacket_of_runs_on (hh : s.pkt.halted = false) (ht : countAtomic (countDelay s) = t) (hf : t.cur.fault = none)
    (hj : t.pkt.jumped = false) (hw : t.pkt.wraps = false) : closePacket s = .next (linearCheck (settle t)) := by
  have hc : commit t = settle t := commit_of_no_fault t hf
  rw [closePacket, if_neg (by simp [hh]), ht]
  simp [hf, hj, hw, hc]

/-! ### Running on into another LINK -/

/-- What the check of linear execution raises at a crossing: what forming a packet there raises, else the crossing itself (R514, R516). -/
theorem linearCheck_of_crossing {l : LinkId} {f : Formed} (hl : linkOf s.cfg s.cur.pc = some l) (hn : l ≠ s.cur.ists.currlink)
    (hf : formPacket 8 s.cur.pc.toNat 0 s = .next f) :
    (linearCheck s).cur = (raise .linearLinkCrossing (failFormation f s)).cur
      ∧ (linearCheck s).outputs = (raise .linearLinkCrossing (failFormation f s)).outputs := by
  simp [linearCheck, hl, hn, hf]

/-- What a packet built once its counters have run: `q` is the discontinuity still owed. -/
def counted (q : Option Pending) (s : State) : State :=
  { s with cur := { s.cur with pending := q, ists := { s.cur.ists with atomic := atomicAfter s } } }

/-- A packet outside its last delay slot runs on after what it built, but for the counters. -/
theorem counted_of_not_last (hp : s.pre.pending = none ∨ ∃ p, s.pre.pending = some p ∧ 1 < p.remaining) :
    ∃ q, countAtomic (countDelay s) = counted q s := by
  obtain ⟨-, e⟩ | ⟨p, hq, hle, -⟩ | ⟨p, -, -, e⟩ := countDelay_cases s
  · exact ⟨s.cur.pending, by rw [e, countAtomic_eq_atomicAfter, counted]⟩
  · obtain hp | ⟨p', hp, hlt⟩ := hp
    · cases hp.symm.trans hq
    · cases hp.symm.trans hq
      omega
  · exact ⟨_, (congrArg countAtomic e).trans (countAtomic_eq_atomicAfter _)⟩

/-- A packet that runs on into another LINK faults with the cause that forming a packet there has, else with the crossing. -/
theorem closePacket_of_crossing {l : LinkId} {f : Formed} (hh : s.pkt.halted = false) (hf : s.cur.fault = none) (hw : s.pkt.wraps = false)
    (hp : s.pre.pending = none ∨ ∃ p, s.pre.pending = some p ∧ 1 < p.remaining) (hj : s.pkt.jumped = false)
    (hl : linkOf s.cfg s.cur.pc = some l) (hn : l ≠ s.cur.ists.currlink) (hform : formPacket 8 s.cur.pc.toNat 0 s = .next f) :
    ∃ t u, closePacket s = .next t ∧ u.cur.fault = none ∧ t.cur = (raise .linearLinkCrossing (failFormation f u)).cur
      ∧ t.outputs = (raise .linearLinkCrossing (failFormation f u)).outputs := by
  obtain ⟨q, hq⟩ := counted_of_not_last hp
  have hform' : formPacket 8 (settle (counted q s)).cur.pc.toNat 0 (settle (counted q s)) = .next f :=
    (formPacket_congr 8 s.cur.pc.toNat 0 s (settle (counted q s)) rfl rfl rfl).trans hform
  obtain ⟨hc, ho⟩ := linearCheck_of_crossing (s := settle (counted q s)) hl hn hform'
  exact ⟨_, settle (counted q s), closePacket_of_runs_on hh hq hf hj hw, hf, hc, ho⟩

/-- Settles O57: the counters, then the jump or the check of linear execution. -/
theorem packetEnd : Obligations.PacketEnd := by
  unfold Obligations.PacketEnd
  intro s hh hf hw
  refine ⟨fun hp he => ?_, fun p hp hle => ?_, fun p hp hlt hl => ?_, fun l hp hj hl hn => ⟨fun is fin hform => ?_, fun hform => ?_, fun a hform => ?_⟩⟩
  · have hd : countDelay s = s := by simp [countDelay, hp]
    exact ⟨_, closePacket_of_counted hh ((congrArg countAtomic hd).trans (countAtomic_eq_atomicAfter _)) hf (he.imp_right fun hl => ⟨hw, hl⟩), rfl⟩
  · have hd : countDelay s = writeLate p.late { s with cur := { s.cur with pc := p.target, pending := none }, pkt := { s.pkt with jumped := true } } := by
      simp [countDelay, hp, hle]
    cases hlate : p.late
    all_goals
      rw [hlate] at hd
      exact ⟨_, closePacket_of_counted hh ((congrArg countAtomic hd).trans (countAtomic_eq_atomicAfter _)) hf (.inl rfl), rfl⟩
  · have hd : countDelay s = { s with cur := { s.cur with pending := some { p with remaining := p.remaining - 1 } } } := by
      simp [countDelay, hp, show ¬ p.remaining ≤ 1 by omega]
    exact ⟨_, closePacket_of_counted hh ((congrArg countAtomic hd).trans (countAtomic_eq_atomicAfter _)) hf (.inr ⟨hw, hl⟩), rfl⟩
  · obtain ⟨t, u, ht, hu, hc, -⟩ := closePacket_of_crossing hh hf hw hp hj hl hn hform
    exact ⟨t, ht, by simp [hc, failFormation, raise_cur_fault, hu]⟩
  · obtain ⟨t, u, ht, hu, hc, -⟩ := closePacket_of_crossing hh hf hw hp hj hl hn hform
    exact ⟨t, ht, by simp [hc, failFormation, raise_cur_fault, hu]⟩
  · obtain ⟨t, u, ht, hu, hc, ho⟩ := closePacket_of_crossing hh hf hw hp hj hl hn hform
    refine ⟨t, ht, by simp [hc, failFormation, raise_cur_fault, hu], ?_⟩
    rw [ho]
    exact mem_outputs_raise _ (mem_outputs_raise _ (List.mem_cons_self ..))

end Sys2Proof.Proofs
end

section
/-! PROOFS. A packet that lacks its markers: O58. The check raises its cause before the instructions run, and nothing of a packet replaces a
cause already raised (R502). -/

namespace Sys2Proof.Proofs

open Sys2Proof.Machine Sys2Proof.Laws

variable {s t : State} {is : List Instr} {fin : Nat} {c : Cause}

/-! ### The first cause of a packet stays -/

theorem fault_of_keepsStacks (h : keepsStacks s t) (hf : s.cur.fault = some c) : t.cur.fault = some c := by
  obtain ⟨-, -, -, hk⟩ := h
  exact (hk (by simp [hf])).trans hf

theorem exec_keeps_fault {i : Instr} (h : exec i s = .next t) (hf : s.cur.fault = some c) : t.cur.fault = some c := by
  obtain ⟨-, -, hk⟩ | ⟨hb, -⟩ := exec_stacks h
  · exact (hk (by simp [hf])).trans hf
  · obtain ⟨-, -, hn⟩ := (breakArmed_iff s).1 hb
    cases hn.symm.trans hf

theorem execAll_keeps_fault (h : execAll is s = .next t) (hf : s.cur.fault = some c) : t.cur.fault = some c := by
  induction is generalizing s with
  | nil => cases h; exact hf
  | cons i is ih =>
    rw [execAll] at h
    split at h
    · cases h; exact hf
    · obtain ⟨u, hu, ht⟩ := andThen_eq_next h
      exact ih ht (exec_keeps_fault hu hf)

/-- The end of a packet that has faulted: it answers, and the cause stays. -/
theorem closePacket_of_fault (hf : s.cur.fault = some c) : RaisesIn (closePacket s) c := by
  have hu : (countAtomic (countDelay s)).cur.fault = some c :=
    fault_of_keepsStacks (keepsStacks_trans (countDelay_keepsStacks s) (countAtomic_keepsStacks _)) hf
  rw [closePacket]
  split
  · exact ⟨_, rfl, by simpa using hf⟩
  · rw [if_pos (by simp [hu])]
    exact ⟨_, rfl, by simpa using hu⟩

/-! ### The check -/

theorem checkMarker_raises (hd : s.dbg = Debug.off) (hf : s.cur.fault = none) (hm : missingMarker s.cur.expect is = some c) :
    (checkMarker is s).cur.fault = some c := by
  simp [checkMarker, breakArmed, hd, Debug.off, hm, raise_cur_fault, hf]

/-- A packet whose markers are missing answers only with that cause. -/
theorem runFormed_of_missing (hd : s.dbg = Debug.off) (hf : s.cur.fault = none) (hm : missingMarker s.cur.expect is = some c)
    (h : runFormed is fin s = .next t) : t.cur.fault = some c := by
  have hc := checkMarker_raises hd hf hm
  simp only [runFormed] at h
  split at h
  · obtain ⟨-, rfl⟩ := unlessFaulted_next h (by simp)
    simpa using hc
  · obtain ⟨u, hu, ht⟩ := andThen_eq_next h
    have huf : u.cur.fault = some c := execAll_keeps_fault (s := openPacket fin (checkMarker is s)) hu hc
    obtain ⟨v, hv, hvf⟩ := closePacket_of_fault (s := stickyLate is (scrambleLate is u)) (by simpa using huf)
    cases hv.symm.trans ht
    exact hvf

/-- A lone NOP answers there. -/
theorem runFormed_nop_of_missing (hd : s.dbg = Debug.off) (hf : s.cur.fault = none) (hm : missingMarker s.cur.expect [.nop] = some c) :
    ∃ t, runFormed [.nop] fin s = .next t := by
  have hc := checkMarker_raises hd hf hm
  simp only [runFormed]
  split
  · simp [unlessFaulted, hc]
  · have he : execAll (arrange [.nop]) (openPacket fin (checkMarker [.nop] s)) = .next (openPacket fin (checkMarker [.nop] s)) := by
      rw [arrange_singleton]
      rfl
    have hc' : (openPacket fin (checkMarker [.nop] s)).cur.fault = some c := hc
    obtain ⟨t, ht, -⟩ := closePacket_of_fault (s := stickyLate [.nop] (scrambleLate [.nop] (openPacket fin (checkMarker [.nop] s))))
      (by simpa using hc')
    rw [he]
    exact ⟨t, ht⟩

/-- Where no packet forms, the cause of the marker goes before that of the formation (R516). -/
theorem runPacket_undecodable_of_missing (he : s.cur.pc.toNat % 2 = 0) (hd : s.dbg = Debug.off) (hf : s.cur.fault = none)
    (hm : missingMarker s.cur.expect [] = some c) (h : formPacket 8 s.cur.pc.toNat 0 (openStep s) = .next .undecodable) :
    RaisesIn (runPacket false s) c := by
  have hc : (checkMarker [] (openStep s)).cur.fault = some c := checkMarker_raises (s := openStep s) hd hf hm
  have hx : runPacket false s = .next (commit (failFormation .undecodable (checkMarker [] (openStep s)))) := by simp [runPacket, he, h]
  exact ⟨_, hx, by simpa using fault_of_keepsStacks (failFormation_keepsStacks .undecodable _) hc⟩

/-! ### The step -/

/-- While a marker is expected no interrupt enters (R525). -/
theorem choose_of_missing (hm : missingMarker s.cur.expect is = some c) : choose s.cur = .packet := by
  have hb : blocked s.cur = true := by
    cases hx : s.cur.expect <;> simp [hx, missingMarker] at hm <;> simp [blocked, hx]
  simp [choose, hb]

/-- Settles O58: the packet runs, since a marker is expected, and keeps the cause of the check. -/
theorem missingMarkerFaults : Obligations.MissingMarkerFaults := by
  unfold Obligations.MissingMarkerFaults
  intro s c hcfg hin hf hd hi he _
  have hr : running s := ⟨hcfg, hin, hf, by rw [hd]; exact ⟨rfl, rfl⟩⟩
  refine ⟨fun is fin hform hm => ?_, fun hform hm => ?_⟩
  · have hs : step s = runFormed is fin (openStep s) :=
      (step_eq_runPacket hr (choose_of_missing hm) hi).trans (runPacket_of_formed he hform)
    refine ⟨fun t ht => runFormed_of_missing (s := openStep s) hd hf hm (hs ▸ ht), ?_⟩
    rintro rfl
    exact hs ▸ runFormed_nop_of_missing (s := openStep s) hd hf hm
  · rw [step_eq_runPacket hr (choose_of_missing hm) hi]
    exact runPacket_undecodable_of_missing he hd hf hm hform

end Sys2Proof.Proofs
end

section
/-! PROOFS. The limits and the warning levels of the two hardware stacks: O53. -/

namespace Sys2Proof.Proofs

open Sys2Proof.Machine Sys2Proof.Laws

variable {s t u : State} {c : Cause}

/-! ### The protected call stack -/

/-- A protected transfer in the FAULT state answers and keeps the frames. -/
theorem enterProtected_raises {target : Word} {pushed : Option Word} (h : s.cur.fault = some c) :
    ∃ t, enterProtected target pushed s = .next t ∧ t.cur.fault = some c ∧ t.cur.protStack = s.cur.protStack := by
  obtain ⟨t, ht, hf⟩ : RaisesIn (enterProtected target pushed s) c := by
    have hk := (swapStacks_fault (stackOf s.cfg s.pre.ists.currlink) (targetStack target s) pushed (scrambleWork s)).trans h
    simp only [enterProtected]
    generalize swapStacks (stackOf s.cfg s.pre.ists.currlink) (targetStack target s) pushed (scrambleWork s) = u at hk
    exact jumpTo_raises hk
  obtain ⟨hp, -⟩ := enterProtected_keepsStacks ht
  exact ⟨t, ht, hf, hp⟩

theorem pushProt_of_full (f : ProtFrame) (h : s.cfg.maxPsp ≤ s.pre.protStack.length) : pushProt f s = s := if_neg (Nat.not_lt.2 h)

/-- CALL.PROT with the protected call stack full faults before it pushes (R253, decision D40). -/
theorem callProt_of_full {target : Word} (hf : s.cur.fault = none) (ha : s.pre.a[15].toNat % 8 = 0)
    (hm : s.cfg.maxPsp ≤ s.pre.protStack.length) :
    ∃ t, callProt target s = .next t ∧ t.cur.fault = some .protectedCallStackFull ∧ t.cur.protStack = s.cur.protStack := by
  have hr : (raise .protectedCallStackFull s).cur.fault = some .protectedCallStackFull := by simp [raise_cur_fault, hf]
  obtain ⟨u, hu, hfu⟩ := pushFrame_raises (readSp s) 8 s.pre.rpc hr
  obtain ⟨hpu, -⟩ := keepsStacks_trans (raise_keepsStacks .protectedCallStackFull s) (pushFrame_keepsStacks hu)
  obtain ⟨hpre, hcfg, -⟩ := keepsContext_trans (raise_keepsContext .protectedCallStackFull s) (pushFrame_keepsContext hu)
  have hfull : (writeRpc s.pkt.seqPc u).cfg.maxPsp ≤ (writeRpc s.pkt.seqPc u).pre.protStack.length := by
    rw [writeRpc_cfg, writeRpc_pre, hcfg, hpre]
    exact hm
  obtain ⟨t, ht, hft, hpt⟩ := enterProtected_raises (s := writeRpc s.pkt.seqPc u) (target := target) (pushed := some (readSp s + 8)) hfu
  refine ⟨t, ?_, hft, hpt.trans hpu⟩
  simp only [callProt, checkSp_of_aligned s ha, decide_eq_true hm, raiseIf_true, hu, andThen_next, pushProt_of_full _ hfull, ht]

/-! ### What is chosen at an open boundary -/

theorem blocked_of_openBoundary (h : openBoundary s) : blocked s.cur = false := by
  obtain ⟨-, -, hp, he⟩ := h
  simp [blocked, hp, he]

theorem mode_of_openBoundary (h : openBoundary s) : s.dbg.mode = .run := by
  obtain ⟨⟨-, -, -, hm, -⟩, -⟩ := h
  exact hm

theorem choose_rtint {q : RtRequest} (h : openBoundary s) (hn : s.cur.nmiPending = false) (hq : s.cur.rtintPending = some q)
    (ha : s.cur.ists.atomic = 0) (hi : s.cur.dsts.ints ≠ .nmi) : choose s.cur = .rtint q := by
  simp [choose, blocked_of_openBoundary h, hn, hq, rtintAllowed, ha, hi]

theorem choose_nmi (h : openBoundary s) (hn : s.cur.nmiPending = true) (hi : s.cur.dsts.ints ≠ .nmi) : choose s.cur = .nmi := by
  simp [choose, blocked_of_openBoundary h, hn, hi]

theorem boundary_of_nmi (h : openBoundary s) (hc : choose s.cur = .nmi) :
    boundary false s = andThen (enterRealtime true s.cfg.nmiVector 0 (openStep s)) fun t => .next (commit (rtispWarn t)) := by
  obtain ⟨⟨-, -, -, hm, -⟩, hb, -⟩ := h
  simp [boundary, servicesInterrupts, hm, hb, hc]

/-! ### The real-time interrupt stack -/

@[simp] theorem commit_outputs (s : State) : (commit s).outputs = s.outputs := by
  unfold commit
  split <;> rfl

/-- A step in the run state ends where its boundary does. -/
theorem afterStep_of_run (h : s.dbg.mode = .run) : afterStep s = s := by simp [afterStep, h]

/-- What is reported once a real-time entry has pushed its frame (R517). -/
def warnedOutputs (s : State) : List Output :=
  if s.cur.warnRtisp ≤ s.cur.rtStack.length + 1 then .rtispWarning :: s.outputs else s.outputs

/-- The state `t` of a real-time entry that has pushed its frame onto those of `s` and given its warning. -/
structure EnteredWarned (s t : State) : Prop where
  depth : t.cur.rtStack.length = s.cur.rtStack.length + 1
  cfg : t.cfg = s.cfg
  dbg : t.dbg = s.dbg
  fault : t.cur.fault = s.cur.fault
  outputs : t.outputs = warnedOutputs s

/-- A real-time entry at an even vector pushes its frame and warns at the level of WARNRTISP (R541, R546). -/
theorem enterRealtime_warned {vector : Word} (nmi : Bool) (he : vector.toNat % 2 = 0) (prio : BitVec 8) (s : State) :
    ∃ t, enterRealtime nmi vector prio s = .next t ∧ EnteredWarned s (rtispWarn t) := by
  have ho : ¬ vector.toNat % 2 = 1 := by omega
  obtain ⟨t, ht, hout, hwarn⟩ : ∃ t, enterRealtime nmi vector prio s = .next t ∧ t.outputs = s.outputs
      ∧ t.cur.warnRtisp = s.cur.warnRtisp := by
    rw [enterRealtime, if_neg ho]
    cases nmi <;> exact ⟨_, rfl, rfl, rfl⟩
  obtain ⟨hr, -, hf, -⟩ := enterRealtime_stacks ht
  obtain ⟨-, -, -, -, -, hcfg, hdbg⟩ := enterRealtime_flow ht
  have hl : t.cur.rtStack.length = s.cur.rtStack.length + 1 := by simp [hr]
  refine ⟨t, ht, ?_⟩
  rw [rtispWarn, hwarn, hl]
  by_cases hw : s.cur.warnRtisp ≤ s.cur.rtStack.length + 1
  · rw [if_pos hw]
    exact ⟨hl, hcfg, hdbg, hf, by rw [warnedOutputs, if_pos hw, ← hout]; rfl⟩
  · rw [if_neg hw]
    exact ⟨hl, hcfg, hdbg, hf, by rw [warnedOutputs, if_neg hw, hout]⟩

theorem rtintLimits_below (h : s.cur.rtStack.length < s.cfg.maxRtisp) : rtintLimits s = s := if_pos h

/-- An RTINT entry that reaches MAXRTISP asserts the NMI where the parameter has it so (R508, decision D19). -/
theorem rtintLimits_raiseNmi (h : s.cur.rtStack.length = s.cfg.maxRtisp) (ho : s.cfg.rtispMaxOutcome = .raiseNmi) :
    rtintLimits s = { s with cur := { s.cur with nmiPending := true, ists := { s.cur.ists with nmif := true } } } := by
  rw [rtintLimits, if_neg (by omega), if_pos ⟨h, ho⟩]

/-- An RTINT entry that reaches MAXRTISP faults where the parameter has it so, one that goes past it always (R508, log entry 50). -/
theorem rtintLimits_full (h : s.cfg.maxRtisp ≤ s.cur.rtStack.length)
    (ho : s.cur.rtStack.length = s.cfg.maxRtisp → s.cfg.rtispMaxOutcome = .fault) : rtintLimits s = raise .rtintStackFull s := by
  have hn : ¬ (s.cur.rtStack.length = s.cfg.maxRtisp ∧ s.cfg.rtispMaxOutcome = .raiseNmi) := by
    rintro ⟨hl, hr⟩
    cases (ho hl).symm.trans hr
  rw [rtintLimits, if_neg (by omega), if_neg hn]

theorem rtintLimits_dbg (s : State) : (rtintLimits s).dbg = s.dbg := by
  obtain ⟨-, -, -, -, -, -, hd⟩ := pathOf_eq (rtintLimits_keepsPath s).1
  exact hd

/-- The step of an RTINT that enters: the frame, the warning, then the limit. -/
theorem step_of_rtint {q : RtRequest} (h : openBoundary s) (hc : choose s.cur = .rtint q) (he : q.vector.toNat % 2 = 0) :
    ∃ t, EnteredWarned s t ∧ step s = .next (commit (rtintLimits t)) := by
  obtain ⟨t, ht, hw⟩ := enterRealtime_warned false he q.prio (openStep s)
  have hm : (commit (rtintLimits (rtispWarn t))).dbg.mode = .run := by
    rw [commit_dbg, rtintLimits_dbg, hw.dbg]
    change s.dbg.mode = .run
    exact mode_of_openBoundary h
  refine ⟨rtispWarn t, ⟨hw.depth, hw.cfg, hw.dbg, hw.fault, hw.outputs⟩, ?_⟩
  rw [step_eq_boundary h.1, boundary_of_rtint h hc, ht, andThen_next, andThen_next, afterStep_of_run hm]

/-- The step of an NMI that enters: the frame and the warning (R546). -/
theorem step_of_nmi (h : openBoundary s) (hc : choose s.cur = .nmi) (he : s.cfg.nmiVector.toNat % 2 = 0) :
    ∃ t, EnteredWarned s t ∧ step s = .next (commit t) := by
  obtain ⟨t, ht, hw⟩ := enterRealtime_warned true he 0 (openStep s)
  have hm : (commit (rtispWarn t)).dbg.mode = .run := by
    rw [commit_dbg, hw.dbg]
    change s.dbg.mode = .run
    exact mode_of_openBoundary h
  refine ⟨rtispWarn t, ⟨hw.depth, hw.cfg, hw.dbg, hw.fault, hw.outputs⟩, ?_⟩
  rw [step_eq_boundary h.1, boundary_of_nmi h hc, ht, andThen_next, andThen_next, afterStep_of_run hm]

/-- An entry whose limit faults ends in FAULT after its warning. -/
theorem commit_rtintStackFull (hw : EnteredWarned s t) (hf : s.cur.fault = none) (hl : rtintLimits t = raise .rtintStackFull t) :
    (commit (rtintLimits t)).cur.fault = some .rtintStackFull
      ∧ (commit (rtintLimits t)).outputs = .faultEntered .rtintStackFull :: warnedOutputs s := by
  have hft : t.cur.fault = none := hw.fault.trans hf
  rw [hl, commit_fault, commit_outputs, ← hw.outputs]
  simp [raise, hft]

/-- Settles O53: the check of the protected call stack comes before its push, that of the real-time stack after the entry's. -/
theorem hardwareStackLimits : Obligations.HardwareStackLimits := by
  unfold Obligations.HardwareStackLimits
  refine ⟨fun s target x hf ha => ⟨fun hm => ⟨callProt_of_full hf ha hm, callProt_of_full hf ha hm⟩, fun hm hw hx he => ?_⟩,
    fun s q h hn hq ha hi he => ?_, fun s h hn hi he => ?_⟩
  · obtain ⟨t, ht, -, ho⟩ := callProt_of_room hf ha hm hw he
    exact ⟨t, t, ht, (exec_callProtReg hx).trans ht, rfl, ho⟩
  · obtain ⟨t, hw, hs⟩ := step_of_rtint h (choose_rtint h hn hq ha hi) he
    obtain ⟨⟨-, -, hf, -⟩, -⟩ := h
    have hft : t.cur.fault = none := hw.fault.trans hf
    have hd := hw.depth
    have hc := hw.cfg
    refine ⟨fun hl ho => ⟨_, hs, ?_⟩, fun hl => ⟨_, hs, ?_⟩, fun hl ho => ⟨_, hs, ?_⟩, fun hl => ⟨_, hs, ?_⟩⟩
    · exact commit_rtintStackFull hw hf (rtintLimits_full (by rw [hd, hc]; omega) fun _ => by rw [hc, ho])
    · exact commit_rtintStackFull hw hf (rtintLimits_full (by rw [hd, hc]; omega) fun e => by rw [hd, hc] at e; omega)
    · have hr := rtintLimits_raiseNmi (s := t) (by rw [hd, hc, hl]) (by rw [hc, ho])
      rw [commit_of_no_fault (rtintLimits t) (by rw [hr]; exact hft), hr]
      exact ⟨hft, rfl, rfl, hw.outputs⟩
    · rw [rtintLimits_below (by rw [hd, hc]; exact hl), commit_outputs]
      exact hw.outputs
  · obtain ⟨t, hw, hs⟩ := step_of_nmi h (choose_nmi h hn hi) he
    exact ⟨_, hs, (commit_outputs t).trans hw.outputs⟩

end Sys2Proof.Proofs
end

section
/-! PROOFS. DSTS and ESTS as operands: O47. A status word is its fields in order, so a software write is checked bit by bit. -/

namespace Sys2Proof.Proofs

open Sys2Proof.Machine Sys2Proof.Laws

variable {s t u : State} {n : Nat} {y : DWord} {e : EffAddr}

/-! ### A status word and its fields -/

theorem bitAt_eq_toNat_ofBool (b : Bool) (k : Nat) : bitAt b k = (BitVec.ofBool b).toNat * 2 ^ k := by cases b <;> simp [bitAt]

theorem flagsNat_lt (f : Flags) : flagsNat f < 16 := by
  obtain ⟨z, n, c, zv⟩ := f
  revert z n c zv
  decide

theorem flagsBits_flagsOfBits (b : BitVec 4) : flagsBits (flagsOfBits b) = b := by
  revert b
  decide

theorem intLevelNat_lt (l : IntLevel) : intLevelNat l < 4 := by cases l <;> decide

/-- The fields of DSTS from bit 31 down, reserved ones 0 (R60). -/
def dstsFields (r : Dsts) : Word :=
  0#1 ++ BitVec.ofFin (w := 4) r.rlink ++ r.prio ++ BitVec.ofNat 2 (intLevelNat r.ints) ++ BitVec.ofBool r.inte ++ r.ta ++ 0#1
    ++ BitVec.ofFin (w := 4) r.clink ++ BitVec.ofBool r.dbgm ++ 0#2 ++ flagsBits r.flags

/-- The fields of ESTS from bit 31 down, reserved ones 0 (R71). -/
def estsFields (r : Ests) : Word :=
  0#8 ++ BitVec.ofBool r.tmuTf ++ BitVec.ofBool r.fdivN ++ BitVec.ofBool r.fdivTf ++ BitVec.ofBool r.idivTf
    ++ BitVec.ofBool r.idivN ++ BitVec.ofBool r.idivZ ++ BitVec.ofBool r.rndf64 ++ BitVec.ofBool r.rndf32 ++ r.tdm
    ++ BitVec.ofBool r.lvf ++ BitVec.ofBool r.luf ++ BitVec.ofBool r.nf ++ BitVec.ofBool r.zf ++ 0#2
    ++ BitVec.ofBool r.ovneg ++ BitVec.ofBool r.ov ++ flagsBits r.flags

theorem dstsWord_eq_fields (r : Dsts) : dstsWord r = dstsFields r := by
  have hf := flagsNat_lt r.flags
  have hi := intLevelNat_lt r.ints
  have hw := (dstsFields r).isLt
  apply BitVec.eq_of_toNat_eq
  simp only [dstsWord, dstsFields, flagsBits, bitAt_eq_toNat_ofBool, toNat_concat, BitVec.toNat_ofNat, BitVec.toNat_ofFin] at hw ⊢
  omega

theorem estsWord_eq_fields (r : Ests) : estsWord r = estsFields r := by
  have hf := flagsNat_lt r.flags
  have hw := (estsFields r).isLt
  apply BitVec.eq_of_toNat_eq
  simp only [estsWord, estsFields, flagsBits, bitAt_eq_toNat_ofBool, toNat_concat, BitVec.toNat_ofNat] at hw ⊢
  omega

/-- A software write of DSTS takes the bits of its mask and leaves the others (R70, R305). -/
theorem dstsWord_writeDstsWord (r : Dsts) (v : Word) :
    dstsWord (writeDstsWord r v) = (dstsWord r &&& ~~~ 0x0001F04F#32) ||| (v &&& 0x0001F04F#32) := by
  rw [dstsWord_eq_fields, dstsWord_eq_fields]
  apply BitVec.eq_of_getLsbD_eq
  intro i hi
  simp only [dstsFields, writeDstsWord, flagsBits_flagsOfBits, BitVec.getLsbD_or, BitVec.getLsbD_and, BitVec.getLsbD_not, BitVec.getLsbD_append]
  interval_cases i <;> simp

/-- A software write of ESTS takes every defined bit (R78, R305). -/
theorem estsWord_writeEstsWord (v : Word) : estsWord (writeEstsWord v) = v &&& 0x00FFFF3F#32 := by
  rw [estsWord_eq_fields]
  apply BitVec.eq_of_getLsbD_eq
  intro i hi
  simp only [estsFields, writeEstsWord, flagsBits_flagsOfBits, BitVec.getLsbD_and, BitVec.getLsbD_append]
  interval_cases i <;> simp

/-! ### The operations on a status register -/

theorem setsReg_of_writeReg {o : Res State} {r : Reg} {v : Word} (h : o = .next (writeReg r v s)) : SetsReg o r v s :=
  ⟨_, h, curReg_writeReg_same r v s, onlyRegs_writeReg r v s⟩

theorem keepsFlow_trans (h : keepsFlow s t) (g : keepsFlow t u) : keepsFlow s u := by
  simp only [keepsFlow] at *
  simp only [g, h, and_self]

/-- A store that its access lets through (R371). -/
theorem storeVal_of_writeOk (hn : n ∣ 8) (h : writeOk e.addr n s) : StoresTo (storeVal n y e s) n y e s := by
  obtain ⟨hx, hs, hd, ho⟩ := storeAttempt_of_memWrite (memWrite_of_writeOk e.addr n y s h) rfl (mem_stored_storeBytes _ _ _ _)
  refine ⟨_, hx, fun k hk => ?_, hs, hd, ho⟩
  rw [newByte, applySide_cur_mem, storeBytes_cur_mem, memByte_writeLE_byteOf _ _ _ (access_le_top hn h.1) hk]

/-- A software write of a status register changes that register only (R305). -/
theorem writeStatus_keeps (q : StatusReg) (v : Word) (s : State) :
    (writeStatus q v s).cur.dsts = (if q = .dsts then writeDstsWord s.cur.dsts v else s.cur.dsts)
      ∧ (writeStatus q v s).cur.ests = (if q = .ests then writeEstsWord v else s.cur.ests) ∧ keepsAllButStatus s (writeStatus q v s) := by
  cases q
  all_goals exact ⟨rfl, rfl, fun r _ => by cases r <;> rfl, keepsMemory_of_eq rfl rfl, rfl, rfl, by simp [keepsSystem, writeStatus],
    rfl, rfl, rfl, rfl, rfl⟩

theorem statusWritten_writeStatus (q : StatusReg) (v : Word) (s : State) : StatusWritten (.next (writeStatus q v s)) q v s :=
  ⟨_, rfl, writeStatus_keeps q v s⟩

/-- A load of a status register that its access lets through, with its mode's side effect (R305, R321). -/
theorem exec_statusLoad {q : StatusReg} {m : Addr1} (h : readOk (evalAddr1 m s).addr 4 s) :
    exec (.statusOp (.load q m)) s
      = .next (applySide (evalAddr1 m s) (writeStatus q (oldWord s (evalAddr1 m s).addr) s)) := by
  change andThen (memRead (evalAddr1 m s).addr 4 s) (fun v => .next (applySide (evalAddr1 m s) (writeStatus q (lowWord v.1) v.2))) = _
  rw [memRead_of_readOk _ 4 s h, andThen_next, lowWord_readLE]

/-- Settles O47: one register, one store or one status register, by the operation; the masks bit by bit. -/
theorem statusRegisterAccess : Obligations.StatusRegisterAccess := by
  unfold Obligations.StatusRegisterAccess
  refine ⟨fun s q m r v => ⟨setsReg_of_writeReg rfl, storeVal_of_writeOk (by decide), statusWritten_writeStatus _ _ s,
    statusWritten_writeStatus _ _ s, statusWritten_writeStatus _ _ s, fun h => ?_⟩, dstsWord_writeDstsWord, estsWord_writeEstsWord⟩
  obtain ⟨hdsts, hests, hregs, hmem, hrpc, hists, hsys, hflow⟩ := writeStatus_keeps q (oldWord s (evalAddr1 m s).addr) s
  obtain ⟨aregs, amem, ⟨adsts, aests⟩, arpc, aists, asys, aflow⟩ :=
    onlyRegs_applySide (evalAddr1 m s) (writeStatus q (oldWord s (evalAddr1 m s).addr) s)
  exact ⟨_, exec_statusLoad h, adsts.trans hdsts, aests.trans hests, sideDone_applySide _ _, keepsRegs_trans hregs aregs,
    keepsMemory_trans hmem amem, arpc.trans hrpc, aists.trans hists, keepsSystem_trans hsys asys, keepsFlow_trans hflow aflow⟩

end Sys2Proof.Proofs
end

section
/-! PROOFS. The system instructions, O44 and O45, and the wait of IDLE, O33. -/

namespace Sys2Proof.Proofs

open Sys2Proof.Machine Sys2Proof.Laws

variable {s t : State} {fin : Nat}

/-! ### Instructions that change one thing -/

/-- A load of RPC that its access lets through (R301). -/
theorem exec_ldRpc {a : Word} (h : readOk a 4 s) : exec (.ldRpc a) s = .next (writeRpc (oldWord s a) s) := by
  change andThen (memRead a 4 s) (fun v => .next (writeRpc (lowWord v.1) v.2)) = _
  rw [memRead_of_readOk a 4 s h, andThen_next, lowWord_readLE]

/-- ATOMIC within its limit loads a counter that is 0 and clears one that runs (R280, R281). -/
theorem execAtomic_of_le {n : BitVec 8} (h : n.toNat ≤ s.cfg.atomicMax) :
    ∃ t, execAtomic n s = .next t
      ∧ t.cur = { s.cur with ists := { s.cur.ists with atomic := if s.pre.ists.atomic = 0 then n else 0 } }
      ∧ (t.pkt.atomicLoaded = true ↔ s.pre.ists.atomic = 0 ∨ s.pkt.atomicLoaded = true) ∧ t.cfg = s.cfg := by
  rw [execAtomic, if_neg (Nat.not_lt.2 h)]
  by_cases h0 : s.pre.ists.atomic = 0
  · rw [if_pos h0, if_pos h0]
    exact ⟨_, rfl, rfl, by simp [h0], rfl⟩
  · rw [if_neg h0, if_neg h0]
    exact ⟨_, rfl, rfl, (or_iff_right h0).symm, rfl⟩

theorem execAtomic_of_gt {n : BitVec 8} (h : s.cfg.atomicMax < n.toNat) (hf : s.cur.fault = none) :
    execAtomic n s = .refused (.atomicCount n.toNat) := by
  rw [execAtomic, if_pos h, stopUnlessFaulted_of_no_fault _ hf]

/-- Settles O44: the one write of each instruction. -/
theorem systemInstructions : Obligations.SystemInstructions := by
  unfold Obligations.SystemInstructions
  exact fun s n a => ⟨execAtomic_of_le, execAtomic_of_gt, ⟨_, rfl, rfl, rfl⟩, ⟨_, rfl, rfl, rfl⟩, ⟨_, rfl, rfl, rfl⟩,
    fun h => ⟨_, exec_ldRpc h, rfl, rfl⟩⟩

/-- Settles O45: the marker is a write of A15. -/
theorem isr1LoadsStackPointer : Obligations.Isr1LoadsStackPointer := by
  unfold Obligations.Isr1LoadsStackPointer
  exact fun s => setsReg_of_writeReg rfl

/-! ### The packet of IDLE -/

/-- An IDLE that may be executed stands in no delay slot (R220 item 2). -/
theorem pending_of_runsPacket_idle (h : runsPacket [.idle] fin s) : s.cur.pending = none := by
  obtain ⟨-, -, -, -, -, hr, -⟩ := h
  cases hp : s.cur.pending with
  | none => rfl
  | some p => cases hr.symm.trans (packetRefusal_idle (s := openStep s) hp)

/-- The packet of IDLE ends with the CPU idle (R295). -/
theorem step_of_idle (h : runsPacket [.idle] fin s) (hl : staysInLink fin s) :
    ∃ t, step s = .next t ∧ t.cur.idle = true ∧ t.cur.pc = BitVec.ofNat 32 fin ∧ t.cur.fault = none := by
  have hf := fault_of_runsPacket h
  have hx : execAll (arrange [.idle]) (opened fin s) = .next { opened fin s with cur := { (opened fin s).cur with idle := true } } := by
    rw [arrange_singleton]
    rfl
  obtain ⟨v, hv, he⟩ := step_of_execAll h hx (pending_of_runsPacket_idle h) rfl hf (by simp) (.inr ⟨hl, rfl, rfl⟩)
  refine ⟨v, hv, ?_, endsFrom_pc he, (endsFrom_fault he).trans hf⟩
  obtain ⟨-, hc, -⟩ := he
  rw [hc]

/-! ### Entries end the wait -/

theorem enterRealtime_idle {nmi : Bool} {vector : Word} {prio : BitVec 8} (h : enterRealtime nmi vector prio s = .next t) :
    t.cur.idle = false := by
  unfold enterRealtime at h
  split at h <;> cases h
  cases nmi <;> rfl

theorem enterInt_idle {q : IntRequest} (h : enterInt q s = .next t) : t.cur.idle = false := by
  simp only [enterInt] at h
  split_ifs at h
  obtain ⟨u, -, ht⟩ := andThen_eq_next h
  cases ht
  rfl

theorem rtispWarn_idle (s : State) : (rtispWarn s).cur.idle = s.cur.idle := by unfold rtispWarn; split <;> rfl

theorem rtintLimits_idle (s : State) : (rtintLimits s).cur.idle = s.cur.idle := by
  unfold rtintLimits
  repeat' split
  all_goals simp

/-- What was not idle is not idle once it has landed without a fault. -/
theorem commit_idle (hi : s.cur.idle = false) (hf : (commit s).cur.fault = none) : (commit s).cur.idle = false := by
  rw [commit_of_no_fault s ((commit_fault s).symm.trans hf)]
  exact hi

/-- The boundary of an idle CPU at which an interrupt is taken ends the wait, unless its entry faults (R295, decision D43). -/
theorem boundary_wakes (hm : s.dbg.mode = .run) (hi : s.cur.idle = true) (hc : choose s.cur ≠ .packet) (h : boundary false s = .next t)
    (hf : t.cur.fault = none) : t.cur.idle = false := by
  rw [boundary, if_neg (by simp [servicesInterrupts, hm, stopsAtBreak, hi])] at h
  split at h
  · obtain ⟨u, hu, ht⟩ := andThen_eq_next h
    cases ht
    exact commit_idle ((rtispWarn_idle u).trans (enterRealtime_idle hu)) hf
  · obtain ⟨u, hu, ht⟩ := andThen_eq_next h
    cases ht
    exact commit_idle ((rtintLimits_idle _).trans ((rtispWarn_idle u).trans (enterRealtime_idle hu))) hf
  · obtain ⟨u, hu, ht⟩ := andThen_eq_next h
    cases ht
    exact commit_idle (enterInt_idle hu) hf
  · exact absurd ‹_› hc

theorem afterStep_idle (h : s.cur.idle = false) : (afterStep s).cur.idle = false := by
  obtain e | ⟨-, e⟩ := afterStep_cases s <;> rw [e]
  · exact h
  · rfl

/-- Settles O33: the packet, the wait and its end. -/
theorem idleWaitsForInterrupt : Obligations.IdleWaitsForInterrupt := by
  unfold Obligations.IdleWaitsForInterrupt
  refine fun s => ⟨fun fin => step_of_idle, fun hr hi hc => ⟨settle s, ?_, rfl, rfl, rfl⟩, fun hr hi hc t ht hf => ?_⟩
  · rw [step_of_running hr hc, hi, if_pos rfl]
  · obtain ⟨u, hu, hu'⟩ := andThen_eq_next ((step_eq_boundary hr).symm.trans ht)
    cases hu'
    obtain ⟨-, -, -, hm, -⟩ := hr
    exact afterStep_idle (boundary_wakes hm hi hc hu ((afterStep_fault u).symm.trans hf))

end Sys2Proof.Proofs
end

section
/-! PROOFS. Returns from interrupts that are in order: O48, O49. Each is the state it has built, then a transfer. -/

namespace Sys2Proof.Proofs

open Sys2Proof.Machine Sys2Proof.Laws

variable {s t : State}

/-- A transfer to an even target, with all that it writes. -/
theorem jumpTo_of_even_eq {target : Word} (he : target.toNat % 2 = 0) (delay : Fin 8) (late : Late) (s : State) :
    ∃ pc p j, jumpTo delay late target s
        = .next { s with cur := { s.cur with pc := pc, pending := p }, pkt := { s.pkt with jumped := j } }
      ∧ FlowsTo target delay late s { s with cur := { s.cur with pc := pc, pending := p }, pkt := { s.pkt with jumped := j } } := by
  have ho : ¬ target.toNat % 2 = 1 := by omega
  unfold jumpTo
  rw [if_neg ho]
  split
  · rename_i hd
    exact ⟨_, _, _, rfl, rfl, rfl, rfl, fun _ => ⟨rfl, rfl, rfl⟩, fun n => absurd hd n⟩
  · rename_i hd
    exact ⟨_, _, _, rfl, rfl, rfl, rfl, fun n => absurd n hd, fun _ => ⟨rfl, rfl, rfl⟩⟩

/-! ### RETI.INT -/

/-- The state in which RETI.INT jumps: the frame is popped and what its entry remembered is restored (R287). -/
def intRestored (v : IntSave) (rest : List IntSave) (s : State) : State :=
  let s1 := writeSp (s.pre.a[15] - BitVec.ofNat 32 s.cfg.intFrameBytes)
    (writeRpc (oldWord s (s.pre.a[15] - BitVec.ofNat 32 s.cfg.intFrameBytes)) s)
  spend 1 { s1 with cur := { s1.cur with
    dsts := { s1.cur.dsts with ints := v.ints, prio := v.prio, inte := inteAfterReti v s1 }
    intSaves := rest
    ists := { s1.cur.ists with intf := s1.cur.ists.intf && !rest.isEmpty } } }

/-- RETI.INT in a handler, with its slot and return address in order. -/
theorem returnInt_eq_jumpTo {v : IntSave} {rest : List IntSave} (delay : Fin 8) (hi : s.pre.dsts.ints = .int) (hv : s.pre.intSaves = v :: rest)
    (ha : s.pre.a[15].toNat % 8 = 0) (hro : readOk (s.pre.a[15] - BitVec.ofNat 32 s.cfg.intFrameBytes) 4 s)
    (hk : ∀ l, linkOf s.cfg s.pre.rpc = some l → stackOf s.cfg l = stackOf s.cfg s.pre.ists.currlink) :
    returnInt delay s = jumpTo delay .nothing s.pre.rpc (intRestored v rest s) := by
  have hm := memRead_of_readOk (readSp s - BitVec.ofNat 32 s.cfg.intFrameBytes) 4 s hro
  simp only [returnInt, hi, hv, checkSp_of_aligned s ha, checkTransfer_of_ok _ s hk, hm, andThen_next, lowWord_readLE]
  rfl

/-- INTE after RETI.INT where the parameter fixes it (R287, log entry 48). -/
theorem inteAfterReti_of_some {b : Bool} (v : IntSave) (h : s.cfg.retiIntRestoresInte = some b) :
    inteAfterReti v s = if b then v.inte else s.cur.dsts.inte := by
  unfold inteAfterReti
  cases b <;> simp [h]

/-- Settles O48: the frame, the restored fields, then the jump. -/
theorem returnFromInt : Obligations.ReturnFromInt := by
  unfold Obligations.ReturnFromInt
  rintro s v rest i delay hform - hi hv ha hro ⟨he, hk⟩
  have hexec : exec i s = returnInt delay s := by
    obtain ⟨rfl, rfl⟩ | rfl := hform <;> rfl
  obtain ⟨pc, p, j, ht, hflow⟩ := jumpTo_of_even_eq he delay .nothing (intRestored v rest s)
  have hu : keepsFlow s (intRestored v rest s) := ⟨rfl, rfl, rfl, rfl, rfl⟩
  have h15 := curReg_writeReg_same (.a 15) (s.pre.a[15] - BitVec.ofNat 32 s.cfg.intFrameBytes) s
  refine ⟨_, (hexec.trans (returnInt_eq_jumpTo delay hi hv ha hro hk)).trans ht, flowsTo_of_keepsFlow hu hflow, rfl, h15, fun r hr => ?_,
    keepsMemory_of_eq rfl rfl, rfl, rfl, fun b hb => inteAfterReti_of_some v hb, rfl, fun hn => ?_, fun hn => ?_, rfl, rfl, rfl, rfl, rfl, rfl⟩
  · have hr' := curReg_writeReg_of_ne (s.pre.a[15] - BitVec.ofNat 32 s.cfg.intFrameBytes) s (List.ne_of_not_mem_cons hr)
    cases r <;> exact hr'
  · simp [intRestored, hn]
  · change (s.cur.ists.intf && !rest.isEmpty) = s.cur.ists.intf
    rw [List.isEmpty_eq_false_iff.2 hn, Bool.not_false, Bool.and_true]

/-! ### RETI.RTINT -/

/-- CURRSP once a RETI.RTINT has landed (R55). -/
def currspRestored (f : RtFrame) (s : State) : StackId := stackAt s.cfg f.ret s.cur.ists.currsp

/-- The state in which RETI.RTINT jumps: the frame is restored and the flag of a line of which nothing remains is clear (R288, R545, R552). -/
def frameRestored (delay : Fin 8) (f : RtFrame) (rest : List RtFrame) (s : State) : State :=
  { s with cur := { s.cur with
    rtStack := rest
    secsp := s.cur.secsp.set s.pre.ists.currsp s.pre.a[15]
    a := f.a
    d := f.d
    m := f.m
    rpc := f.rpc
    dsts := f.dsts
    ests := f.ests
    ists := { s.cur.ists with
      currsp := if delay = 0 then currspRestored f s else s.cur.ists.currsp
      rtintf := s.cur.ists.rtintf && (s.pre.dsts.ints != .rtint || rtintActive f rest || s.cur.rtintPending.isSome)
      nmif := s.cur.ists.nmif && (s.pre.dsts.ints != .nmi || s.cur.nmiPending) } } }

theorem returnRealtime_eq_jumpTo {f : RtFrame} {rest : List RtFrame} (delay : Fin 8) (h : s.pre.rtStack = f :: rest) :
    returnRealtime delay s = jumpTo delay (.currsp (currspRestored f s)) f.ret (frameRestored delay f rest s) := by
  simp only [returnRealtime, h]
  rfl

/-- No RTINT handler is left where neither the frame nor those under it are of one (R545). -/
theorem rtintActive_eq_false {f : RtFrame} {rest : List RtFrame} (hf : f.dsts.ints ≠ .rtint) (hr : ∀ g ∈ rest, g.dsts.ints ≠ .rtint) :
    rtintActive f rest = false := by
  simpa [rtintActive, hf] using hr

/-- Settles O49: the frame, SECSP and the flags, then the jump. -/
theorem returnFromRealtime : Obligations.ReturnFromRealtime := by
  unfold Obligations.ReturnFromRealtime
  intro s f rest i delay hform hs he
  have hexec : exec i s = returnRealtime delay s := by
    obtain ⟨rfl, rfl⟩ | rfl := hform <;> rfl
  obtain ⟨pc, p, j, ht, hflow⟩ := jumpTo_of_even_eq he delay (.currsp (currspRestored f s)) (frameRestored delay f rest s)
  have hu : keepsFlow s (frameRestored delay f rest s) := ⟨rfl, rfl, rfl, rfl, rfl⟩
  refine ⟨_, (hexec.trans (returnRealtime_eq_jumpTo delay hs)).trans ht, rfl, rfl, rfl, rfl, rfl, rfl, flowsTo_of_keepsFlow hu hflow, rfl,
    Vector.getElem_set_self _, secsp_set_other _ _ _, fun l hd hl => ?_, fun hd => if_neg hd, fun hi => ⟨?_, ?_⟩, fun hi hp => ?_,
    fun hi hf hr hp => ?_, keepsMemory_of_eq rfl rfl, rfl, rfl, rfl, rfl, rfl⟩
  · exact (if_pos hd).trans (stackAt_of_link _ _ _ l hl)
  · simp [frameRestored, hi]
  · simp [frameRestored, hi]
  · simp [frameRestored, Option.isSome_iff_ne_none.2 hp]
  · simp [frameRestored, hi, hp, rtintActive_eq_false hf hr]

end Sys2Proof.Proofs
end

section
/-! PROOFS. What the ADDR1 modes compute: O15. -/

namespace Sys2Proof.Proofs

open Sys2Proof.Machine Sys2Proof.Laws

/-- The index Ak is A0 to A3 (R189). -/
theorem indexReg_val (k : Fin 4) : (indexReg k).val = k.val := Nat.mod_eq_of_lt (k.isLt.trans (by decide))

/-- Zero extension keeps a number that fits its field. -/
theorem zext32_ofNat {k m : Nat} (h : m < 2 ^ k) : zext32 (BitVec.ofNat k m) = BitVec.ofNat 32 m := by
  apply BitVec.eq_of_toNat_eq
  simp [zext32, Nat.mod_eq_of_lt h]

/-- The field of the operand N of the assembly holds 2^k - N, and with ones above it that is -N (R210, R211). -/
theorem ones32_negOperand {k n : Nat} (h1 : 1 ≤ n) (h2 : n ≤ 2 ^ k) : ones32 (BitVec.ofNat k (2 ^ k - n)) = -BitVec.ofNat 32 n := by
  have hsplit : BitVec.ofNat 32 (2 ^ k - n) + BitVec.ofNat 32 n = BitVec.ofNat 32 (2 ^ k) := by
    rw [← BitVec.ofNat_add, Nat.sub_add_cancel h2]
  rw [ones32, zext32_ofNat (by omega), ← hsplit]
  ring

/-- A negative mode subtracts the operand N of the assembly. -/
theorem add_ones32_negOperand (a : Word) {k n : Nat} (h1 : 1 ≤ n) (h2 : n ≤ 2 ^ k) :
    a + ones32 (BitVec.ofNat k (2 ^ k - n)) = a - BitVec.ofNat 32 n := by
  rw [ones32_negOperand h1 h2, sub_eq_add_neg]

/-- Settles O15: each mode by its own arm of the evaluation, the negative ones through their operand N. -/
theorem addr1Modes : Obligations.Addr1Modes := by
  unfold Obligations.Addr1Modes
  intro s x j k i10 i7 i8 sh
  refine ⟨rfl, ?offScaled, ?index, ?indexSet, rfl, ?offPost, fun n h1 h2 => ?negative, fun n h1 h2 => ?spNeg⟩
  case offScaled => simp [evalAddr1, plainAddr, zext32, shiftLeft_two_eq_mul, readA]
  case index => simp [evalAddr1, plainAddr, readA, indexReg_val]
  case indexSet => simp [evalAddr1, readA, indexReg_val]
  case offPost => simp [evalAddr1, zext32, readA, indexReg_val]
  case negative =>
    have hn (a : Word) : a + ones32 (BitVec.ofNat 8 (256 - n)) = a - BitVec.ofNat 32 n := add_ones32_negOperand a h1 h2
    simp [evalAddr1, readA, hn]
  case spNeg =>
    have hn (a : Word) : a + ones32 (BitVec.ofNat 13 (8192 - n)) = a - BitVec.ofNat 32 n := add_ones32_negOperand a h1 h2
    simp [evalAddr1, plainAddr, readSp, readA, hn]

end Sys2Proof.Proofs
end

section
/-! PROOFS. The values loads and stores move: the bytes read as one number, and the lanes of a register. -/

namespace Sys2Proof.Proofs

open Sys2Proof.Machine Sys2Proof.Laws

variable {s : State} {a : Word} {n : Nat}

/-! ### The bytes of before the packet as one value -/

/-- What a read of `n` bytes at `a` gives where it is in order (R126, R155). -/
def oldValue (n : Nat) (a : Word) (s : State) : DWord := BitVec.ofNat 64 (readLE s.pre.mem a.toNat n)

theorem memRead_oldValue (h : readOk a n s) : memRead a n s = .next (oldValue n a s, s) := memRead_of_readOk a n s h

theorem byteOf_oldValue (a : Word) (s : State) {k : Nat} (hn : n ∣ 8) (hk : k < n) : byteOf (oldValue n a s) k = oldByte s a k :=
  byteOf_readLE s.pre.mem a.toNat (Nat.le_of_dvd (by decide) hn) hk

theorem oldValue_one (a : Word) (s : State) : oldValue 1 a s = (oldByte s a 0).setWidth 64 := by
  apply BitVec.eq_of_toNat_eq
  simp [oldValue, oldByte, readLE]

theorem oldValue_two (a : Word) (s : State) : oldValue 2 a s = (oldHalf s a).setWidth 64 := by
  have h0 := (memByte s.pre.mem a.toNat).isLt
  have h1 := (memByte s.pre.mem (a.toNat + 1)).isLt
  apply BitVec.eq_of_toNat_eq
  simp only [oldValue, oldHalf, oldByte, readLE, toNat_concat, BitVec.toNat_ofNat, BitVec.toNat_setWidth, Nat.add_zero]
  omega

/-- A read of `n + k` bytes is one of `n` bytes below one of `k` bytes. -/
theorem readLE_add (m : Memory) (a n k : Nat) : readLE m a (n + k) = readLE m a n + 256 ^ n * readLE m (a + n) k := by
  induction n generalizing a with
  | zero => simp [readLE]
  | succ n ih =>
    rw [Nat.succ_add, readLE, readLE, ih, show a + 1 + n = a + (n + 1) by omega, pow_succ]
    ring

/-- The low word of eight bytes is that of the lower four (R127). -/
theorem lowWord_oldValue_eight (a : Word) (s : State) : lowWord (oldValue 8 a s) = oldWord s a := by
  rw [← lowWord_readLE, oldValue, readLE_add _ _ 4 4]
  apply BitVec.eq_of_toNat_eq
  simp only [lowWord, BitVec.toNat_setWidth, BitVec.toNat_ofNat]
  omega

/-- The high word of eight bytes is that of the upper four, which an aligned access does not wrap round to (R127). -/
theorem highWord_oldValue_eight (s : State) (ha : a.toNat % 8 = 0) : highWord (oldValue 8 a s) = oldWord s (a + 4) := by
  have htop : a.toNat + 8 ≤ 4294967296 := access_le_top (by decide) ha
  have ha4 : (a + 4).toNat = a.toNat + 4 := by bv_omega
  have hlow := readLE_lt s.pre.mem a.toNat 4
  have hhigh := readLE_lt s.pre.mem (a.toNat + 4) 4
  rw [← lowWord_readLE, oldValue, readLE_add _ _ 4 4, ha4]
  apply BitVec.eq_of_toNat_eq
  simp only [lowWord, highWord, BitVec.toNat_setWidth, BitVec.toNat_ushiftRight, BitVec.toNat_ofNat, Nat.shiftRight_eq_div_pow]
  omega

/-! ### Lanes -/

/-- A lane replaced is the bits above it, the new lane and the bits below it (R377 to R382, D30). -/
theorem insertLane_eq_append {lo n : Nat} (h : lo + n ≤ 32) (old : Word) (v : DWord) :
    insertLane lo n old v = (old.extractLsb' (lo + n) (32 - (lo + n)) ++ v.setWidth n ++ old.extractLsb' 0 lo).setWidth 32 := by
  have hmask (j : Nat) : (BitVec.ofNat 32 (2 ^ n - 1)).getLsbD j = (decide (j < 32) && decide (j < n)) := by
    simp [BitVec.getLsbD_ofNat, Nat.testBit_two_pow_sub_one]
  apply BitVec.eq_of_getLsbD_eq
  intro i hi
  simp only [insertLane, BitVec.getLsbD_or, BitVec.getLsbD_and, BitVec.getLsbD_not, BitVec.getLsbD_shiftLeft, hmask,
    BitVec.getLsbD_setWidth, BitVec.getLsbD_append, BitVec.getLsbD_extractLsb']
  by_cases hbelow : i < lo
  · simp [hi, hbelow]
  · have h32 : i - lo < 32 := by omega
    by_cases hlane : i - lo < n
    · have h64 : i - lo < 64 := by omega
      simp [hi, hbelow, hlane, h32, h64]
    · have hsub : lo + n + (i - lo - n) = i := by omega
      have habove : i - lo - n < 32 - (lo + n) := by omega
      simp [hi, hbelow, hlane, h32, hsub, habove]

/-- At the top there are no bits above the lane. -/
theorem insertLane_top {lo n : Nat} (h : lo + n = 32) (old : Word) (v : DWord) :
    insertLane lo n old v = (v.setWidth n ++ old.extractLsb' 0 lo).setWidth 32 := by
  have htop : (old.extractLsb' (lo + n) (32 - (lo + n))).toNat = 0 := by simp [h, Nat.mod_one]
  rw [insertLane_eq_append h.le]
  apply BitVec.eq_of_toNat_eq
  simp only [BitVec.toNat_setWidth, toNat_concat, htop, Nat.zero_mul, Nat.zero_add]

end Sys2Proof.Proofs
end

section
/-! PROOFS. Loads, stores, copies and read-modify-writes that are in order: O16 to O20, O23, O24. Each kind of access once for any operand;
the forms of an instruction differ in the operand only. -/

namespace Sys2Proof.Proofs

open Sys2Proof.Machine Sys2Proof.Laws

variable {s t : State} {a : Word} {n : Nat} {y : DWord} {e : EffAddr} {r : Reg} {x : XReg}

/-! ### Loads -/

theorem not_mem_sideRegs_plainAddr (r : Reg) (a : Word) : r ∉ sideRegs (plainAddr a) := List.not_mem_nil

/-- What a mode's side effect leaves of a register it does not write. -/
theorem curReg_applySide_of_not_mem (h : r ∉ sideRegs e) : curReg (applySide e s) r = curReg s r := (onlyRegs_applySide e s).1 r h

/-- A load of a register that its access lets through (R370). -/
theorem loadReg_of_readOk {f : Word → DWord → Word} {v : Word} (hr : r ∉ sideRegs e) (h : readOk e.addr n s)
    (hv : f (readReg r s) (oldValue n e.addr s) = v) : LoadsTo (loadReg n f r e s) r v e s := by
  refine ⟨_, by rw [loadReg, memRead_oldValue h]; rfl, ?_, sideDone_applySide _ _,
    onlyRegs_trans (onlyRegs_writeReg r _ s) (onlyRegs_applySide e _)⟩
  rw [curReg_applySide_of_not_mem hr, curReg_writeReg_same, hv]

/-- LD.32, LD.S16, LD.S8, LD.U16 and LD.U8 through any operand (R375, R383 to R386). -/
theorem wholeLoads_of_operand (hr : r ∉ sideRegs e) :
    (readOk e.addr 4 s → LoadsTo (loadReg 4 loadWhole r e s) r (oldWord s e.addr) e s)
      ∧ (readOk e.addr 2 s → LoadsTo (loadReg 2 loadS16 r e s) r ((oldHalf s e.addr).signExtend 32) e s)
      ∧ (readOk e.addr 1 s → LoadsTo (loadReg 1 loadS8 r e s) r ((oldByte s e.addr 0).signExtend 32) e s)
      ∧ (readOk e.addr 2 s → LoadsTo (loadReg 2 loadU16 r e s) r ((oldHalf s e.addr).setWidth 32) e s)
      ∧ (readOk e.addr 1 s → LoadsTo (loadReg 1 loadU8 r e s) r ((oldByte s e.addr 0).setWidth 32) e s) :=
  ⟨fun h => loadReg_of_readOk hr h (loadWhole_readLE _ _ _),
    fun h => loadReg_of_readOk hr h (by simp [oldValue_two, loadS16, sext32]),
    fun h => loadReg_of_readOk hr h (by simp [oldValue_one, loadS8, sext32]),
    fun h => loadReg_of_readOk hr h (by simp [oldValue_two, loadU16, zext32]),
    fun h => loadReg_of_readOk hr h (by simp [oldValue_one, loadU8, zext32])⟩

/-- Settles O16: the five extensions, through each kind of operand. -/
theorem wholeLoads : Obligations.WholeLoads := by
  unfold Obligations.WholeLoads
  intro s r
  exact ⟨fun m hr => wholeLoads_of_operand hr, fun a => wholeLoads_of_operand (not_mem_sideRegs_plainAddr r a),
    fun b off => wholeLoads_of_operand (not_mem_sideRegs_plainAddr r _), fun m hr => (wholeLoads_of_operand hr).1⟩

/-- LD.B0 to LD.B3, LD.W0 and LD.W1 through any operand (R377 to R382). -/
theorem laneLoads_of_operand (hr : r ∉ sideRegs e) :
    (readOk e.addr 1 s → LoadsTo (loadReg 1 (loadByteLane 0) r e s) r ((readReg r s).extractLsb' 8 24 ++ oldByte s e.addr 0) e s)
      ∧ (readOk e.addr 1 s → LoadsTo (loadReg 1 (loadByteLane 1) r e s) r
          ((readReg r s).extractLsb' 16 16 ++ oldByte s e.addr 0 ++ (readReg r s).extractLsb' 0 8) e s)
      ∧ (readOk e.addr 1 s → LoadsTo (loadReg 1 (loadByteLane 2) r e s) r
          ((readReg r s).extractLsb' 24 8 ++ oldByte s e.addr 0 ++ (readReg r s).extractLsb' 0 16) e s)
      ∧ (readOk e.addr 1 s → LoadsTo (loadReg 1 (loadByteLane 3) r e s) r (oldByte s e.addr 0 ++ (readReg r s).extractLsb' 0 24) e s)
      ∧ (readOk e.addr 2 s → LoadsTo (loadReg 2 (loadHalfLane 0) r e s) r ((readReg r s).extractLsb' 16 16 ++ oldHalf s e.addr) e s)
      ∧ (readOk e.addr 2 s → LoadsTo (loadReg 2 (loadHalfLane 1) r e s) r (oldHalf s e.addr ++ (readReg r s).extractLsb' 0 16) e s) :=
  ⟨fun h => loadReg_of_readOk hr h (by simp [loadByteLane, insertLane_eq_append, oldValue_one]),
    fun h => loadReg_of_readOk hr h (by simp [loadByteLane, insertLane_eq_append, oldValue_one]),
    fun h => loadReg_of_readOk hr h (by simp [loadByteLane, insertLane_eq_append, oldValue_one]),
    fun h => loadReg_of_readOk hr h (by simp [loadByteLane, insertLane_top, oldValue_one]),
    fun h => loadReg_of_readOk hr h (by simp [loadHalfLane, insertLane_eq_append, oldValue_two]),
    fun h => loadReg_of_readOk hr h (by simp [loadHalfLane, insertLane_top, oldValue_two])⟩

/-- Settles O17: the six lanes, through each kind of operand. -/
theorem laneLoads : Obligations.LaneLoads := by
  unfold Obligations.LaneLoads
  intro s r
  exact ⟨fun m hr => laneLoads_of_operand hr, fun a => laneLoads_of_operand (not_mem_sideRegs_plainAddr r a),
    fun b off => laneLoads_of_operand (not_mem_sideRegs_plainAddr r _)⟩

/-- The two registers of a pair differ (R33). -/
theorem lowReg_ne_highReg (x : XReg) : lowReg x ≠ highReg x := by
  cases x <;> simp [lowReg, highReg, Fin.ext_iff] <;> omega

/-- A load of a pair that its access lets through (R376). -/
theorem loadPair_of_readOk (hl : lowReg x ∉ sideRegs e) (hh : highReg x ∉ sideRegs e) (h : readOk e.addr 8 s) :
    LoadsPairTo (loadPair x e s) x e s := by
  have ⟨halign, _⟩ := h
  refine ⟨_, by rw [loadPair, memRead_oldValue h]; rfl, ?_, ?_, sideDone_applySide _ _,
    onlyRegs_trans (onlyRegs_writeX x _ s) (onlyRegs_applySide e _)⟩
  · rw [curReg_applySide_of_not_mem hl, writeX, curReg_writeReg_of_ne _ _ (lowReg_ne_highReg x), curReg_writeReg_same,
      lowWord_oldValue_eight]
  · rw [curReg_applySide_of_not_mem hh, writeX, curReg_writeReg_same, highWord_oldValue_eight s halign]

/-! ### Stores -/

/-- A store keeps the low bytes of its value only (R371). -/
theorem storeVal_lowBytes {v : DWord} (hn : n ∣ 8) (hv : lowBytes n y = v) (h : writeOk e.addr n s) :
    StoresTo (storeVal n y e s) n v e s := by
  obtain ⟨t, hx, hb, hrest⟩ := storeVal_of_writeOk (y := y) hn h
  exact ⟨t, hx, fun k hk => by rw [hb k hk, ← hv, byteOf_lowBytes y (Nat.le_of_dvd (by decide) hn) hk], hrest⟩

/-- A store of a lane of a register through any operand (R394 to R399). -/
theorem laneStore_of_writeOk (lo : Nat) (v : Word) (hn : n ∣ 8) (h : writeOk e.addr n s) :
    StoresTo (storeVal n (laneOf lo v) e s) n ((v.extractLsb' lo (8 * n)).setWidth 64) e s :=
  storeVal_lowBytes hn (lowBytes_laneOf n lo v) h

/-- A store of a whole register through any operand (R390). -/
theorem wordStore_of_writeOk (v : Word) (e : EffAddr) (h : writeOk e.addr 4 s) :
    StoresTo (storeVal 4 (laneOf 0 v) e s) 4 (v.setWidth 64) e s :=
  storeVal_lowBytes (by decide) (lowBytes_laneOf_zero v) h

/-- A store of a pair through any operand: the even register is the low half (R391, D3). -/
theorem pairStore_of_writeOk (x : XReg) (e : EffAddr) (h : writeOk e.addr 8 s) :
    StoresTo (storeVal 8 (readX x s) e s) 8 (readReg (highReg x) s ++ readReg (lowReg x) s) e s :=
  storeVal_of_writeOk (by decide) h

/-- Settles O18: the pair through each kind of operand. -/
theorem pairTransfers64 : Obligations.PairTransfers64 := by
  unfold Obligations.PairTransfers64
  refine ⟨fun s x => ⟨fun m => loadPair_of_readOk, fun m => loadPair_of_readOk, fun a => ?_, fun b off => ?_⟩,
    fun s x => ⟨fun m => pairStore_of_writeOk x (evalAddr1 m s), fun m => pairStore_of_writeOk x (evalAddr2 m 8 s),
      fun a => pairStore_of_writeOk x (evalDirect a), fun b off => pairStore_of_writeOk x (evalIndexed b off s)⟩⟩
  all_goals exact loadPair_of_readOk (not_mem_sideRegs_plainAddr _ _) (not_mem_sideRegs_plainAddr _ _)

/-- ST.B0 to ST.B3, ST.W0 and ST.W1 through any operand (R394 to R399). -/
theorem laneStores_of_operand (v : Word) (e : EffAddr) (s : State) :
    (writeOk e.addr 1 s → StoresTo (storeVal 1 (laneOf 0 v) e s) 1 ((v.extractLsb' 0 8).setWidth 64) e s)
      ∧ (writeOk e.addr 1 s → StoresTo (storeVal 1 (laneOf 8 v) e s) 1 ((v.extractLsb' 8 8).setWidth 64) e s)
      ∧ (writeOk e.addr 1 s → StoresTo (storeVal 1 (laneOf 16 v) e s) 1 ((v.extractLsb' 16 8).setWidth 64) e s)
      ∧ (writeOk e.addr 1 s → StoresTo (storeVal 1 (laneOf 24 v) e s) 1 ((v.extractLsb' 24 8).setWidth 64) e s)
      ∧ (writeOk e.addr 2 s → StoresTo (storeVal 2 (laneOf 0 v) e s) 2 ((v.extractLsb' 0 16).setWidth 64) e s)
      ∧ (writeOk e.addr 2 s → StoresTo (storeVal 2 (laneOf 16 v) e s) 2 ((v.extractLsb' 16 16).setWidth 64) e s) :=
  ⟨laneStore_of_writeOk 0 v (by decide), laneStore_of_writeOk 8 v (by decide), laneStore_of_writeOk 16 v (by decide),
    laneStore_of_writeOk 24 v (by decide), laneStore_of_writeOk 0 v (by decide), laneStore_of_writeOk 16 v (by decide)⟩

/-- Settles O19: the six lanes through each kind of operand, and the two immediates. -/
theorem laneAndImmediateStores : Obligations.LaneAndImmediateStores := by
  unfold Obligations.LaneAndImmediateStores
  refine ⟨fun s r => ⟨fun m => laneStores_of_operand (readReg r s) (evalAddr1 m s) s,
    fun a => laneStores_of_operand (readReg r s) (evalDirect a) s,
    fun b off => laneStores_of_operand (readReg r s) (evalIndexed b off s) s⟩, fun s h v => ⟨fun m => ?_, fun m => ?_⟩⟩
  all_goals exact ⟨storeVal_of_writeOk (by decide), storeVal_of_writeOk (by decide)⟩

/-- Settles O20: the whole register through each kind of operand. -/
theorem wordStores : Obligations.WordStores := by
  unfold Obligations.WordStores
  intro s r
  exact ⟨fun m => wordStore_of_writeOk (readReg r s) (evalAddr1 m s), fun a => wordStore_of_writeOk (readReg r s) (evalDirect a),
    fun b off => wordStore_of_writeOk (readReg r s) (evalIndexed b off s),
    fun m => wordStore_of_writeOk (readReg r s) (evalAddr2 m 4 s)⟩

/-! ### Copies -/

theorem onlyRegsAndBytes_mono {l l' : List Reg} (hl : l ⊆ l') (h : onlyRegsAndBytes l a n s t) : onlyRegsAndBytes l' a n s t := by
  obtain ⟨hregs, hrest⟩ := h
  exact ⟨fun r hr => hregs r fun hm => hr (hl hm), hrest⟩

/-- A side effect stands where the other mode writes another register. -/
theorem sideDone_applySide_of_disjoint {d : EffAddr} (hdis : ∀ r ∈ sideRegs d, r ∉ sideRegs e) (h : sideDone e s) :
    sideDone e (applySide d s) := fun w hw => by
  have hmem : Reg.a w.1 ∉ sideRegs d := fun hd => hdis _ hd (by simp [sideRegs, hw])
  exact (curReg_applySide_of_not_mem (r := .a w.1) hmem).trans (h w hw)

/-- A copy that both its accesses let through (R400 to R404, D25). -/
theorem moveMem_of_ok {d : EffAddr} (hn : n ∣ 8) (hdis : ∀ r ∈ sideRegs d, r ∉ sideRegs e) (hr : readOk e.addr n s)
    (hw : writeOk d.addr n s) : MovesTo (moveMem n d e s) n d e s := by
  have ⟨halign, _⟩ := hw
  have hwrite := memWrite_of_writeOk d.addr n (oldValue n e.addr s) s hw
  have hsides := onlyRegs_trans (onlyRegs_applySide e (storeBytes d.addr n (oldValue n e.addr s) s)) (onlyRegs_applySide d _)
  refine ⟨_, by rw [moveMem, memRead_oldValue hr, andThen_next, hwrite]; rfl, fun k hk => ?_, sideDone_applySide _ _,
    sideDone_applySide_of_disjoint hdis (sideDone_applySide _ _), onlyRegsAndBytes_mono (by simp)
      (onlyRegsAndBytes_trans (onlyRegsAndBytes_of_memWrite hwrite rfl) (onlyRegsAndBytes_of_onlyRegs _ _ hsides))⟩
  rw [newByte, applySide_cur_mem, applySide_cur_mem, storeBytes_cur_mem, memByte_writeLE_byteOf _ _ _ (access_le_top hn halign) hk,
    byteOf_oldValue _ _ hn hk]

theorem addr_evalAddr3 (m : Addr3) (s : State) : (evalAddr3 m s).addr = s.pre.a[m.x] + 4 * m.imm.setWidth 32 := by
  obtain ⟨-, haddr3, -⟩ := addr2Addr3AndDirectModes
  rw [haddr3]

/-- Settles O23: a copy of each width, and the one through ADDR3, whose modes write no register. -/
theorem memoryMoves : Obligations.MemoryMoves := by
  unfold Obligations.MemoryMoves
  refine fun s => ⟨fun d m hdis => ⟨moveMem_of_ok (by decide) hdis, moveMem_of_ok (by decide) hdis, moveMem_of_ok (by decide) hdis,
    moveMem_of_ok (by decide) hdis⟩, fun d m => ?_⟩
  rw [← addr_evalAddr3, ← addr_evalAddr3]
  exact moveMem_of_ok (by decide) fun r _ => not_mem_sideRegs_plainAddr r _

/-! ### Read-modify-writes -/

/-- A read-modify-write that its accesses let through is a store of what is made of the old value (R410). -/
theorem modifyMem_of_ok {f : DWord → DWord} {v : DWord} (hn : n ∣ 8) (hv : f (oldValue n e.addr s) = v) (hr : readOk e.addr n s)
    (hw : writeOk e.addr n s) : StoresTo (modifyMem n f e s) n v e s := by
  rw [modifyMem, memRead_oldValue hr, ← hv]
  exact storeVal_of_writeOk hn hw

/-- OR, AND and XOR of a halfword or a byte with an immediate, through any operand (R410 to R419). -/
theorem updates_of_operand (h : Half) (v : Byte) (e : EffAddr) (s : State) :
    (readOk e.addr 2 s → writeOk e.addr 2 s →
        StoresTo (modifyMem 2 (fun w => w ||| h.setWidth 64) e s) 2 ((oldHalf s e.addr ||| h).setWidth 64) e s)
      ∧ (readOk e.addr 2 s → writeOk e.addr 2 s →
        StoresTo (modifyMem 2 (fun w => w &&& h.setWidth 64) e s) 2 ((oldHalf s e.addr &&& h).setWidth 64) e s)
      ∧ (readOk e.addr 2 s → writeOk e.addr 2 s →
        StoresTo (modifyMem 2 (fun w => w ^^^ h.setWidth 64) e s) 2 ((oldHalf s e.addr ^^^ h).setWidth 64) e s)
      ∧ (readOk e.addr 1 s → writeOk e.addr 1 s →
        StoresTo (modifyMem 1 (fun w => w ||| v.setWidth 64) e s) 1 ((oldByte s e.addr 0 ||| v).setWidth 64) e s)
      ∧ (readOk e.addr 1 s → writeOk e.addr 1 s →
        StoresTo (modifyMem 1 (fun w => w &&& v.setWidth 64) e s) 1 ((oldByte s e.addr 0 &&& v).setWidth 64) e s)
      ∧ (readOk e.addr 1 s → writeOk e.addr 1 s →
        StoresTo (modifyMem 1 (fun w => w ^^^ v.setWidth 64) e s) 1 ((oldByte s e.addr 0 ^^^ v).setWidth 64) e s) :=
  ⟨modifyMem_of_ok (by decide) (by simp [oldValue_two]), modifyMem_of_ok (by decide) (by simp [oldValue_two]),
    modifyMem_of_ok (by decide) (by simp [oldValue_two]), modifyMem_of_ok (by decide) (by simp [oldValue_one]),
    modifyMem_of_ok (by decide) (by simp [oldValue_one]), modifyMem_of_ok (by decide) (by simp [oldValue_one])⟩

/-- Settles O24: the three operations on a halfword and on a byte. -/
theorem readModifyWrites : Obligations.ReadModifyWrites := by
  unfold Obligations.ReadModifyWrites
  exact fun s m h v => updates_of_operand h v (evalAddr1 m s) s

end Sys2Proof.Proofs
end

section
/-! PROOFS. Register operations: O27, O29, O30, O31, O34. Each writes one register or pair, one field of a status register, or a register
with the sticky flags of ESTS. -/

namespace Sys2Proof.Proofs

open Sys2Proof.Machine Sys2Proof.Laws

variable {s t : State}

/-! ### Moves -/

theorem curReg_writeX_low (x : XReg) (v : DWord) (s : State) : curReg (writeX x v s) (lowReg x) = lowWord v := by
  rw [writeX, curReg_writeReg_of_ne _ _ (lowReg_ne_highReg x), curReg_writeReg_same]

theorem curReg_writeX_high (x : XReg) (v : DWord) (s : State) : curReg (writeX x v s) (highReg x) = highWord v := by
  rw [writeX, curReg_writeReg_same]

theorem lowWord_joinPair (hi lo : Word) : lowWord (joinPair hi lo) = lo := BitVec.setWidth_append_eq_right

theorem highWord_joinPair (hi lo : Word) : highWord (joinPair hi lo) = hi := by
  apply BitVec.eq_of_toNat_eq
  simp only [highWord, joinPair, BitVec.toNat_setWidth, BitVec.toNat_ushiftRight, toNat_concat, Nat.shiftRight_eq_div_pow]
  omega

/-- Settles O29: one register, or the two of a pair. -/
theorem registerMoves : Obligations.RegisterMoves := by
  unfold Obligations.RegisterMoves
  intro s r q x y i k
  refine ⟨setsReg_of_writeReg rfl, setsReg_of_writeReg rfl, setsReg_of_writeReg (r := .a k) rfl, writeX x (readX y s) s, rfl, ?low, ?high,
    onlyRegs_writeX x _ s⟩
  case low => rw [curReg_writeX_low, readX, lowWord_joinPair]
  case high => rw [curReg_writeX_high, readX, highWord_joinPair]

/-! ### Compares and tests -/

/-- The state with other status registers, after `n` free values. -/
def setStatus (n : Nat) (ds : Dsts) (es : Ests) (s : State) : State :=
  spend n { s with cur := { s.cur with dsts := ds, ests := es } }

theorem keepsAllButStatus_setStatus (n : Nat) (ds : Dsts) (es : Ests) (s : State) : keepsAllButStatus s (setStatus n ds es s) :=
  ⟨fun r _ => by cases r <;> rfl, keepsMemory_of_eq rfl rfl, rfl, rfl, by simp [keepsSystem, setStatus], rfl, rfl, rfl, rfl, rfl⟩

/-- Writing one bit of a four-bit field leaves the others. -/
theorem getLsbD_setBit4_of_ne (v : BitVec 4) {i j : Fin 4} (b : Bool) (h : j ≠ i) : (setBit4 v i b).getLsbD j.val = v.getLsbD j.val := by
  have hone : (1#4 <<< i.val).getLsbD j.val = false := by
    have hij : j.val < i.val ∨ j.val - i.val ≠ 0 := by have := Fin.val_ne_of_ne h; omega
    rcases hij with hlt | hne <;> simp [*]
  cases b with
  | true => rw [setBit4, if_pos rfl, BitVec.getLsbD_or, hone, Bool.or_false]
  | false => simp only [setBit4, Bool.false_eq_true, if_false, BitVec.getLsbD_and, BitVec.getLsbD_not, hone, j.isLt, decide_true, Bool.not_false,
      Bool.and_true]

/-- Writing a test flag leaves every other flag and everything else (R65, R75). -/
theorem writeTestFlag_frame (f : TestFlag) (b : Bool) (s : State) :
    keepsAllButStatus s (spend 1 (writeTestFlag f b s)) ∧ FlagFrame f s (spend 1 (writeTestFlag f b s)) := by
  cases f with
  | ta i => exact ⟨keepsAllButStatus_setStatus 1 _ s.cur.ests s, rfl, rfl, fun _ => getLsbD_setBit4_of_ne s.cur.dsts.ta b⟩
  | tdm i => exact ⟨keepsAllButStatus_setStatus 1 s.cur.dsts _ s, rfl, rfl, fun _ => getLsbD_setBit4_of_ne s.cur.ests.tdm b⟩

/-- Settles O30: each writes one field of one status register. -/
theorem comparesAndTestsWriteOneFlagField : Obligations.ComparesAndTestsWriteOneFlagField := by
  unfold Obligations.ComparesAndTestsWriteOneFlagField
  refine ⟨fun s y x v w => ⟨?cmpA, ?cmpD, ?cmpM⟩, fun s f => ⟨?tflg, ?tbit, ?az, ?dz, ?mzf⟩⟩
  case cmpA => exact ⟨_, rfl, rfl, rfl, keepsAllButStatus_setStatus 0 _ s.cur.ests s⟩
  case cmpD => exact ⟨_, rfl, rfl, rfl, keepsAllButStatus_setStatus 0 s.cur.dsts _ s⟩
  case cmpM => exact ⟨_, rfl, rfl, rfl, keepsAllButStatus_setStatus 0 s.cur.dsts _ s⟩
  case tflg => exact ⟨_, rfl, writeTestFlag_frame f (drawBit 0 s) s⟩
  case tbit => exact ⟨_, rfl, writeTestFlag_frame f (drawBit 0 s) s⟩
  case az => exact ⟨_, drawBit 0 s, rfl, keepsAllButStatus_setStatus 1 _ s.cur.ests s, rfl, rfl⟩
  case dz => exact ⟨_, drawBit 0 s, rfl, keepsAllButStatus_setStatus 1 s.cur.dsts _ s, rfl, rfl⟩
  case mzf => exact ⟨_, drawBit 0 s, rfl, keepsAllButStatus_setStatus 1 s.cur.dsts _ s, rfl, rfl⟩

/-! ### Circular and bit-reversed updates -/

/-- The steps of `rev32` shift the low `k` bits of `v` out of its low end into `acc`, so that the first of them ends highest. -/
theorem getLsbD_revSteps (k : Nat) (v acc : Word) {i : Nat} (hi : i < 32) :
    (revSteps k v acc).getLsbD i = if i < k then v.getLsbD (k - 1 - i) else acc.getLsbD (i - k) := by
  induction k generalizing v acc with
  | zero => simp [revSteps]
  | succ k ih =>
    rw [revSteps, ih]
    rcases Nat.lt_trichotomy i k with hlt | rfl | hgt
    · have hidx : 1 + (k - 1 - i) = k - i := by omega
      simp [hlt, hlt.trans (Nat.lt_succ_self k), hidx]
    · simp
    · have hfar : i - k ≠ 0 := by omega
      have hin : i - k < 32 := by omega
      have hidx : i - (k + 1) < 32 := by omega
      simp [Nat.not_lt.2 hgt.le, Nat.not_lt.2 (Nat.succ_le_of_lt hgt), hfar, hin, Nat.sub_sub, BitVec.getLsbD_eq_getElem hidx]

theorem getLsbD_rev32 (v : Word) {i : Nat} (hi : i < 32) : (rev32 v).getLsbD i = v.getLsbD (31 - i) := by
  rw [rev32, getLsbD_revSteps 32 v 0 hi, if_pos hi]

theorem readA_indexReg (y : Fin 4) (s : State) : readA (indexReg y) s = s.pre.a[y.val] := by
  simp [readA, indexReg_val]

theorem isNegative_eq_decide (v : Word) : isNegative v = decide (2147483648 ≤ v.toNat) := BitVec.msb_eq_decide v

theorem circDefined_of_lt {y x : Word} (hy : y.toNat < 2147483648) (hx : x.toNat < 2147483648) : circDefined y x = true := by
  simp [circDefined, isNegative_eq_decide, hy, hx]

/-- The successor of an index below 2^31, or 0 at its limit (R462). -/
theorem setsReg_incCirc (y : Fin 4) (x : Fin 16) (hy : s.pre.a[y.val].toNat < 2147483648) (hx : s.pre.a[x].toNat < 2147483648) :
    SetsReg (exec (.incCirc y x) s) (.a (indexReg y))
      (if s.pre.a[x].toNat ≤ s.pre.a[y.val].toNat then 0 else BitVec.ofNat 32 (s.pre.a[y.val].toNat + 1)) s := by
  have hexec : exec (.incCirc y x) s = execIncCirc y x s := rfl
  have hdef : circDefined s.pre.a[y.val] (readA x s) = true := circDefined_of_lt hy hx
  have hsucc : BitVec.ofNat 32 (s.pre.a[y.val].toNat + 1) = s.pre.a[y.val] + 1 := by bv_omega
  apply setsReg_of_writeReg
  rw [hexec, execIncCirc, readA_indexReg, if_pos hdef, hsucc]
  rfl

/-- The predecessor of an index below 2^31, or the limit at 0 (R463). -/
theorem setsReg_decCirc (y : Fin 4) (x : Fin 16) (hy : s.pre.a[y.val].toNat < 2147483648) (hx : s.pre.a[x].toNat < 2147483648) :
    SetsReg (exec (.decCirc y x) s) (.a (indexReg y))
      (if s.pre.a[y.val].toNat = 0 then s.pre.a[x] else BitVec.ofNat 32 (s.pre.a[y.val].toNat - 1)) s := by
  have hexec : exec (.decCirc y x) s = execDecCirc y x s := rfl
  have hdef : circDefined s.pre.a[y.val] (readA x s) = true := circDefined_of_lt hy hx
  have hstep : (if s.pre.a[y.val].toNat = 0 then s.pre.a[x] else BitVec.ofNat 32 (s.pre.a[y.val].toNat - 1))
      = if s.pre.a[y.val] = 0 then readA x s else s.pre.a[y.val] - 1 := by
    by_cases hzero : s.pre.a[y.val] = 0
    · rw [if_pos hzero, if_pos (by rw [hzero]; rfl)]; rfl
    · have hpos : s.pre.a[y.val].toNat ≠ 0 := fun h => hzero (BitVec.eq_of_toNat_eq h)
      rw [if_neg hzero, if_neg hpos]
      bv_omega
  apply setsReg_of_writeReg
  rw [hexec, execDecCirc, readA_indexReg, if_pos hdef, hstep]
  rfl

/-- Whatever the operands, a circular update writes its index register only (R464). -/
theorem setsReg_of_circ {o : Res State} {b : Bool} {r : Reg} {v w : Word}
    (h : o = if b then .next (writeReg r v s) else .next (spend 1 (writeReg r w s))) : ∃ v, SetsReg o r v s := by
  cases b with
  | true => exact ⟨v, setsReg_of_writeReg h⟩
  | false => exact ⟨w, _, h, curReg_writeReg_same r w s, onlyRegs_writeReg r w s⟩

/-- Settles O31: the two steps in range, some value out of it, and the bits of the reversal. -/
theorem circularAndBitReversedUpdates : Obligations.CircularAndBitReversedUpdates := by
  unfold Obligations.CircularAndBitReversedUpdates
  refine ⟨fun s y x => ⟨fun hy hx => ⟨setsReg_incCirc y x hy hx, setsReg_decCirc y x hy hx⟩, ?inc, ?dec⟩,
    fun v i hi => getLsbD_rev32 v hi, fun s z y x => setsReg_of_writeReg (r := .a z) rfl⟩
  case inc => exact setsReg_of_circ (r := .a (indexReg y)) rfl
  case dec => exact setsReg_of_circ (r := .a (indexReg y)) rfl

/-! ### A result with sticky flags -/

/-- A result in `r` with `es` in ESTS: what is left alone. -/
theorem writeReg_setStatus_frame {r : Reg} {v : Word} {n : Nat} {es : Ests} (ht : t = writeReg r v (setStatus n s.cur.dsts es s)) :
    keepsRegs [r] s t ∧ keepsMemory s t ∧ t.cur.dsts = s.cur.dsts ∧ t.cur.rpc = s.cur.rpc ∧ t.cur.ists = s.cur.ists
      ∧ keepsSystem s t ∧ keepsFlow s t := by
  subst ht
  obtain ⟨sregs, smem, srpc, sists, ssys, sflow⟩ := keepsAllButStatus_setStatus n s.cur.dsts es s
  obtain ⟨wregs, wmem, ⟨wdsts, -⟩, wrpc, wists, wsys, wflow⟩ := onlyRegs_writeReg r v (setStatus n s.cur.dsts es s)
  exact ⟨keepsRegs_trans sregs wregs, keepsMemory_trans smem wmem, wdsts, wrpc.trans srpc, wists.trans sists,
    keepsSystem_trans ssys wsys, keepsFlow_trans sflow wflow⟩

/-- A floating-point result keeps the sticky flags that are set (R73, D46). -/
theorem fpDone_writeReg (r : Reg) (v : Word) (s : State) : FpDone (.next (writeReg r v (setStickyFp s))) r v s := by
  have hset : setStickyFp s = setStatus 2 s.cur.dsts (recordFp (drawBit 0 s) (drawBit 1 s) s.cur.ests) s := rfl
  obtain ⟨hregs, hmem, hdsts, hrpc, hists, hsys, hflow⟩ := writeReg_setStatus_frame (r := r) (congrArg (writeReg r v) hset)
  have hests : (writeReg r v (setStickyFp s)).cur.ests = recordFp (drawBit 0 s) (drawBit 1 s) s.cur.ests := by cases r <;> rfl
  refine ⟨_, rfl, curReg_writeReg_same r v _, hregs, hmem, hdsts, hrpc, hists, hsys, hflow, ?_⟩
  rw [hests]
  exact ⟨rfl, fun h => by simp [recordFp, h], fun h => by simp [recordFp, h]⟩

/-- Settles O34: a result with the sticky flags for all but CRC. -/
theorem configuredArithmetic : Obligations.ConfiguredArithmetic := by
  unfold Obligations.ConfiguredArithmetic
  exact ⟨fun s z y x => ⟨fpDone_writeReg (.m z) _ s, fpDone_writeReg (.m z) _ s, fpDone_writeReg (.m z) _ s⟩,
    fun s z y x w v => ⟨setsReg_of_writeReg (r := .d z) rfl, fpDone_writeReg (.d z) _ s⟩⟩

/-! ### Sums -/

theorem recordOverflow_cases (sets neg : Bool) (es : Ests) :
    recordOverflow sets neg es = es ∨ (es.ov = false ∧ recordOverflow sets neg es = { es with ov := true, ovneg := neg }) := by
  cases sets with
  | false => exact .inl (by simp [recordOverflow])
  | true =>
    cases hov : es.ov with
    | true => exact .inl (by cases es; cases hov; rfl)
    | false => exact .inr ⟨rfl, by simp [recordOverflow, hov]⟩

/-- A Dx sum writes its register, and ESTS only where it does not fit and D.OV is clear (R453, R73). -/
theorem writeSum_d_eq (z : Fin 16) (v : Word) (o neg : Bool) (s : State) :
    ∃ n es, writeSum .d z v o neg s = writeReg (.d z) v (setStatus n s.cur.dsts es s)
      ∧ (es = s.cur.ests ∨ (o = true ∧ s.cur.ests.ov = false ∧ es = { s.cur.ests with ov := true, ovneg := neg })) := by
  cases o with
  | false => exact ⟨0, s.cur.ests, rfl, .inl rfl⟩
  | true => exact ⟨1, _, rfl, (recordOverflow_cases (drawBit 0 s) neg s.cur.ests).imp_right fun h => ⟨rfl, h⟩⟩

/-- A word holds every exact value in its signed range. -/
theorem toInt_ofInt_of_range {k : Int} (h1 : -2147483648 ≤ k) (h2 : k < 2147483648) : (BitVec.ofInt 32 k).toInt = k := by
  rw [BitVec.toInt_ofInt]
  exact Int.bmod_eq_of_le (by simpa using h1) (by simpa using h2)

theorem isNegative_eq_toInt_lt (v : Word) : isNegative v = decide (v.toInt < 0) := BitVec.msb_eq_toInt

/-- A Dx sum that is `y` and a second operand: where the exact value does not fit, its sign is that of `y`. -/
theorem sumDone_writeSum (z : Fin 16) {v y : Word} {k : Int} {o : Bool} (s : State) (hv : v = BitVec.ofInt 32 k)
    (ho : o = true → v.toInt ≠ k) (hlo : y.toInt - 2147483648 ≤ k) (hhi : k ≤ y.toInt + 2147483648) :
    SumDone (.next (writeSum .d z v o (isNegative y) s)) z k s := by
  obtain ⟨n, es, hsum, hes⟩ := writeSum_d_eq z v o (isNegative y) s
  obtain ⟨hregs, hmem, hdsts, hrpc, hists, hsys, hflow⟩ := writeReg_setStatus_frame hsum
  have hval : (writeSum .d z v o (isNegative y) s).cur.d[z] = BitVec.ofInt 32 k := by
    rw [hsum, ← hv]
    exact curReg_writeReg_same (.d z) v _
  have hests : (writeSum .d z v o (isNegative y) s).cur.ests = es := by rw [hsum]; rfl
  refine ⟨_, rfl, hval, hregs, hmem, hdsts, hrpc, hists, hsys, hflow,
    hests ▸ hes.imp_right fun ⟨hover, hov, hset⟩ => ?_⟩
  have hfar : ¬ (-2147483648 ≤ k ∧ k < 2147483648) := fun h => ho hover (hv ▸ toInt_ofInt_of_range h.1 h.2)
  have hsign : isNegative y = decide (k < 0) := by
    rw [isNegative_eq_toInt_lt]
    exact decide_eq_decide.2 (by omega)
  exact ⟨hfar, hov, hsign ▸ hset⟩

theorem sumDone_addTo (z : Fin 16) (y x : Word) (s : State) : SumDone (.next (addTo .d z y x s)) z (y.toInt + x.toInt) s := by
  have hlo := BitVec.le_toInt x
  have hhi := BitVec.toInt_lt (x := x)
  have hv : y + x = BitVec.ofInt 32 (y.toInt + x.toInt) := by simp [BitVec.ofInt_add]
  exact sumDone_writeSum z s hv of_decide_eq_true (by omega) (by omega)

theorem sumDone_subTo (z : Fin 16) (y x : Word) (s : State) : SumDone (.next (subTo .d z y x s)) z (y.toInt - x.toInt) s := by
  have hlo := BitVec.le_toInt x
  have hhi := BitVec.toInt_lt (x := x)
  have hv : y - x = BitVec.ofInt 32 (y.toInt - x.toInt) := by
    simp [Int.sub_eq_add_neg, BitVec.sub_eq_add_neg, BitVec.ofInt_add, BitVec.ofInt_neg]
  exact sumDone_writeSum z s hv of_decide_eq_true (by omega) (by omega)

theorem setsReg_addTo (z : Fin 16) (y x : Word) (s : State) :
    SetsReg (.next (addTo .a z y x s)) (.a z) (BitVec.ofNat 32 (y.toNat + x.toNat)) s :=
  BitVec.add_def y x ▸ setsReg_of_writeReg (r := .a z) rfl

theorem setsReg_subTo (z : Fin 16) (y x : Word) (s : State) :
    SetsReg (.next (subTo .a z y x s)) (.a z) (BitVec.ofNat 32 (y.toNat + 4294967296 - x.toNat)) s := by
  have hsub : BitVec.ofNat 32 (y.toNat + 4294967296 - x.toNat) = y - x := by bv_omega
  exact hsub ▸ setsReg_of_writeReg (r := .a z) rfl

/-- The operands of SUB Rz,Ry,Rx in the order the configuration says (R454). -/
theorem exec_subReg_yMinusX (b : IBank) (z y x : Fin 16) (h : s.cfg.subOrder = .yMinusX) :
    exec (.subReg b z y x) s = .next (subTo b z (readReg (bankReg b y) s) (readReg (bankReg b x) s) s) := by
  change execSubReg b z y x s = _
  rw [execSubReg, h]

theorem exec_subReg_xMinusY (b : IBank) (z y x : Fin 16) (h : s.cfg.subOrder = .xMinusY) :
    exec (.subReg b z y x) s = .next (subTo b z (readReg (bankReg b x) s) (readReg (bankReg b y) s) s) := by
  change execSubReg b z y x s = _
  rw [execSubReg, h]

/-- A zero-extended halfword is the number it holds, unsigned and signed. -/
theorem toNat_zext32_half (u : Half) : (zext32 u).toNat = u.toNat := BitVec.toNat_setWidth_of_le (by decide)

theorem toInt_zext32_half (u : Half) : (zext32 u).toInt = (u.toNat : Int) := by
  rw [BitVec.toInt_eq_toNat_of_lt (by rw [toNat_zext32_half]; omega), toNat_zext32_half]

/-- Settles O27: the sums of each bank, an immediate as a word. -/
theorem addAndSub : Obligations.AddAndSub := by
  unfold Obligations.AddAndSub
  refine ⟨fun s z y x u => ?onA, fun s z y x u => ?onD⟩
  case onA =>
    rw [← toNat_zext32_half u]
    exact ⟨setsReg_addTo z _ _ s, setsReg_subTo z _ _ s, setsReg_addTo z _ _ s, setsReg_subTo z _ _ s, setsReg_addTo z _ _ s,
      fun h => exec_subReg_yMinusX .a z y x h ▸ setsReg_subTo z _ _ s, fun h => exec_subReg_xMinusY .a z y x h ▸ setsReg_subTo z _ _ s⟩
  case onD =>
    rw [← toInt_zext32_half u]
    exact ⟨sumDone_addTo z _ _ s, sumDone_subTo z _ _ s, sumDone_addTo z _ _ s,
      fun h => exec_subReg_yMinusX .d z y x h ▸ sumDone_subTo z _ _ s, fun h => exec_subReg_xMinusY .d z y x h ▸ sumDone_subTo z _ _ s⟩

end Sys2Proof.Proofs
end

section
/-! PROOFS. The interrupt latches and the reports: no instruction sets or clears a latch, and no report is taken back. One lemma for each shared
operation, then `exec` and the packet. -/

namespace Sys2Proof.Proofs

open Sys2Proof.Machine Sys2Proof.Laws

variable {s t u : State} {is : List Instr} {fin : Nat}

/-- The latches of the three interrupt lines (R101). -/
def linesOf (c : Arch) : Bool × Option RtRequest × Option IntRequest := (c.nmiPending, c.rtintPending, c.intPending)

theorem keepsLatches_iff : keepsLatches s t ↔ linesOf t.cur = linesOf s.cur := by simp [keepsLatches, linesOf]

/-- The latches are as they were, and what was reported stays reported. -/
def keepsSignals (s t : State) : Prop := linesOf t.cur = linesOf s.cur ∧ s.outputs <:+ t.outputs

theorem keepsSignals_refl (s : State) : keepsSignals s s := ⟨rfl, List.suffix_refl _⟩

theorem keepsSignals_trans (h : keepsSignals s t) (g : keepsSignals t u) : keepsSignals s u := ⟨g.1.trans h.1, h.2.trans g.2⟩

/-! ### Operations that always answer -/

theorem emit_keepsSignals (o : Output) (s : State) : keepsSignals s (emit o s) := ⟨rfl, List.suffix_cons _ _⟩

theorem raise_keepsSignals (c : Cause) (s : State) : keepsSignals s (raise c s) := by
  unfold raise
  split
  · exact keepsSignals_refl s
  · exact ⟨rfl, List.suffix_cons _ _⟩

theorem raiseIf_keepsSignals (b : Bool) (c : Cause) (s : State) : keepsSignals s (raiseIf b c s) := by
  cases b
  · exact keepsSignals_refl s
  · exact raise_keepsSignals c s

theorem checkSp_keepsSignals (s : State) : keepsSignals s (checkSp s) := raiseIf_keepsSignals _ _ _

theorem checkTransfer_keepsSignals (target : Word) (s : State) : keepsSignals s (checkTransfer target s) := by
  unfold checkTransfer
  split
  · exact keepsSignals_refl s
  · exact raiseIf_keepsSignals _ _ _

theorem writeReg_keepsSignals (r : Reg) (v : Word) (s : State) : keepsSignals s (writeReg r v s) := by cases r <;> exact keepsSignals_refl s

theorem writeX_keepsSignals (x : XReg) (v : DWord) (s : State) : keepsSignals s (writeX x v s) :=
  keepsSignals_trans (writeReg_keepsSignals _ _ _) (writeReg_keepsSignals _ _ _)

theorem applySide_keepsSignals (e : EffAddr) (s : State) : keepsSignals s (applySide e s) := by
  unfold applySide
  split <;> exact keepsSignals_refl s

theorem writeStatus_keepsSignals (q : StatusReg) (v : Word) (s : State) : keepsSignals s (writeStatus q v s) := by
  cases q <;> exact keepsSignals_refl s

theorem writeSum_keepsSignals (b : IBank) (z : Fin 16) (v : Word) (o neg : Bool) (s : State) : keepsSignals s (writeSum b z v o neg s) := by
  cases b <;> cases o <;> exact keepsSignals_refl s

theorem writeTestDst_keepsSignals (d : TestDst) (b : Bool) (s : State) : keepsSignals s (spend 1 (writeTestDst d b s)) := by
  rcases d with f | _ | _ | _
  · cases f <;> exact keepsSignals_refl s
  all_goals exact keepsSignals_refl s

theorem scrambleWork_keepsSignals (s : State) : keepsSignals s (scrambleWork s) := ⟨rfl, List.suffix_refl _⟩

theorem swapStacks_keepsSignals (src dst : StackId) (pushed : Option Word) (s : State) : keepsSignals s (swapStacks src dst pushed s) := by
  obtain ⟨-, -, e⟩ | ⟨sp, -, -, e⟩ | ⟨-, e⟩ := swapStacks_cases src dst pushed s <;> rw [e] <;> exact keepsSignals_refl s

theorem pushProt_keepsSignals (f : ProtFrame) (s : State) : keepsSignals s (pushProt f s) := by
  unfold pushProt
  split
  · split
    · exact ⟨rfl, List.suffix_cons _ _⟩
    · exact keepsSignals_refl s
  · exact keepsSignals_refl s

/-! ### Operations that may stop -/

theorem stopUnlessFaulted_keepsSignals {r : Refusal} (h : stopUnlessFaulted r s = .next t) : keepsSignals s t := by
  unfold stopUnlessFaulted at h
  split at h <;> cases h
  exact keepsSignals_refl s

/-- An access that the SSU denies reports it and faults (R515). -/
theorem denied_keepsSignals (a : Word) (s : State) : keepsSignals s (raise .protectionViolation (emit (.accessError a.toNat) s)) :=
  keepsSignals_trans (emit_keepsSignals _ s) (raise_keepsSignals _ _)

theorem memRead_keepsSignals {a : Word} {n : Nat} {v : DWord} (h : memRead a n s = .next (v, t)) : keepsSignals s t := by
  simp only [memRead] at h
  split at h
  · cases h; exact raise_keepsSignals _ s
  · split at h
    · cases h; exact denied_keepsSignals a s
    · split at h
      · split at h <;> cases h
        exact keepsSignals_refl s
      · cases h; exact emit_keepsSignals _ s
      · cases h; exact keepsSignals_refl s

theorem memWrite_keepsSignals {a : Word} {n : Nat} {v : DWord} (h : memWrite a n v s = .next t) : keepsSignals s t := by
  have hfree : keepsSignals s (storeFree a n v s) := by
    obtain e | e := storeFree_cases a n v s <;> rw [e] <;> exact keepsSignals_refl s
  simp only [memWrite] at h
  split at h
  · cases h; exact raise_keepsSignals _ s
  · split at h
    · cases h; exact denied_keepsSignals a s
    · split at h
      · split at h <;> cases h
        exact keepsSignals_refl s
      · cases h; exact emit_keepsSignals _ s
      · cases h; exact hfree
      · cases h; exact hfree
      all_goals cases h; exact keepsSignals_refl s

theorem scribble_keepsSignals {a : Word} {n : Nat} (h : scribble a n s = .next t) : keepsSignals s t := by
  induction n generalizing a s with
  | zero => cases h; exact keepsSignals_refl _
  | succ n ih =>
    simp only [scribble] at h
    split at h
    · cases h; exact denied_keepsSignals a s
    · split at h
      · split at h <;> cases h
        exact keepsSignals_refl _
      all_goals
        have hn := ih h
        exact hn

theorem pushFrame_keepsSignals {sp v : Word} {n : Nat} (h : pushFrame sp n v s = .next t) : keepsSignals s t := by
  obtain ⟨u, hu, ht⟩ := andThen_eq_next h
  refine keepsSignals_trans (memWrite_keepsSignals hu) ?_
  split at ht
  · exact scribble_keepsSignals ht
  · cases ht; exact keepsSignals_refl _

theorem jumpTo_keepsSignals {delay : Fin 8} {late : Late} {target : Word} (h : jumpTo delay late target s = .next t) : keepsSignals s t := by
  obtain ⟨-, rfl, -⟩ | ⟨-, -, rfl⟩ | ⟨-, -, rfl⟩ := jumpTo_next _ _ _ _ _ h <;> exact keepsSignals_refl _

/-- A read, and what is done with its value. -/
theorem keepsSignals_of_read {a : Word} {n : Nat} {k : DWord × State → State} (h : andThen (memRead a n s) (fun v => .next (k v)) = .next t)
    (hk : ∀ v, keepsSignals v.2 (k v)) : keepsSignals s t := by
  obtain ⟨v, hv, ht⟩ := andThen_eq_next h
  cases ht
  exact keepsSignals_trans (memRead_keepsSignals hv) (hk v)

theorem loadReg_keepsSignals {n : Nat} {f : Word → DWord → Word} {r : Reg} {e : EffAddr} (h : loadReg n f r e s = .next t) :
    keepsSignals s t :=
  keepsSignals_of_read h fun _ => keepsSignals_trans (writeReg_keepsSignals _ _ _) (applySide_keepsSignals _ _)

theorem loadPair_keepsSignals {x : XReg} {e : EffAddr} (h : loadPair x e s = .next t) : keepsSignals s t :=
  keepsSignals_of_read h fun _ => keepsSignals_trans (writeX_keepsSignals _ _ _) (applySide_keepsSignals _ _)

theorem storeVal_keepsSignals {n : Nat} {v : DWord} {e : EffAddr} (h : storeVal n v e s = .next t) : keepsSignals s t := by
  obtain ⟨u, hu, ht⟩ := andThen_eq_next h
  cases ht
  exact keepsSignals_trans (memWrite_keepsSignals hu) (applySide_keepsSignals _ _)

theorem moveMem_keepsSignals {n : Nat} {dst src : EffAddr} (h : moveMem n dst src s = .next t) : keepsSignals s t := by
  obtain ⟨v, hv, ht⟩ := andThen_eq_next h
  obtain ⟨u, hu, ht⟩ := andThen_eq_next ht
  cases ht
  exact keepsSignals_trans (memRead_keepsSignals hv) (keepsSignals_trans (memWrite_keepsSignals hu)
    (keepsSignals_trans (applySide_keepsSignals _ _) (applySide_keepsSignals _ _)))

theorem modifyMem_keepsSignals {n : Nat} {f : DWord → DWord} {e : EffAddr} (h : modifyMem n f e s = .next t) : keepsSignals s t := by
  obtain ⟨v, hv, ht⟩ := andThen_eq_next h
  exact keepsSignals_trans (memRead_keepsSignals hv) (storeVal_keepsSignals ht)

theorem callTo_keepsSignals {target : Word} {delay : Fin 8} (h : callTo target delay s = .next t) : keepsSignals s t := by
  obtain ⟨u, hu, ht⟩ := andThen_eq_next h
  have hc := keepsSignals_trans (checkSp_keepsSignals s) (checkTransfer_keepsSignals target _)
  refine keepsSignals_trans hc (keepsSignals_trans (pushFrame_keepsSignals hu) (keepsSignals_trans ?_ (jumpTo_keepsSignals ht)))
  split <;> exact keepsSignals_refl u

theorem returnTo_keepsSignals {delay : Fin 8} (h : returnTo delay s = .next t) : keepsSignals s t := by
  obtain ⟨v, hv, ht⟩ := andThen_eq_next h
  have hc := keepsSignals_trans (checkSp_keepsSignals s) (checkTransfer_keepsSignals s.pre.rpc _)
  have hw : keepsSignals v.2 (writeSp (readSp s - 8) (writeRpc (lowWord v.1) v.2)) := keepsSignals_refl v.2
  exact keepsSignals_trans hc (keepsSignals_trans (memRead_keepsSignals hv) (keepsSignals_trans hw (jumpTo_keepsSignals ht)))

theorem branchTo_keepsSignals {target : Word} {delay : Fin 8} (h : branchTo target delay s = .next t) : keepsSignals s t :=
  keepsSignals_trans (checkTransfer_keepsSignals target s) (jumpTo_keepsSignals h)

theorem enterProtected_keepsSignals {target : Word} {pushed : Option Word} (h : enterProtected target pushed s = .next t) :
    keepsSignals s t := by
  have hs : keepsSignals s (swapStacks (stackOf s.cfg s.pre.ists.currlink) (targetStack target s) pushed (scrambleWork s)) :=
    keepsSignals_trans (scrambleWork_keepsSignals s) (swapStacks_keepsSignals _ _ _ _)
  simp only [enterProtected] at h
  generalize swapStacks (stackOf s.cfg s.pre.ists.currlink) (targetStack target s) pushed (scrambleWork s) = u at h hs
  have hj := jumpTo_keepsSignals h
  exact keepsSignals_trans hs hj

theorem callProt_keepsSignals {target : Word} (h : callProt target s = .next t) : keepsSignals s t := by
  obtain ⟨u, hu, ht⟩ := andThen_eq_next h
  have hk := keepsSignals_trans (checkSp_keepsSignals s) (keepsSignals_trans (raiseIf_keepsSignals _ _ _) (pushFrame_keepsSignals hu))
  have hp : keepsSignals u _ := keepsSignals_trans (pushProt_keepsSignals _ (writeRpc s.pkt.seqPc u)) (enterProtected_keepsSignals ht)
  exact keepsSignals_trans hk hp

theorem returnProt_keepsSignals (h : returnProt s = .next t) : keepsSignals s t := by
  unfold returnProt at h
  split at h
  · exact keepsSignals_trans (checkSp_keepsSignals s) (stopUnlessFaulted_keepsSignals h)
  · simp only at h
    split at h
    · exact keepsSignals_trans (checkSp_keepsSignals s) (stopUnlessFaulted_keepsSignals h)
    · obtain ⟨v, hv, ht⟩ := andThen_eq_next h
      have h1 : keepsSignals s (writeRpc (lowWord v.1) (scrambleWork v.2)) := keepsSignals_trans (checkSp_keepsSignals s)
        (keepsSignals_trans (memRead_keepsSignals hv) (scrambleWork_keepsSignals v.2))
      generalize writeRpc (lowWord v.1) (scrambleWork v.2) = u at h1 ht
      refine keepsSignals_trans h1 (keepsSignals_trans ?_ (jumpTo_keepsSignals ht))
      split <;> exact keepsSignals_refl u

theorem returnInt_keepsSignals {delay : Fin 8} (h : returnInt delay s = .next t) : keepsSignals s t := by
  unfold returnInt at h
  split at h
  · obtain ⟨v, hv, ht⟩ := andThen_eq_next h
    have hc := keepsSignals_trans (checkSp_keepsSignals s) (checkTransfer_keepsSignals s.pre.rpc _)
    have hj := jumpTo_keepsSignals ht
    exact keepsSignals_trans hc (keepsSignals_trans (memRead_keepsSignals hv) hj)
  · exact stopUnlessFaulted_keepsSignals h

theorem returnRealtime_keepsSignals {delay : Fin 8} (h : returnRealtime delay s = .next t) : keepsSignals s t := by
  unfold returnRealtime at h
  split at h
  · exact stopUnlessFaulted_keepsSignals h
  · have hj := jumpTo_keepsSignals h
    exact hj

/-! ### Instructions whose meaning branches -/

theorem execAtomic_keepsSignals {n : BitVec 8} (h : execAtomic n s = .next t) : keepsSignals s t := by
  unfold execAtomic at h
  split_ifs at h
  · exact stopUnlessFaulted_keepsSignals h
  all_goals cases h; exact keepsSignals_refl s

theorem execBranch_keepsSignals {target : BrTarget} {c : Cond} {delay : Fin 8} (h : execBranch target c delay s = .next t) :
    keepsSignals s t := by
  unfold execBranch at h
  split_ifs at h
  · exact branchTo_keepsSignals h
  · cases h; exact keepsSignals_refl s

theorem execBcmpz_keepsSignals {label : Word} {c : DCond} {x : Fin 16} {delay : Fin 8} (h : execBcmpz label c x delay s = .next t) :
    keepsSignals s t := by
  have hf : keepsSignals s (bcmpzFlags (readD x s) s) := keepsSignals_refl s
  unfold execBcmpz at h
  split_ifs at h
  · exact keepsSignals_trans hf (branchTo_keepsSignals h)
  · cases h; exact hf

theorem execStatusOp_keepsSignals {op : StatusOp} (h : execStatusOp op s = .next t) : keepsSignals s t := by
  cases op with
  | load r m => exact keepsSignals_of_read h fun _ => keepsSignals_trans (writeStatus_keepsSignals _ _ _) (applySide_keepsSignals _ _)
  | store r m => exact storeVal_keepsSignals h
  | toReg r dst => cases h; exact writeReg_keepsSignals _ _ _
  | ofReg | andImm | orImm => cases h; exact writeStatus_keepsSignals _ _ _

theorem execSubReg_keepsSignals {b : IBank} {z y x : Fin 16} (h : execSubReg b z y x s = .next t) : keepsSignals s t := by
  unfold execSubReg at h
  split at h <;> cases h <;> exact writeSum_keepsSignals _ _ _ _ _ _

theorem execMvReg_keepsSignals {op : MvRegs} (h : execMvReg op s = .next t) : keepsSignals s t := by
  cases op <;> cases h
  · exact writeReg_keepsSignals _ _ _
  · exact writeX_keepsSignals _ _ _

theorem execCmp_keepsSignals {op : CmpRegs} (h : execCmp op s = .next t) : keepsSignals s t := by
  cases op <;> cases h <;> exact keepsSignals_refl s

theorem execIncCirc_keepsSignals {y : Fin 4} {x : Fin 16} (h : execIncCirc y x s = .next t) : keepsSignals s t := by
  simp only [execIncCirc] at h
  split at h <;> cases h <;> exact keepsSignals_refl s

theorem execDecCirc_keepsSignals {y : Fin 4} {x : Fin 16} (h : execDecCirc y x s = .next t) : keepsSignals s t := by
  simp only [execDecCirc] at h
  split at h <;> cases h <;> exact keepsSignals_refl s

/-! ### All instructions -/

/-- An EMUSTOP0 has halted before the packet: the state is that of before it, no report is lost, and the debugger does not let the CPU run
free (R296, R585). -/
def haltsBefore (s t : State) : Prop :=
  s.dbg.mode ≠ .freeRun ∧ t.cur = s.pre ∧ s.outputs <:+ t.outputs ∧ t.pkt.halted = true
    ∧ t.dbg = { s.dbg with mode := .halt, haltPending := false }

/-- An instruction keeps the latches, the reports and the debugger's side, or is an EMUSTOP0 that halts before its packet. -/
theorem exec_signals {i : Instr} (h : exec i s = .next t) : (keepsSignals s t ∧ t.dbg = s.dbg) ∨ haltsBefore s t := by
  by_cases hb : i = .emustop0 → breakArmed s = false
  case neg =>
    obtain ⟨rfl, ha⟩ := Classical.not_imp.1 hb
    rw [Bool.not_eq_false] at ha
    obtain ⟨-, hm, -⟩ := (breakArmed_iff s).1 ha
    cases (if_pos ha).symm.trans h
    exact .inr ⟨hm, rfl, List.suffix_refl _, rfl, rfl⟩
  obtain ⟨-, -, -, hd⟩ := exec_changes h hb
  refine .inl ⟨?_, hd⟩
  cases i with
  | add32Addr1 | addS16Addr1 | addS8Addr1 | andU16Addr1 | andU8Addr1 | andorB0Addr1 | andorW0Addr1 | mvU16Addr1 | mvU8Addr1 | retAddr1
    | s16tofAddr1 | sub32Addr1 | subS16Addr1 | subS8Addr1 | subr32Addr1 | subrS16Addr1 | subrS8Addr1 | u16tofAddr1 | and32Addr2
    | andorAddr2 | mv16Addr2 | mv32Addr2 | mv64Addr2 | mv8Addr2 | or32Addr2 | xor32Addr2 | s16tofDirm | s16tofDirmIx | u16tofDirm
    | u16tofDirmIx | preserve | xc | xcp | eccselftest => cases h
  | and16Addr1 m v => exact modifyMem_keepsSignals (show execAnd16Addr1 m v s = .next t from h)
  | and8Addr1 m v => exact modifyMem_keepsSignals (show execAnd8Addr1 m v s = .next t from h)
  | or16Addr1 m v => exact modifyMem_keepsSignals (show execOr16Addr1 m v s = .next t from h)
  | or8Addr1 m v => exact modifyMem_keepsSignals (show execOr8Addr1 m v s = .next t from h)
  | xor16Addr1 m v => exact modifyMem_keepsSignals (show execXor16Addr1 m v s = .next t from h)
  | xor8Addr1 m v => exact modifyMem_keepsSignals (show execXor8Addr1 m v s = .next t from h)
  | ld32Addr1 | ldB0Addr1 | ldB1Addr1 | ldB2Addr1 | ldB3Addr1 | ldS16Addr1 | ldS8Addr1 | ldU16Addr1 | ldU8Addr1 | ldW0Addr1
    | ldW1Addr1 | ld32Addr2 | ld32Dirm | ld32DirmIx | ldB0Dirm | ldB0DirmIx | ldB1Dirm | ldB1DirmIx | ldB2Dirm | ldB2DirmIx | ldB3Dirm
    | ldB3DirmIx | ldS16Dirm | ldS16DirmIx | ldS8Dirm | ldS8DirmIx | ldU16Dirm | ldU16DirmIx | ldU8Dirm | ldU8DirmIx | ldW0Dirm
    | ldW0DirmIx | ldW1Dirm | ldW1DirmIx => exact loadReg_keepsSignals h
  | ld64Addr1 | ld64Addr2 | ld64Dirm | ld64DirmIx => exact loadPair_keepsSignals h
  | mv16Addr1 | mv32Addr1 | mv64Addr1 | mv8Addr1 | mv32Addr3 => exact moveMem_keepsSignals h
  | st16Addr1 | st32Addr1 | st64Addr1 | st8Addr1 | stB0Addr1 | stB1Addr1 | stB2Addr1 | stB3Addr1 | stW0Addr1 | stW1Addr1 | st16Addr2
    | st32Addr2 | st64Addr2 | st8Addr2 | st32Dirm | st32DirmIx | st64Dirm | st64DirmIx | stB0Dirm | stB0DirmIx | stB1Dirm | stB1DirmIx
    | stB2Dirm | stB2DirmIx | stB3Dirm | stB3DirmIx | stW0Dirm | stW0DirmIx | stW1Dirm | stW1DirmIx => exact storeVal_keepsSignals h
  | callLabel | callReg => exact callTo_keepsSignals h
  | ret => exact returnTo_keepsSignals h
  | branch => exact execBranch_keepsSignals h
  | bcmpz => exact execBcmpz_keepsSignals h
  | callProtLabel | callProtReg => exact callProt_keepsSignals h
  | lbProt => exact enterProtected_keepsSignals h
  | retProt => exact returnProt_keepsSignals h
  | retiInt | retiIntD => exact returnInt_keepsSignals h
  | retiRtint | retiRtintD => exact returnRealtime_keepsSignals h
  | emustop0 =>
    cases ((execEmustop0_cases s).resolve_right fun g => by simp [hb rfl] at g).2.symm.trans h
    exact keepsSignals_refl _
  | entry1Prot | entry2Prot | exitProt | enint | disint | isr1Prot | isr2Prot | idle | movRpc | nop | addU16 | subU16 | addBitrev
    | ftos16 | crc | smpyf | saddf | addf => cases h; exact keepsSignals_refl s
  | atomic => exact execAtomic_keepsSignals h
  | ldRpc => exact keepsSignals_of_read h fun v => keepsSignals_refl v.2
  | statusOp => exact execStatusOp_keepsSignals h
  | addImm | addReg | subImm => cases h; exact writeSum_keepsSignals _ _ _ _ _ _
  | subReg => exact execSubReg_keepsSignals h
  | mvImm => cases h; exact writeReg_keepsSignals _ _ _
  | mvReg => exact execMvReg_keepsSignals h
  | cmp => exact execCmp_keepsSignals h
  | tbit => cases h; exact writeTestDst_keepsSignals _ _ _
  | tflg => cases h; exact writeTestDst_keepsSignals (.flag _) _ _
  | incCirc => exact execIncCirc_keepsSignals h
  | decCirc => exact execDecCirc_keepsSignals h

/-! ### The packet -/

/-- The packet has not touched the latches so far. -/
def latchesUntouched (s : State) : Prop := linesOf s.cur = linesOf s.pre

theorem latchesUntouched_of_keepsSignals (h : keepsSignals s t) (hp : t.pre = s.pre) (hs : latchesUntouched s) : latchesUntouched t := by
  rw [latchesUntouched, h.1, hp]
  exact hs

/-- The instructions of a packet one after another, up to an EMUSTOP0 that halts before it. -/
theorem execAll_signals (h : execAll is s = .next t) : (keepsSignals s t ∧ t.dbg = s.dbg) ∨ haltsBefore s t := by
  induction is generalizing s with
  | nil => cases h; exact .inl ⟨keepsSignals_refl _, rfl⟩
  | cons i is ih =>
    simp only [execAll] at h
    split at h
    · cases h; exact .inl ⟨keepsSignals_refl _, rfl⟩
    · obtain ⟨u, hu, ht⟩ := andThen_eq_next h
      obtain ⟨hpre, -⟩ := exec_keepsContext hu
      obtain ⟨hk, hd⟩ | ⟨hm, hc, ho, hh, hd⟩ := exec_signals hu
      · obtain ⟨gk, gd⟩ | ⟨gm, gc, go, gh, gd⟩ := ih ht
        · exact .inl ⟨keepsSignals_trans hk gk, gd.trans hd⟩
        · exact .inr ⟨hd ▸ gm, gc.trans hpre, hk.2.trans go, gh, hd ▸ gd⟩
      · obtain rfl : t = u := by
          cases is with
          | nil => cases ht; rfl
          | cons j js => simp only [execAll, hh, if_true] at ht; cases ht; rfl
        exact .inr ⟨hm, hc, ho, hh, hd⟩

/-- A packet before which the CPU halts keeps the latches as well. -/
theorem execAll_keepsSignals (h : execAll is s = .next t) (hs : latchesUntouched s) : keepsSignals s t := by
  obtain ⟨hk, -⟩ | ⟨-, hc, ho, -⟩ := execAll_signals h
  · exact hk
  · exact ⟨by rw [hc]; exact hs.symm, ho⟩

theorem scrambleLate_keepsSignals (is : List Instr) (s : State) : keepsSignals s (scrambleLate is s) := by
  unfold scrambleLate
  split
  · exact scrambleWork_keepsSignals s
  · exact keepsSignals_refl s

theorem stickyLate_keepsSignals (is : List Instr) (s : State) : keepsSignals s (stickyLate is s) := by
  obtain ⟨_, _, _, _, _, e, -⟩ := stickyLate_cases is s
  rw [e]
  exact keepsSignals_refl s

theorem countDelay_keepsSignals (s : State) : keepsSignals s (countDelay s) := by
  obtain ⟨-, e⟩ | ⟨p, -, -, e⟩ | ⟨p, -, -, e⟩ := countDelay_cases s <;> rw [e]
  · exact keepsSignals_refl s
  · cases p.late <;> exact keepsSignals_refl s
  · exact keepsSignals_refl s

theorem countAtomic_keepsSignals (s : State) : keepsSignals s (countAtomic s) := by
  obtain ⟨k, e⟩ := countAtomic_eq s
  rw [e]
  exact keepsSignals_refl s

theorem failFormation_keepsSignals (f : Formed) (s : State) : keepsSignals s (failFormation f s) := by
  cases f with
  | packet => exact keepsSignals_refl s
  | undecodable => exact raise_keepsSignals _ s
  | denied a => exact keepsSignals_trans (emit_keepsSignals (.accessError a) s) (raise_keepsSignals _ _)

theorem checkMarker_keepsSignals (is : List Instr) (s : State) : keepsSignals s (checkMarker is s) := by
  unfold checkMarker
  split
  · exact keepsSignals_refl s
  · split
    · exact raise_keepsSignals _ s
    · exact keepsSignals_refl s

theorem linearCheck_keepsSignals (s : State) : keepsSignals s (linearCheck s) := by
  have hr : ∀ u : State, keepsSignals s u → keepsSignals s { raise .linearLinkCrossing u with pre := (raise .linearLinkCrossing u).cur } :=
    fun u hu => keepsSignals_trans hu (raise_keepsSignals .linearLinkCrossing u)
  unfold linearCheck
  split
  · exact keepsSignals_refl s
  · split
    · exact keepsSignals_refl s
    · refine hr _ ?_
      split
      · exact failFormation_keepsSignals _ s
      all_goals exact keepsSignals_refl s

/-- A fault leaves what the packet has not touched (R500). -/
theorem commit_keepsSignals (hs : latchesUntouched s) : keepsSignals s (commit s) := by
  refine ⟨?_, by rw [commit_outputs]⟩
  cases hf : s.cur.fault with
  | none => rw [commit_of_no_fault s hf]
  | some c =>
    have e : (commit s).cur = blur s.free s.pre s.cur := by simp [commit, hf]
    simp only [latchesUntouched, linesOf, Prod.mk.injEq] at hs
    obtain ⟨h1, h2, h3⟩ := hs
    simp [e, blur, linesOf, h1, h2, h3, pick_self]

theorem closePacket_keepsSignals (h : closePacket s = .next t) (hs : latchesUntouched s) : keepsSignals s t := by
  have hk : keepsSignals s (countAtomic (countDelay s)) := keepsSignals_trans (countDelay_keepsSignals s) (countAtomic_keepsSignals _)
  have hu := keepsSignals_trans hk (commit_keepsSignals (latchesUntouched_of_keepsSignals hk (by simp) hs))
  obtain ⟨-, rfl⟩ | ⟨-, u, rfl, ⟨-, rfl⟩ | ⟨-, -, rfl⟩⟩ := closePacket_cases h
  · exact commit_keepsSignals hs
  · exact hu
  · exact keepsSignals_trans hu (linearCheck_keepsSignals _)

theorem runFormed_keepsSignals (h : runFormed is fin s = .next t) (hs : latchesUntouched s) : keepsSignals s t := by
  have hm := checkMarker_keepsSignals is s
  obtain ⟨hp, -⟩ := checkMarker_keepsContext is s
  have hms := latchesUntouched_of_keepsSignals hm hp hs
  simp only [runFormed] at h
  split at h
  · obtain ⟨-, rfl⟩ := unlessFaulted_next h (by simp)
    exact keepsSignals_trans hm (commit_keepsSignals hms)
  · obtain ⟨u, hu, ht⟩ := andThen_eq_next h
    have hx := execAll_keepsSignals (s := openPacket fin (checkMarker is s)) hu hms
    obtain ⟨hpre, -⟩ := execAll_keepsContext hu
    have hus : latchesUntouched u := latchesUntouched_of_keepsSignals hx hpre hms
    have hl := keepsSignals_trans (scrambleLate_keepsSignals is u) (stickyLate_keepsSignals is _)
    exact keepsSignals_trans hm (keepsSignals_trans hx (keepsSignals_trans hl
      (closePacket_keepsSignals ht (latchesUntouched_of_keepsSignals hl (by simp) hus))))

theorem latchesUntouched_beforePacket (ecc : Bool) (s : State) : latchesUntouched (beforePacket ecc s) := by
  obtain ⟨hp, -⟩ := raiseIf_keepsContext ecc .eccDoubleBit (openStep s)
  exact latchesUntouched_of_keepsSignals (s := openStep s) (raiseIf_keepsSignals ecc _ _) hp rfl

/-- The packet at the program counter, from the state in which it is formed. -/
theorem runPacket_keepsSignals {ecc : Bool} (h : runPacket ecc s = .next t) : keepsSignals (beforePacket ecc s) t := by
  have hs := latchesUntouched_beforePacket ecc s
  simp only [runPacket] at h
  change (if s.cur.pc.toNat % 2 = 1 then unlessFaulted (beforePacket ecc s) _ else _) = _ at h
  split at h
  · obtain ⟨-, rfl⟩ := unlessFaulted_next h (by simp)
    exact commit_keepsSignals hs
  · split at h
    · exact runFormed_keepsSignals h hs
    · rename_i f hn _
      cases h
      have hk := keepsSignals_trans (checkMarker_keepsSignals [] (beforePacket ecc s)) (failFormation_keepsSignals f _)
      obtain ⟨-, ⟨hp, -⟩, -⟩ := failFormation_faults (f := f) hn (checkMarker [] (beforePacket ecc s))
      obtain ⟨hq, -⟩ := checkMarker_keepsContext [] (beforePacket ecc s)
      exact keepsSignals_trans hk (commit_keepsSignals (latchesUntouched_of_keepsSignals hk (hp.trans hq) hs))
    all_goals
      obtain ⟨-, rfl⟩ := unlessFaulted_next h (by simp)
      exact commit_keepsSignals hs

/-- A boundary at which no interrupt enters keeps the latches. -/
theorem runOrIdle_keepsLatches {ecc : Bool} (h : runOrIdle ecc s = .next t) : keepsLatches s t := by
  rw [keepsLatches_iff]
  simp only [runOrIdle] at h
  split_ifs at h
  · cases h; rfl
  · exact (runPacket_keepsSignals h).1.trans (raiseIf_keepsSignals ecc _ (openStep s)).1

theorem afterStep_keepsLatches (s : State) : keepsLatches s (afterStep s) := by
  obtain e | ⟨-, e⟩ := afterStep_cases s <;> rw [e] <;> exact ⟨rfl, rfl, rfl⟩

end Sys2Proof.Proofs
end

section
/-! PROOFS. What holds an interrupt off, and the FAULT state: O55, O11. -/

namespace Sys2Proof.Proofs

open Sys2Proof.Machine Sys2Proof.Laws

variable {s t : State} {c : Arch}

/-! ### The choice at a boundary -/

theorem choose_of_blocked (h : blocked c = true) : choose c = .packet := by simp [choose, h]

theorem blocked_iff : blocked c = true ↔ c.pending ≠ none ∨ c.expect ≠ .none := by
  simp [blocked, Option.isSome_iff_ne_none]

/-- `int_allowed` of R530, condition by condition. -/
theorem intAllowed_iff {q : IntRequest} : intAllowed q c = true ↔ (c.dsts.inte = true ∨ q.supervisor = true) ∧ c.ists.atomic = 0
    ∧ c.ists.currsp = c.ists.intsp ∧ (c.dsts.ints = .main ∨ c.dsts.ints = .int) := by
  simp [intAllowed, and_assoc]

/-- `rtint_allowed` of R540. -/
theorem rtintAllowed_iff : rtintAllowed c = true ↔ c.ists.atomic = 0 ∧ c.dsts.ints ≠ .nmi := by simp [rtintAllowed]

/-- What each line that enters has needed (R521, R530, R540). -/
inductive Chosen (c : Arch) : Choice → Prop where
  | packet : Chosen c .packet
  | nmi (hn : c.nmiPending = true) : Chosen c .nmi
  | rtint (q : RtRequest) (hn : c.nmiPending = false) (hq : c.rtintPending = some q) (ha : rtintAllowed c = true) : Chosen c (.rtint q)
  | int (q : IntRequest) (hn : c.nmiPending = false) (hr : c.rtintPending = none ∨ rtintAllowed c = false) (hq : c.intPending = some q)
      (ha : intAllowed q c = true) : Chosen c (.int q)

theorem chosen_chooseInt (hn : c.nmiPending = true → c.dsts.ints = .nmi) (hr : c.rtintPending = none ∨ rtintAllowed c = false) :
    Chosen c (chooseInt c) := by
  unfold chooseInt
  split
  · rename_i q hq
    split
    · rename_i ha
      obtain ⟨-, -, -, hi⟩ := intAllowed_iff.1 ha
      refine .int q (Bool.eq_false_iff.2 fun n => ?_) hr hq ha
      rw [hn n] at hi
      exact absurd hi (by decide)
    · exact .packet
  · exact .packet

theorem chosen_choose (c : Arch) : Chosen c (choose c) := by
  unfold choose
  split
  · exact .packet
  · split
    · rename_i hn
      rw [Bool.and_eq_true] at hn
      exact .nmi hn.1
    · rename_i hn
      have hn' : c.nmiPending = true → c.dsts.ints = .nmi := fun h => by simpa [h] using hn
      split
      · rename_i q hq
        split
        · rename_i ha
          obtain ⟨-, hi⟩ := rtintAllowed_iff.1 ha
          exact .rtint q (Bool.eq_false_iff.2 fun n => hi (hn' n)) hq ha
        · exact chosen_chooseInt hn' (.inr (Bool.eq_false_iff.2 ‹_›))
      · exact chosen_chooseInt hn' (.inl ‹_›)

/-- While ATOMIC runs nothing but an NMI enters (R526). -/
theorem choose_of_atomic (h : c.ists.atomic ≠ 0) : choose c = .packet ∨ choose c = .nmi := by
  have hc := chosen_choose c
  generalize choose c = x at hc
  cases hc with
  | packet => exact .inl rfl
  | nmi => exact .inr rfl
  | rtint q _ _ ha => exact absurd (rtintAllowed_iff.1 ha).1 h
  | int q _ _ _ ha => exact absurd (intAllowed_iff.1 ha).2.1 h

/-- The step at which no interrupt is chosen keeps the latches. -/
theorem step_keepsLatches (hr : running s) (hc : choose s.cur = .packet) (h : step s = .next t) : keepsLatches s t :=
  runOrIdle_keepsLatches ((step_of_running hr hc).symm.trans h)

/-- Settles O55: each gate from what the choice has needed; the step is the packet, which does not touch the latches. -/
theorem interruptsHeldOff : Obligations.InterruptsHeldOff := by
  unfold Obligations.InterruptsHeldOff
  refine ⟨fun c => ⟨fun h => choose_of_blocked (blocked_iff.2 h), choose_of_nmi, choose_of_atomic,
    fun q h => ?_, fun q h => ?_, fun hp he hn hi => ?_⟩,
    fun s hr hc => ⟨step_of_running hr hc, fun t => step_keepsLatches hr hc⟩⟩
  · have hx := chosen_choose c
    rw [h] at hx
    cases hx with
    | int _ hn hrt hq ha =>
      obtain ⟨he, -, hk, hi⟩ := intAllowed_iff.1 ha
      exact ⟨hn, hq, he, hk, hi, hrt⟩
  · have hx := chosen_choose c
    rw [h] at hx
    cases hx with
    | rtint _ hn hq _ => exact ⟨hq, hn⟩
  · simp [choose, blocked, hp, he, hn, hi]

/-! ### The FAULT state -/

/-- In the FAULT state a delivery consumes its batch only (R500). -/
theorem deliver_of_fault_eq (hf : s.cur.fault ≠ none) : deliver s = { s with inputs := s.inputs.tail } := by
  obtain ⟨c, hc⟩ := Option.ne_none_iff_exists'.1 hf
  simp [deliver, hc]

theorem resetHonoured_of_fault (hf : s.cur.fault ≠ none) : resetHonoured s = true := by
  simp [resetHonoured, Option.isSome_iff_ne_none, hf]

/-- Settles O11: without a reset the step of a CPU in FAULT only settles. -/
theorem faultStateIsTerminal : Obligations.FaultStateIsTerminal := by
  unfold Obligations.FaultStateIsTerminal
  intro s hcfg hf
  have hd := deliver_of_fault_eq hf
  have hf' : (deliver s).cur.fault ≠ none := by rw [hd]; exact hf
  refine ⟨resetHonoured_of_fault hf', fun hn => ⟨settle (deliver s), ?_, ?_⟩⟩
  · simp [step, stepAfter, hcfg, hn, Option.isSome_iff_ne_none, hf']
  · rw [hd]
    exact ⟨rfl, rfl, rfl⟩

end Sys2Proof.Proofs
end

section
/-! PROOFS. A stack pointer that is not a multiple of 8: O37. The check raises its cause before anything else of the transfer or the entry can. -/

namespace Sys2Proof.Proofs

open Sys2Proof.Machine Sys2Proof.Laws

variable {s t : State} {c : Cause}

/-- A check raises nothing over a cause already raised. -/
theorem checkTransfer_keeps_fault (target : Word) (h : s.cur.fault = some c) : (checkTransfer target s).cur.fault = some c :=
  fault_of_keepsStacks (checkTransfer_keepsStacks target s) h

section Misaligned

variable (hf : s.cur.fault = none) (ha : s.pre.a[15].toNat % 8 ≠ 0)
include hf ha

theorem checkSp_raises : (checkSp s).cur.fault = some .stackMisaligned := by
  have hm : isAligned (readSp s) 8 = false := beq_false_of_ne ha
  simp [checkSp, hm, raise_cur_fault, hf]

theorem callTo_misaligned (target : Word) (delay : Fin 8) : RaisesIn (callTo target delay s) .stackMisaligned := by
  obtain ⟨u, hu, hfu⟩ := pushFrame_raises (readSp s) 8 s.pre.rpc (checkTransfer_keeps_fault target (checkSp_raises hf ha))
  simp only [callTo, hu, andThen_next]
  refine jumpTo_raises ?_
  split <;> exact hfu

theorem returnTo_misaligned (delay : Fin 8) : RaisesIn (returnTo delay s) .stackMisaligned := by
  obtain ⟨v, u, hu, hfu⟩ := memRead_raises (readSp s - 8) 4 (checkTransfer_keeps_fault s.pre.rpc (checkSp_raises hf ha))
  simp only [returnTo, hu, andThen_next]
  exact jumpTo_raises hfu

theorem callProt_misaligned (target : Word) (hm : s.pre.protStack.length < s.cfg.maxPsp) : RaisesIn (callProt target s) .stackMisaligned := by
  obtain ⟨u, hu, hfu⟩ := pushFrame_raises (readSp s) 8 s.pre.rpc (checkSp_raises hf ha)
  have hp (f : ProtFrame) : (pushProt f (writeRpc s.pkt.seqPc u)).cur.fault = some .stackMisaligned := by
    unfold pushProt
    split
    · split <;> exact hfu
    · exact hfu
  obtain ⟨t, ht, hft, -⟩ := enterProtected_raises (target := target) (pushed := some (readSp s + 8))
    (hp ⟨s.pre.ists.currlink, stackOf s.cfg s.pre.ists.currlink, s.pkt.seqPc⟩)
  have hn : decide (s.cfg.maxPsp ≤ s.pre.protStack.length) = false := decide_eq_false (by omega)
  refine ⟨t, ?_, hft⟩
  simp only [callProt, hn, raiseIf_false, hu, andThen_next, ht]

/-- RET.PROT whose frame is in order (D40). -/
theorem returnProt_misaligned {f : ProtFrame} {rest : List ProtFrame} (hs : s.pre.protStack = f :: rest) (hr : s.pre.rpc = f.ret)
    (hk : (linkOf s.cfg f.ret).map (stackOf s.cfg) = some f.stack) : RaisesIn (returnProt s) .stackMisaligned := by
  obtain ⟨v, u, hu, hfu⟩ := memRead_raises
    ((if f.stack = stackOf s.cfg s.pre.ists.currlink then readSp s else s.pre.secsp[f.stack]) - 8) 4 (checkSp_raises hf ha)
  have hb : (f.ret != f.ret || (linkOf s.cfg f.ret).map (stackOf s.cfg) != some f.stack) = false := by simp [hk]
  simp only [returnProt, hs, hr, hb, hu, andThen_next, Bool.false_eq_true, if_false]
  refine jumpTo_raises ?_
  generalize he : writeRpc (lowWord v) (scrambleWork u) = w
  have hfw : w.cur.fault = some .stackMisaligned := by rw [← he]; exact hfu
  change (if f.stack = stackOf s.cfg s.pre.ists.currlink then w else _).cur.fault = _
  split <;> exact hfw

theorem returnInt_misaligned (delay : Fin 8) (hi : s.pre.dsts.ints = .int) (hs : s.pre.intSaves ≠ []) :
    RaisesIn (returnInt delay s) .stackMisaligned := by
  obtain ⟨v, rest, hv⟩ := List.exists_cons_of_ne_nil hs
  obtain ⟨w, u, hu, hfu⟩ := memRead_raises (readSp s - BitVec.ofNat 32 s.cfg.intFrameBytes) 4
    (checkTransfer_keeps_fault s.pre.rpc (checkSp_raises hf ha))
  simp only [returnInt, hi, hv, hu, andThen_next]
  exact jumpTo_raises hfu

end Misaligned

/-! ### INT entry -/

/-- What an INT entry writes once its frame has been pushed onto the state `u` (R532). -/
def intEntered (q : IntRequest) (s u : State) : State :=
  let v := writeSp (readSp s + BitVec.ofNat 32 s.cfg.intFrameBytes) u
  { v with cur := { v.cur with
    rpc := s.cur.pc
    intSaves := ⟨s.cur.dsts.ints, s.cur.dsts.prio, s.cur.dsts.inte⟩ :: s.cur.intSaves
    dsts := { v.cur.dsts with ints := .int, prio := q.prio, inte := false }
    intPending := none
    idle := false
    expect := .firstOfInt
    pc := q.vector } }

/-- An INT whose vector lies on the current STACK, or on none, checks SP and pushes its frame (R532, R533). -/
theorem enterInt_of_onStack {q : IntRequest} (he : q.vector.toNat % 2 = 0)
    (hk : ∀ l, linkOf s.cfg q.vector = some l → stackOf s.cfg l = s.cur.ists.currsp) :
    enterInt q s = andThen (pushFrame (readSp s) s.cfg.intFrameBytes s.cur.rpc (checkSp s)) fun u => .next (intEntered q s u) := by
  have ho : ¬ q.vector.toNat % 2 = 1 := by omega
  rw [enterInt, if_neg ho]
  cases hl : linkOf s.cfg q.vector with
  | none => rfl
  | some l =>
    have hw : (stackOf s.cfg l != s.cur.ists.currsp) = false := by simp [hk l hl]
    simp only [hw, raiseIf_false]
    rfl

theorem enterInt_misaligned {q : IntRequest} (hf : s.cur.fault = none) (ha : s.pre.a[15].toNat % 8 ≠ 0) (he : q.vector.toNat % 2 = 0)
    (hk : ∀ l, linkOf s.cfg q.vector = some l → stackOf s.cfg l = s.cur.ists.currsp) : RaisesIn (enterInt q s) .stackMisaligned := by
  obtain ⟨u, hu, hfu⟩ := pushFrame_raises (readSp s) s.cfg.intFrameBytes s.cur.rpc (checkSp_raises hf ha)
  rw [enterInt_of_onStack he hk, hu]
  exact ⟨_, rfl, hfu⟩

/-- Settles O37: the check of SP raises its cause, and what follows keeps it. -/
theorem misalignedStackFaults : Obligations.MisalignedStackFaults := by
  unfold Obligations.MisalignedStackFaults
  intro s target x delay hf
  refine ⟨fun ha => ⟨callTo_misaligned hf ha target delay, callTo_misaligned hf ha _ delay, returnTo_misaligned hf ha delay,
      fun hm => ⟨callProt_misaligned hf ha target hm, callProt_misaligned hf ha _ hm⟩,
      fun f rest hs hr hk => returnProt_misaligned hf ha hs hr hk,
      fun hi hs => ⟨returnInt_misaligned hf ha 0 hi hs, returnInt_misaligned hf ha delay hi hs⟩⟩,
    fun q ho hc he ha hk => step_of_int_raises ho hc ?_⟩
  exact enterInt_misaligned (s := openStep s) hf ha he hk

end Sys2Proof.Proofs
end

section
/-! PROOFS. A packet with an uncorrectable memory error: O41. The cause is raised before the packet is formed, so nothing of it replaces the
cause or stops the step. -/

namespace Sys2Proof.Proofs

open Sys2Proof.Machine Sys2Proof.Laws

variable {s t : State} {is : List Instr} {fin : Nat} {c : Cause} {ecc : Bool}

/-! ### From the step to the boundary -/

/-- A step without a reset of a CPU that has not faulted (R13). -/
theorem stepAfter_eq_runStep {es : List Event} (hw : s.cfg.wf = true) (hr : es.contains .reset = false) (hf : s.cur.fault = none) :
    stepAfter es s = runStep (es.contains .eccDoubleBit) s := by
  simp only [stepAfter, hw, hr, hf]
  rfl

/-- A CPU that the debugger neither holds nor halts takes its boundary (R521, R581). -/
theorem runStep_eq_boundary (hh : ¬ held s) (hn : haltNow s = false) :
    runStep ecc s = andThen (boundary ecc s) fun t => .next (afterStep t) := by
  cases hm : s.dbg.mode with
  | halt => exact absurd (.inl hm) hh
  | waitSync => exact absurd (.inr hm) hh
  | run | freeRun | singleStep => simp [runStep, hm, hn]

theorem haltNow_of_not_pending (h : s.dbg.haltPending = false) : haltNow s = false := by simp [haltNow, h]

theorem haltNow_of_mode (h : s.dbg.mode ≠ .run) : haltNow s = false := by simp [haltNow, h]

/-- Where no interrupt is chosen the boundary is the packet, or the wait (R521). -/
theorem boundary_of_packet (h : choose s.cur = .packet) : boundary ecc s = runOrIdle ecc s := by
  unfold boundary
  split
  · rfl
  · rw [h]

/-- Where the debugger does not step the CPU a step ends where its boundary does. -/
theorem andThen_afterStep {o : Res State} (h : ∀ t, o = .next t → ∀ d, t.dbg.mode ≠ .singleStep d) :
    (andThen o fun t => .next (afterStep t)) = o := by
  cases o with
  | next t =>
    have e : afterStep t = t := by
      unfold afterStep
      split
      · exact absurd ‹_› (h t rfl _)
      all_goals rfl
    simp [e]
  | fault r => rfl
  | refused r => rfl

/-- A packet leaves a CPU in the run state there, or halted. -/
theorem runPacket_not_stepping (hm : s.dbg.mode = .run) (h : runPacket ecc s = .next t) (d : Bool) : t.dbg.mode ≠ .singleStep d := by
  obtain e | e := runPacket_dbg h
  · simp [e, hm]
  · simp [e]

/-- The state whose batch of events has been taken. -/
def consumed (s : State) : State := { s with inputs := s.inputs.tail }

@[simp] theorem consumed_cur (s : State) : (consumed s).cur = s.cur := rfl
@[simp] theorem consumed_cfg (s : State) : (consumed s).cfg = s.cfg := rfl
@[simp] theorem consumed_dbg (s : State) : (consumed s).dbg = s.dbg := rfl

/-- The step of a running CPU whose only event is the double-bit error of its packet (R503). -/
theorem step_of_doubleBitError (hw : s.cfg.wf = true) (hb : nextBatch s = [.eccDoubleBit]) (hf : s.cur.fault = none) (hm : s.dbg.mode = .run)
    (hp : s.dbg.haltPending = false) (hc : choose s.cur = .packet) (hi : s.cur.idle = false) :
    step s = runPacket true (consumed s) := by
  have hd : deliver s = consumed s := deliver_single hf hb
  have hh : ¬ held (consumed s) := by simp [held, hm]
  have hr : runOrIdle true (consumed s) = runPacket true (consumed s) := by simp [runOrIdle, hi]
  rw [step, hb, hd, stepAfter_eq_runStep (s := consumed s) hw (by decide) hf, show [Event.eccDoubleBit].contains .eccDoubleBit = true by decide,
    runStep_eq_boundary hh (haltNow_of_not_pending hp), boundary_of_packet (s := consumed s) hc, hr]
  exact andThen_afterStep fun t ht => runPacket_not_stepping (s := consumed s) hm ht

/-! ### The packet of a CPU that has faulted -/

theorem checkMarker_keeps_fault (is : List Instr) (h : s.cur.fault = some c) : (checkMarker is s).cur.fault = some c :=
  fault_of_keepsStacks (checkMarker_keepsStacks is s) h

theorem unlessFaulted_of_fault (o : Res State) (h : s.cur.fault = some c) : unlessFaulted s o = .next (commit s) := by
  simp [unlessFaulted, h]

theorem runFormed_keeps_fault (hf : s.cur.fault = some c) (h : runFormed is fin s = .next t) : t.cur.fault = some c := by
  have hc := checkMarker_keeps_fault is hf
  simp only [runFormed] at h
  split at h
  · cases (unlessFaulted_of_fault _ hc).symm.trans h
    simpa using hc
  · obtain ⟨u, hu, ht⟩ := andThen_eq_next h
    have huf : u.cur.fault = some c := execAll_keeps_fault (s := openPacket fin (checkMarker is s)) hu hc
    obtain ⟨v, hv, hvf⟩ := closePacket_of_fault (s := stickyLate is (scrambleLate is u)) (by simpa using huf)
    cases hv.symm.trans ht
    exact hvf

/-- A lone instruction without effect there answers. -/
theorem runFormed_singleton_answers {i : Instr} (hf : s.cur.fault = some c) (hi : ∀ u : State, u.cur.fault = some c → exec i u = .next u) :
    ∃ t, runFormed [i] fin s = .next t := by
  have hc := checkMarker_keeps_fault [i] hf
  have ho : (openPacket fin (checkMarker [i] s)).cur.fault = some c := hc
  have hx : execAll (arrange [i]) (openPacket fin (checkMarker [i] s)) = .next (openPacket fin (checkMarker [i] s)) := by
    rw [arrange_singleton, execAll, hi _ ho]
    rfl
  simp only [runFormed]
  split
  · exact ⟨_, unlessFaulted_of_fault _ hc⟩
  · obtain ⟨t, ht, -⟩ := closePacket_of_fault (s := stickyLate [i] (scrambleLate [i] (openPacket fin (checkMarker [i] s)))) (by simpa using ho)
    rw [hx]
    exact ⟨t, ht⟩

theorem emustop0_of_fault (h : s.cur.fault = some c) : exec .emustop0 s = .next s := if_neg (by simp [breakArmed, h])

/-- A packet whose cause has been raised answers with that cause only (R502). -/
theorem runPacket_keeps_fault (hf : (beforePacket ecc s).cur.fault = some c) (h : runPacket ecc s = .next t) : t.cur.fault = some c := by
  have hfail (f : Formed) : (commit (failFormation f (checkMarker [] (beforePacket ecc s)))).cur.fault = some c := by
    simpa using fault_of_keepsStacks (failFormation_keepsStacks f _) (checkMarker_keeps_fault [] hf)
  simp only [runPacket] at h
  change (if s.cur.pc.toNat % 2 = 1 then unlessFaulted (beforePacket ecc s) _ else _) = _ at h
  split at h
  · cases (unlessFaulted_of_fault _ hf).symm.trans h
    simpa using hf
  · split at h
    · exact runFormed_keeps_fault hf h
    · cases h
      exact hfail _
    all_goals
      cases (unlessFaulted_of_fault _ hf).symm.trans h
      simpa using hf

/-- What would stop the fetch or the formation does not stop a packet whose cause has been raised (log entry 35). -/
theorem runPacket_answers_of_fault (hf : (beforePacket ecc s).cur.fault = some c)
    (h : s.cur.pc.toNat % 2 = 1 ∨ ∀ is fin, formPacket 8 s.cur.pc.toNat 0 (beforePacket ecc s) ≠ .next (.packet is fin)) :
    ∃ t, runPacket ecc s = .next t := by
  simp only [runPacket]
  change ∃ t, (if s.cur.pc.toNat % 2 = 1 then unlessFaulted (beforePacket ecc s) _ else _) = _
  split
  · exact ⟨_, unlessFaulted_of_fault _ hf⟩
  · split
    · exact absurd ‹_› (h.resolve_left ‹_› _ _)
    · exact ⟨_, rfl⟩
    all_goals exact ⟨_, unlessFaulted_of_fault _ hf⟩

/-- The packet is formed from the code alone, whatever has been raised. -/
theorem formPacket_beforePacket (ecc : Bool) (s : State) :
    formPacket 8 s.cur.pc.toNat 0 (beforePacket ecc (consumed s)) = formPacket 8 s.cur.pc.toNat 0 (openStep s) := by
  refine formPacket_congr _ _ _ _ _ ?_ ?_ ?_ <;> cases ecc <;> simp [beforePacket, openStep]

theorem runPacket_of_formed_before (hpc : s.cur.pc.toNat % 2 = 0)
    (h : formPacket 8 s.cur.pc.toNat 0 (beforePacket ecc s) = .next (.packet is fin)) :
    runPacket ecc s = runFormed is fin (beforePacket ecc s) := by
  have ho : ¬ s.cur.pc.toNat % 2 = 1 := by omega
  rw [beforePacket] at h
  simp only [runPacket, if_neg ho, h]
  rfl

/-- Settles O41: the cause is raised at the opening, and a packet keeps the first cause and what it has reported. -/
theorem doubleBitErrorFaults : Obligations.DoubleBitErrorFaults := by
  unfold Obligations.DoubleBitErrorFaults
  intro s hw hb hf hm hp hc hi
  have hstep : step s = runPacket true (consumed s) := step_of_doubleBitError hw hb hf hm hp hc hi
  have hraised : (beforePacket true (consumed s)).cur.fault = some .eccDoubleBit := by
    have hn : (openStep (consumed s)).cur.fault = none := hf
    simp [beforePacket, raise_cur_fault, hn]
  have hout : Output.faultEntered .eccDoubleBit ∈ (beforePacket true (consumed s)).outputs := by
    have hn : (openStep (consumed s)).cur.fault = none := hf
    simp [beforePacket, raise, hn]
  rw [hstep]
  refine ⟨fun t ht => ⟨runPacket_keeps_fault hraised ht, (runPacket_keepsSignals ht).2.subset hout⟩,
    fun ho => runPacket_answers_of_fault hraised (.inl ho), fun he => ⟨fun hn => runPacket_answers_of_fault hraised (.inr fun is fin => ?_),
      fun fin _ hform => ?_⟩⟩
  · rw [consumed_cur, formPacket_beforePacket]
    exact hn is fin
  · obtain ⟨i, hi, hform⟩ : ∃ i, (∀ u : State, u.cur.fault = some .eccDoubleBit → exec i u = .next u)
        ∧ formPacket 8 s.cur.pc.toNat 0 (openStep s) = .next (.packet [i] fin) := by
      obtain hform | hform := hform
      · exact ⟨.nop, fun _ _ => rfl, hform⟩
      · exact ⟨.emustop0, fun _ => emustop0_of_fault, hform⟩
    rw [runPacket_of_formed_before (s := consumed s) he ((formPacket_beforePacket true s).trans hform)]
    exact runFormed_singleton_answers hraised hi

end Sys2Proof.Proofs
end

section
/-! PROOFS. The entries of NMI, RTINT and INT at an open boundary: O51, O54. Each is the state the entry has built, landed whole. -/

namespace Sys2Proof.Proofs

open Sys2Proof.Machine Sys2Proof.Laws

variable {s t : State}

theorem fault_of_openBoundary (h : openBoundary s) : s.cur.fault = none := by
  obtain ⟨⟨-, -, hf, -⟩, -⟩ := h
  exact hf

/-- A boundary that lands whole is the step (R13). -/
theorem step_of_boundary (h : openBoundary s) (hb : boundary false s = .next (commit t)) (hf : t.cur.fault = none) (hd : t.dbg = s.dbg) :
    step s = .next (settle t) := by
  have hm : (settle t).dbg.mode = .run := (congrArg Debug.mode hd).trans (mode_of_openBoundary h)
  have hc : commit t = settle t := commit_of_no_fault t hf
  rw [step_eq_boundary h.1, hb, hc, andThen_next, afterStep_of_run hm]

/-! ### NMI and RTINT -/

/-- The state a real-time entry builds (R541, R543). -/
def realtimeEntered (nmi : Bool) (vector : Word) (prio : BitVec 8) (s : State) : State :=
  let c := s.cur
  spend 4 { s with cur := clearLatch nmi { c with
    rtStack := frameOf c :: c.rtStack
    secsp := c.secsp.set c.ists.currsp c.a[15]
    a := Vector.replicate 16 0
    d := Vector.replicate 16 0
    m := Vector.replicate 32 0
    rpc := drawWord 1 s
    ests := writeEstsWord (drawWord 2 s)
    dsts := { writeDstsWord c.dsts (drawWord 0 s) with
      ints := if nmi then .nmi else .rtint
      prio := if nmi then (drawWord 3 s).setWidth 8 else prio }
    ists := { c.ists with atomic := if nmi then 0 else c.ists.atomic, currsp := stackAt s.cfg vector c.ists.currsp }
    idle := false
    expect := .isrPair
    pc := vector } }

theorem enterRealtime_of_even {vector : Word} (nmi : Bool) (he : vector.toNat % 2 = 0) (prio : BitVec 8) (s : State) :
    enterRealtime nmi vector prio s = .next (realtimeEntered nmi vector prio s) := by
  rw [enterRealtime, if_neg (by omega)]
  rfl

/-- The warning of the real-time interrupt stack is a report (R517). -/
theorem rtispWarn_eq (s : State) : ∃ l, rtispWarn s = { s with outputs := l } := by
  unfold rtispWarn
  split <;> exact ⟨_, rfl⟩

/-- What the entry leaves of the state of its boundary, whatever is reported (R541, R543). -/
theorem realtimeEntered_enters {l : List Output} (nmi : Bool) (vector : Word) (prio : BitVec 8) (hf : s.cur.fault = none) :
    EntersRealtime vector s (settle { realtimeEntered nmi vector prio (openStep s) with outputs := l }) := by
  have hs (l : LinkId) (h : linkOf s.cfg vector = some l) : stackAt s.cfg vector s.cur.ists.currsp = stackOf s.cfg l :=
    stackAt_of_link _ _ _ _ h
  cases nmi
  all_goals
    refine ⟨rfl, fun i => ?_, fun i => ?_, fun i => ?_, ?_, fun i hi => ?_, hs, rfl, rfl, rfl, rfl, rfl, rfl, rfl, rfl, rfl,
      fun _ => rfl, rfl, rfl, rfl, rfl, hf, rfl, rfl⟩
    · exact Vector.getElem_replicate i.isLt
    · exact Vector.getElem_replicate i.isLt
    · exact Vector.getElem_replicate i.isLt
    · exact Vector.getElem_set_self _
    · exact secsp_set_other _ _ _ i hi

/-- Settles O51: the entry is taken whatever the other lines and gates say, and lands whole. -/
theorem realtimeEntries : Obligations.RealtimeEntries := by
  unfold Obligations.RealtimeEntries
  refine ⟨fun s h hn hi he => ?_, fun s q h hn hq ha hi he hl => ?_⟩
  · have hf := fault_of_openBoundary h
    obtain ⟨l, hw⟩ := rtispWarn_eq (realtimeEntered true s.cfg.nmiVector 0 (openStep s))
    have hb : boundary false s = .next (commit { realtimeEntered true s.cfg.nmiVector 0 (openStep s) with outputs := l }) := by
      rw [boundary_of_nmi h (choose_nmi h hn hi), enterRealtime_of_even true he, andThen_next, hw]
    exact ⟨_, step_of_boundary h hb hf rfl, realtimeEntered_enters true _ 0 hf, rfl, rfl, rfl, rfl⟩
  · have hf := fault_of_openBoundary h
    obtain ⟨l, hw⟩ := rtispWarn_eq (realtimeEntered false q.vector q.prio (openStep s))
    have hlim : rtintLimits { realtimeEntered false q.vector q.prio (openStep s) with outputs := l }
        = { realtimeEntered false q.vector q.prio (openStep s) with outputs := l } := rtintLimits_below hl
    have hb : boundary false s = .next (commit { realtimeEntered false q.vector q.prio (openStep s) with outputs := l }) := by
      rw [boundary_of_rtint h (choose_rtint h hn hq ha hi), enterRealtime_of_even false he, andThen_next, hw, hlim]
    exact ⟨_, step_of_boundary h hb hf rfl, realtimeEntered_enters false _ _ hf, rfl, rfl, rfl, hn⟩

/-! ### INT -/

/-- The frame of an INT that is in order: RPC lies at its base and no byte outside it changes (R532, R533). -/
theorem pushFrame_of_frameOk {sp v : Word} {n : Nat} {l : LinkId} (hn : 8 ≤ n) (hw : sp.toNat + n ≤ 4294967296) (ha : sp.toNat % 8 = 0)
    (hl : s.pre.ists.currlink = l) (hc : s.pre.dsts.clink = s.cur.dsts.clink) (h : frameOk sp n l s) :
    ∃ t, pushFrame sp n v s = .next t ∧ newWord t sp = v ∧ keepsMemoryBut sp n s t ∧ memoryOnly s t ∧ t.cur.fault = s.cur.fault := by
  have hbyte (k : Nat) (hk : k < n) : apAllows s.cfg true s.pre.ists.currlink s.pre.dsts.clink (sp + BitVec.ofNat 32 k) = true
      ∧ writable s.cfg (sp + BitVec.ofNat 32 k) := by
    rw [hl, hc]
    exact h k hk
  have hok : writeOk sp 4 s := by
    have h0 := hbyte 0 (by omega)
    rw [BitVec.add_zero] at h0
    exact ⟨by omega, h0⟩
  obtain ⟨t, ht, hf⟩ := scribble_of_ok (sp + 4) (n - 4) (storeBytes sp 4 (v.setWidth 64) s) fun k hk => by
    have e : sp + 4 + BitVec.ofNat 32 k = sp + BitVec.ofNat 32 (k + 4) := by
      rw [BitVec.add_assoc, Nat.add_comm k 4, BitVec.ofNat_add]
      rfl
    rw [e]
    exact hbyte (k + 4) (by omega)
  have hp : pushFrame sp n v s = .next t := by
    rw [pushFrame, memWrite_of_writeOk sp 4 _ s hok, andThen_next, if_pos (by simp [isAligned, hok.1, hok.2.1])]
    exact ht
  obtain ⟨hm, -, hb⟩ := pushFrame_next sp n v s t (by omega) hp
  refine ⟨t, hp, newWord_writeLE s.cur.mem sp v t hok.1 fun k hk => ?_, hb, hm, by simpa using hf⟩
  rw [memByte_scribble_other _ _ _ _ _ ?_ ht]
  · have hv : v.toNat < 18446744073709551616 := by have := v.isLt; omega
    simp [BitVec.toNat_setWidth, Nat.mod_eq_of_lt hv]
  · rw [mem_byteAddrs]
    rintro ⟨i, hi, e⟩
    rw [BitVec.toNat_add] at e
    simp at e
    omega

theorem choose_int {q : IntRequest} (h : openBoundary s) (hn : s.cur.nmiPending = false) (hr : s.cur.rtintPending = none)
    (hq : s.cur.intPending = some q) (ha : intAllowed q s.cur = true) : choose s.cur = .int q := by
  simp [choose, chooseInt, blocked_of_openBoundary h, hn, hr, hq, ha]

/-- What an INT entry leaves, once its frame has been pushed onto the state `u` (R532). -/
theorem intEntered_frame {q : IntRequest} {u : State} (hu : memoryOnly s u) (hf : u.cur.fault = s.cur.fault) :
    (intEntered q s u).cur.a[15] = readSp s + BitVec.ofNat 32 s.cfg.intFrameBytes ∧ keepsRegs [.a 15] s (intEntered q s u)
      ∧ (intEntered q s u).cur.dsts = { s.cur.dsts with ints := .int, prio := q.prio, inte := false }
      ∧ (intEntered q s u).cur.ests = s.cur.ests ∧ (intEntered q s u).cur.ists = s.cur.ists
      ∧ (intEntered q s u).cur.secsp = s.cur.secsp ∧ (intEntered q s u).cur.protStack = s.cur.protStack
      ∧ (intEntered q s u).cur.rtStack = s.cur.rtStack ∧ (intEntered q s u).cur.fault = s.cur.fault
      ∧ (intEntered q s u).dbg = s.dbg := by
  obtain ⟨⟨m, l, f, hc⟩, -, -, -, -, hd, -⟩ := hu
  obtain rfl : f = s.cur.fault := by rw [← hf, hc]
  have hregs (r : Reg) : curReg (intEntered q s u) r = curReg (writeReg (.a 15) (readSp s + BitVec.ofNat 32 s.cfg.intFrameBytes) u) r := by
    cases r <;> rfl
  refine ⟨(hregs (.a 15)).trans (curReg_writeReg_same _ _ _), fun r hr => ?_, ?_⟩
  · rw [hregs, curReg_writeReg_of_ne _ _ fun e => hr (List.mem_singleton.2 e)]
    cases r <;> simp [curReg, hc]
  · simp [intEntered, writeSp, hc, hd]

/-- Settles O54: with nothing that faults the entry is the frame and what follows it, landed whole. -/
theorem intEntry : Obligations.IntEntry := by
  unfold Obligations.IntEntry
  intro s q l h hn hr hq he ha hk hi hv hs h8 h4 hw hl hok
  have hf := fault_of_openBoundary h
  have hc : choose s.cur = .int q := choose_int h hn hr hq (intAllowed_iff.2 ⟨he, ha, hk, hi⟩)
  have hcl : currLink s = l := by simp [currLink, hl]
  obtain ⟨u, hu, hword, hbut, hmem, hfu⟩ := pushFrame_of_frameOk (s := openStep s) (v := s.cur.rpc) h4 hw h8 hcl rfl hok
  have hx : enterInt q (openStep s) = .next (intEntered q (openStep s) u) := by
    rw [enterInt_of_onStack (s := openStep s) hv hs, checkSp_of_aligned (openStep s) h8]
    exact congrArg (andThen · _) hu
  obtain ⟨t15, tregs, tdsts, tests, tists, tsecsp, tprot, trt, tf, td⟩ := intEntered_frame (q := q) hmem hfu
  have hb : boundary false s = .next (commit (intEntered q (openStep s) u)) := by rw [boundary_of_int h hc, hx, andThen_next]
  refine ⟨_, step_of_boundary h hb (tf.trans hf) td, hword, hbut, t15, fun r hr => ?_, rfl, rfl, tdsts, tests, rfl, rfl, ?_, tsecsp, tprot, trt,
    rfl, tf.trans hf⟩
  · refine Eq.trans ?_ ((tregs r hr).trans ?_) <;> cases r <;> rfl
  · rw [← hcl]
    exact tists

end Sys2Proof.Proofs
end

section
/-! PROOFS. The debugger's commands and accesses between packets: what each does to the state that a step then meets (R582 to R586). -/

namespace Sys2Proof.Proofs

open Sys2Proof.Machine Sys2Proof.Laws

variable {s t u : State}

/-! ### Commands -/

theorem requestHalt_of_disconnected (h : s.dbg.connected = false) : requestHalt s = s := by simp [requestHalt, h]

theorem requestHalt_of_halted (h : s.dbg.mode = .halt) : requestHalt s = s := by simp [requestHalt, h]

theorem requestHalt_of_running (hc : s.dbg.connected = true) (hm : s.dbg.mode = .run) :
    requestHalt s = { s with dbg := { s.dbg with haltPending := true } } := by simp [requestHalt, hc, hm]

theorem dbgCommand_of_disconnected (m : DebugMode) (h : s.dbg.connected = false) : dbgCommand m s = s := by simp [dbgCommand, h]

theorem dbgCommand_of_connected (m : DebugMode) (h : s.dbg.connected = true) : dbgCommand m s = { s with dbg := { s.dbg with mode := m } } :=
  if_pos h

/-- The commands that take a CPU out of debug halt, with the state each names (R583 to R586). -/
def leavesHalt (dint : Bool) : List (Event × DebugMode) :=
  [(.dbgRun, .run), (.dbgFreeRun, .freeRun), (.dbgStep dint, .singleStep dint), (.dbgSyncRun, .waitSync)]

/-- Such a command acts on a halted CPU only. -/
theorem applyEvent_of_leavesHalt {dint : Bool} {c : Event} {m : DebugMode} (h : (c, m) ∈ leavesHalt dint) (s : State) :
    applyEvent c s = if s.dbg.mode = .halt then dbgCommand m s else s := by
  simp only [leavesHalt, List.mem_cons, Prod.mk.injEq, List.not_mem_nil, or_false] at h
  obtain ⟨rfl, rfl⟩ | ⟨rfl, rfl⟩ | ⟨rfl, rfl⟩ | ⟨rfl, rfl⟩ := h <;> rfl

/-- Without a debugger no command does anything (R580). -/
theorem applyEvent_of_disconnected {c : Event}
    (h : c ∈ [Event.dbgHalt, .dbgRun, .dbgFreeRun, .dbgStep true, .dbgStep false, .dbgSyncRun, .dbgSync]) (hc : s.dbg.connected = false) :
    applyEvent c s = s := by
  have hm (m : DebugMode) : dbgCommand m s = s := dbgCommand_of_disconnected m hc
  simp only [List.mem_cons, List.not_mem_nil, or_false] at h
  obtain rfl | rfl | rfl | rfl | rfl | rfl | rfl := h
  · exact requestHalt_of_disconnected hc
  all_goals simp only [applyEvent, hm, ite_self]

/-- The events of a batch act on the state whose batch has been taken. -/
theorem deliver_eq_applyEvents (hf : s.cur.fault = none) : deliver s = applyEvents (nextBatch s) (consumed s) := deliver_of_no_fault hf

theorem deliver_eq_applyEvent {e : Event} (hf : s.cur.fault = none) (hb : nextBatch s = [e]) : deliver s = applyEvent e (consumed s) :=
  deliver_single hf hb

/-- Each command gives a halted CPU the state it names, also after a halt request, which then has no effect (R582 to R586). -/
theorem deliver_command {dint : Bool} {c : Event} {m : DebugMode} (hf : s.cur.fault = none) (hc : s.dbg.connected = true)
    (h : (c, m) ∈ leavesHalt dint) :
    (nextBatch s = [c] ∨ nextBatch s = [.dbgHalt, c] → s.dbg.mode = .halt → (deliver s).dbg = { s.dbg with mode := m })
      ∧ (nextBatch s = [c] → s.dbg.mode ≠ .halt → (deliver s).dbg = s.dbg) := by
  refine ⟨fun hb hm => ?_, fun hb hm => ?_⟩
  · have hd : deliver s = applyEvent c (consumed s) := by
      obtain hb | hb := hb
      · exact deliver_eq_applyEvent hf hb
      · have hr : requestHalt (consumed s) = consumed s := requestHalt_of_halted hm
        rw [deliver_eq_applyEvents hf, hb]
        exact congrArg (applyEvent c) hr
    rw [hd, applyEvent_of_leavesHalt h, consumed_dbg, if_pos hm, dbgCommand_of_connected (s := consumed s) m hc]
    rfl
  · rw [deliver_eq_applyEvent hf hb, applyEvent_of_leavesHalt h, consumed_dbg, if_neg hm, consumed_dbg]

/-! ### Accesses -/

/-- An access that a debugger can make is performed or not, as the SSU has it (R165). -/
theorem dbgAccess_cur {a : Option Word} (f : State → State) (hc : s.dbg.connected = true) (hm : a.isSome = true ∨ s.dbg.mode = .halt) :
    (debugAllowed a s = true ∧ (dbgAccess a f s).cur = (f s).cur) ∨ (debugAllowed a s = false ∧ (dbgAccess a f s).cur = s.cur) := by
  have he : (s.dbg.connected && (a.isSome || s.dbg.mode == .halt)) = true := by simpa [hc] using hm
  rw [dbgAccess, if_pos he]
  cases ha : debugAllowed a s
  · exact .inr ⟨rfl, rfl⟩
  · exact .inl ⟨rfl, rfl⟩

theorem dbgAccess_of_not {a : Option Word} (f : State → State) (h : s.dbg.connected = false ∨ (a = none ∧ s.dbg.mode ≠ .halt)) :
    dbgAccess a f s = s := by
  have he : ¬ (s.dbg.connected && (a.isSome || s.dbg.mode == .halt)) = true := by
    obtain hc | ⟨rfl, hm⟩ := h
    · simp [hc]
    · simp [hm]
  exact if_neg he

theorem dbgWriteReg_consumed (r : DebugReg) (v : Word) (s : State) : dbgWriteReg r v (consumed s) = consumed (dbgWriteReg r v s) := by
  cases r with
  | reg x => cases x <;> rfl
  | pc => simp only [dbgWriteReg]; split <;> rfl
  | rpc => rfl
  | status q => cases q <;> rfl

theorem busWrite_consumed (a : Word) (v : Byte) (s : State) : busWrite a v (consumed s) = consumed (busWrite a v s) := by
  simp only [busWrite, consumed_cfg]
  split <;> rfl

/-- A write of a register of the halted CPU (R582). -/
theorem deliver_dbgWrite {r : DebugReg} {v : Word} (hf : s.cur.fault = none) (hc : s.dbg.connected = true) (hm : s.dbg.mode = .halt)
    (hb : nextBatch s = [.dbgWrite r v]) : IfAllowed none s (deliver s) ((deliver s).cur = (dbgWriteReg r v s).cur) := by
  have h := dbgAccess_cur (s := consumed s) (a := none) (dbgWriteReg r v) hc (.inr hm)
  rw [dbgWriteReg_consumed] at h
  rw [deliver_eq_applyEvent hf hb]
  exact h

theorem deliver_dbgWrite_of_not {r : DebugReg} {v : Word} (hf : s.cur.fault = none) (hb : nextBatch s = [.dbgWrite r v])
    (h : s.dbg.connected = false ∨ s.dbg.mode ≠ .halt) : (deliver s).cur = s.cur := by
  have e : dbgAccess none (dbgWriteReg r v) (consumed s) = consumed s := dbgAccess_of_not _ (h.imp_right fun hm => ⟨rfl, hm⟩)
  rw [deliver_eq_applyEvent hf hb, applyEvent, e, consumed_cur]

/-- A write of a byte of memory, at any time (R142). -/
theorem deliver_dbgWriteMem {a : Word} {v : Byte} (hf : s.cur.fault = none) (hc : s.dbg.connected = true)
    (hb : nextBatch s = [.dbgWriteMem a v]) : IfAllowed (some a) s (deliver s) ((deliver s).cur = (busWrite a v s).cur) := by
  have h := dbgAccess_cur (s := consumed s) (a := some a) (busWrite a v) hc (.inl rfl)
  rw [busWrite_consumed] at h
  rw [deliver_eq_applyEvent hf hb]
  exact h

/-- A debug access that is let through has what its write has. -/
theorem ifAllowed_of_cur {a : Option Word} {u : State} {P : Prop} (h : IfAllowed a s t (t.cur = u.cur)) (hP : t.cur = u.cur → P) :
    IfAllowed a s t P := h.imp_left fun ⟨ha, e⟩ => ⟨ha, hP e⟩

theorem curReg_of_cur (r : Reg) (h : t.cur = u.cur) : curReg t r = curReg u r := by cases r <;> simp [curReg, h]

theorem deliver_dbgWriteMem_of_not {a : Word} {v : Byte} (hf : s.cur.fault = none) (hb : nextBatch s = [.dbgWriteMem a v])
    (h : s.dbg.connected = false) : (deliver s).cur = s.cur := by
  have e : dbgAccess (some a) (busWrite a v) (consumed s) = consumed s := dbgAccess_of_not _ (.inl h)
  rw [deliver_eq_applyEvent hf hb, applyEvent, e, consumed_cur]

/-- The byte that a bus write leaves reads back (R142). -/
theorem memByte_busWrite {a : Word} {v : Byte} {k : RegionKind} (hk : regionOf s.cfg a = some k) (hp : k ≠ .peripheral) :
    memByte (busWrite a v s).cur.mem a.toNat = v := by
  have ha := Nat.mod_eq_of_lt a.isLt
  rw [busWrite_of_region v s hk hp]
  simpa [ha] using memByte_put_same s.cur.mem a.toNat v

/-! ### What no event changes -/

theorem deliver_no_fault (hf : s.cur.fault = none) : (deliver s).cur.fault = none :=
  deliver_induction (I := fun u => u.cur.fault = none) (fun _ => Iff.rfl) (fun e u _ h => by
    obtain ⟨-, -, -, g, -⟩ | ⟨v, -, -, g⟩ := applyEvent_place e u
    · exact g.trans h
    · rw [g]; exact h) hf

/-- Events report nothing. -/
theorem applyEvent_outputs (e : Event) (s : State) : (applyEvent e s).outputs = s.outputs := by
  have hacc (a : Option Word) {f : State → State} (hf : (f s).outputs = s.outputs) : (dbgAccess a f s).outputs = s.outputs := by
    obtain e | e | ⟨-, -, -, e⟩ := dbgAccess_cases a f s <;> rw [e]
    · rfl
    · exact hf
  have hbus (a : Word) (v : Byte) : (busWrite a v s).outputs = s.outputs := by unfold busWrite; split <;> rfl
  have hcmd (m : DebugMode) : (dbgCommand m s).outputs = s.outputs := by unfold dbgCommand; split <;> rfl
  cases e with
  | busWrite a v => exact hbus a v
  | dbgHalt => obtain e | ⟨-, e⟩ := requestHalt_cases s <;> simp only [applyEvent, e]
  | dbgRun | dbgFreeRun | dbgStep | dbgSyncRun | dbgSync =>
    simp only [applyEvent]
    split
    · exact hcmd _
    · rfl
  | dbgWrite r v =>
    refine hacc none ?_
    cases r with
    | reg x => exact writeReg_outputs x v s
    | pc => simp only [dbgWriteReg]; split <;> rfl
    | rpc => rfl
    | status q => cases q <;> rfl
  | dbgWriteMem a v => exact hacc (some a) (hbus a v)
  | _ => rfl

theorem deliver_outputs (s : State) : (deliver s).outputs = s.outputs :=
  deliver_induction (I := fun u => u.outputs = s.outputs) (fun _ => Iff.rfl) (fun e u _ h => (applyEvent_outputs e u).trans h) rfl

end Sys2Proof.Proofs
end

section
/-! PROOFS. The step under a debugger: O52. A halt goes before everything, a held CPU waits, a single step is one packet, a software breakpoint
halts before its packet. -/

namespace Sys2Proof.Proofs

open Sys2Proof.Machine Sys2Proof.Laws

variable {s t u : State} {is : List Instr} {fin : Nat}

/-! ### Halts and waits -/

/-- A step without events of a CPU that has not faulted. -/
theorem step_of_no_inputs (hw : s.cfg.wf = true) (hf : s.cur.fault = none) (hin : s.inputs = []) : step s = runStep false s := by
  have hb : nextBatch s = [] := by rw [nextBatch, hin]; rfl
  rw [step, hb, deliver_of_no_inputs hin, stepAfter_eq_runStep hw rfl hf]
  rfl

/-- A halt request at an interrupt boundary of the run state, where DBGM lets it pass, is honoured first (R581, R584). -/
theorem step_of_haltRequest (hw : s.cfg.wf = true) (hf : s.cur.fault = none) (hin : s.inputs = []) (hc : s.dbg.connected = true)
    (hp : s.dbg.haltPending = true) (hm : s.dbg.mode = .run) (hpe : s.cur.pending = none) (he : s.cur.expect = .none)
    (ha : Config.dbgmAllows s.cur.dsts.dbgm = true) : step s = .next (enterHalt s) := by
  have hn : haltNow s = true := by simp [haltNow, hc, hp, hm, blocked, hpe, he, ha]
  rw [step_of_no_inputs hw hf hin]
  simp [runStep, hm, hn]

/-- A CPU that the debugger holds does not take a reset (R582). -/
theorem resetHonoured_of_held (hf : s.cur.fault = none) (h : held s) : resetHonoured s = false := by
  obtain hm | hm := h <;> simp [resetHonoured, hf, hm]

/-- A CPU that the debugger holds waits (R582, R586). -/
theorem step_of_held (hw : s.cfg.wf = true) (hf : s.cur.fault = none) (h : held (deliver s)) : step s = .next (settle (deliver s)) := by
  have hf' := deliver_no_fault hf
  have hr : runStep ((nextBatch s).contains .eccDoubleBit) (deliver s) = .next (settle (deliver s)) := by
    obtain hm | hm := h <;> simp [runStep, hm]
  simp only [step, stepAfter, deliver_cfg, hw, resetHonoured_of_held hf' h, hf', hr]
  simp

/-! ### What a packet does to the debugger's side -/

/-- A CPU that has halted before its packet: it is as it was at the boundary, unless it has faulted (R296, R584). -/
def haltedAt (s t : State) : Prop :=
  s.dbg.mode ≠ .freeRun ∧ t.dbg = { s.dbg with mode := .halt, haltPending := false } ∧ (t.cur.fault = none → t.cur = (openStep s).cur)

theorem dbg_of_keepsPath (h : keepsPath s t) : t.dbg = s.dbg := by
  obtain ⟨-, -, -, -, -, -, hd⟩ := pathOf_eq h.1
  exact hd

/-- The packet at the program counter leaves the debugger's side alone, or an EMUSTOP0 halts before it. -/
theorem runPacket_halts {ecc : Bool} (h : runPacket ecc s = .next t) : t.dbg = s.dbg ∨ haltedAt s t := by
  have hd := beforePacket_dbg ecc s
  obtain ⟨u, hk, -, -, rfl⟩ | ⟨is, fin, -, -, h⟩ := runPacket_cases h
  · exact .inl ((commit_dbg u).trans ((dbg_of_keepsPath hk).trans hd))
  obtain ⟨u, hk, -, -, rfl⟩ | ⟨u, -, hu, ht⟩ := runFormed_cases h
  · exact .inl ((commit_dbg u).trans ((dbg_of_keepsPath hk).trans hd))
  have hm : (openPacket fin (checkMarker is (beforePacket ecc s))).dbg = s.dbg := (checkMarker_dbg is _).trans hd
  obtain ⟨hpre, -⟩ := checkMarker_keepsContext is (beforePacket ecc s)
  obtain ⟨-, e⟩ | ⟨hrun, hc, -, hh, e⟩ := execAll_signals hu
  · left
    simpa using (closePacket_dbg ht).trans ((stickyLate_dbg is _).trans ((scrambleLate_dbg is u).trans (e.trans hm)))
  · obtain rfl := closePacket_of_halted ht hh
    rw [hm] at hrun e
    refine .inr ⟨hrun, (commit_dbg u).trans e, fun hf => ?_⟩
    rw [commit_of_no_fault u ((commit_fault u).symm.trans hf)]
    exact hc.trans (hpre.trans (beforePacket_pre ecc s))

/-- A boundary leaves the debugger's side alone, or halts before the packet. -/
theorem boundaryDoes_dbg (h : BoundaryDoes s t) : t.dbg = s.dbg ∨ haltedAt s t := by
  cases h with
  | wait h => exact .inl (h ▸ rfl)
  | packet ecc h => exact runPacket_halts h
  | realtime nmi vector prio u _ hu h =>
    obtain ⟨-, -, -, -, -, -, hd⟩ := enterRealtime_flow hu
    obtain ⟨v, hk, -, -, rfl⟩ := realtimeEntry_end h
    exact .inl ((commit_dbg v).trans ((dbg_of_keepsPath hk).trans hd))
  | int q u _ hu h =>
    obtain ⟨-, -, -, -, -, -, hd, -⟩ := enterInt_flow hu
    exact .inl (h ▸ (commit_dbg u).trans hd)

/-! ### Free run -/

/-- A CPU that runs free ignores break events (R585). -/
theorem step_of_freeRun (hw : s.cfg.wf = true) (hf : s.cur.fault = none) (hin : s.inputs = []) (hm : s.dbg.mode = .freeRun)
    (h : step s = .next t) : t.dbg = s.dbg := by
  have hh : ¬ held s := by simp [held, hm]
  rw [step_of_no_inputs hw hf hin, runStep_eq_boundary hh (haltNow_of_mode (by simp [hm]))] at h
  obtain ⟨u, hu, ht⟩ := andThen_eq_next h
  cases ht
  obtain hd | ⟨hn, -⟩ := boundaryDoes_dbg (boundary_does hu)
  · have ha : afterStep u = u := by simp [afterStep, hd, hm]
    rw [ha, hd]
  · exact absurd hm hn

/-! ### Single step -/

/-- A single step without DINT takes no interrupt: it is the packet at the program counter, or the wait (R583). -/
theorem step_of_singleStep (hw : s.cfg.wf = true) (hf : s.cur.fault = none) (hin : s.inputs = []) (hm : s.dbg.mode = .singleStep false) :
    step s = andThen (runOrIdle false s) fun t => .next (afterStep t) := by
  have hh : ¬ held s := by simp [held, hm]
  have hb : boundary false s = runOrIdle false s := by simp [boundary, servicesInterrupts, hm]
  rw [step_of_no_inputs hw hf hin, runStep_eq_boundary hh (haltNow_of_mode (by simp [hm])), hb]

/-- A single step that ends at an interrupt boundary without a fault ends in debug halt (R583). -/
theorem afterStep_of_singleStep {d : Bool} (hm : s.dbg.mode = .singleStep d) (hf : s.cur.fault = none) (hp : s.cur.pending = none)
    (he : s.cur.expect = .none) : afterStep s = enterHalt s := by
  simp [afterStep, hm, hf, blocked, hp, he]

/-- A single step that has not faulted and is at no interrupt boundary goes on. -/
theorem afterStep_eq_or {d : Bool} (hm : s.dbg.mode = .singleStep d) :
    afterStep s = enterHalt s ∨ (afterStep s = s ∧ ¬ (s.cur.fault = none ∧ s.cur.pending = none ∧ s.cur.expect = .none)) := by
  by_cases h : s.cur.fault = none ∧ s.cur.pending = none ∧ s.cur.expect = .none
  · obtain ⟨hf, hp, he⟩ := h
    exact .inl (afterStep_of_singleStep hm hf hp he)
  · obtain e | ⟨-, e⟩ := afterStep_cases s
    · exact .inr ⟨e, h⟩
    · exact .inl e

theorem runOrIdle_halts {ecc : Bool} (h : runOrIdle ecc s = .next t) : t.dbg = s.dbg ∨ (haltedAt s t ∧ s.cur.idle = false) := by
  simp only [runOrIdle] at h
  split_ifs at h with hi
  · cases h; exact .inl rfl
  · exact (runPacket_halts h).imp_right fun hh => ⟨hh, by simpa using hi⟩

/-- A single step without DINT keeps the latches, and at the next boundary the CPU is halted and not idle (R583). -/
theorem step_of_singleStep_ends (hw : s.cfg.wf = true) (hf : s.cur.fault = none) (hin : s.inputs = []) (hm : s.dbg.mode = .singleStep false)
    (h : step s = .next t) :
    keepsLatches s t ∧ (t.cur.fault = none → t.cur.pending = none → t.cur.expect = .none → t.dbg.mode = .halt ∧ t.cur.idle = false) := by
  rw [step_of_singleStep hw hf hin hm] at h
  obtain ⟨u, hu, ht⟩ := andThen_eq_next h
  cases ht
  have hl : keepsLatches s (afterStep u) :=
    keepsLatches_iff.2 ((keepsLatches_iff.1 (afterStep_keepsLatches u)).trans (keepsLatches_iff.1 (runOrIdle_keepsLatches hu)))
  refine ⟨hl, fun hf' hp he => ?_⟩
  obtain hd | ⟨⟨-, hd, hc⟩, hi⟩ := runOrIdle_halts hu
  · obtain e | ⟨e, hn⟩ := afterStep_eq_or (s := u) (d := false) (by rw [hd, hm])
    · rw [e]; exact ⟨rfl, rfl⟩
    · rw [e] at hf' hp he
      exact absurd ⟨hf', hp, he⟩ hn
  · have ha : afterStep u = u := by simp [afterStep, hd]
    rw [ha] at hf' ⊢
    exact ⟨by rw [hd], by rw [hc hf']; exact hi⟩

/-! ### A packet of one instruction that nothing restricts -/

/-- Outside delay slots an instruction that reads and writes nothing may be executed alone. -/
theorem packetRefusal_quiet {i : Instr} (hu : unrestricted i = true) (hq : profile i = quiet) (hp : s.cur.pending = none) (hx : s.cur.xcCover = 0) :
    packetRefusal [i] s = none := by
  have hd : distinctDsts (packetDsts [i] s) = true := by simp [packetDsts, destsOf, hq, quiet, distinctDsts]
  rw [packetRefusal_of_unrestricted (by simp [hu]) hp hx (by simp [hq, quiet]) (by simp [hq, quiet]), hd, if_pos rfl]

/-- The packet of such an instruction, where no marker is expected. -/
theorem runPacket_of_quiet {i : Instr} (hu : unrestricted i = true) (hq : profile i = quiet) (hp : s.cur.pending = none)
    (he : s.cur.expect = .none) (hx : s.cur.xcCover = 0) (hpc : s.cur.pc.toNat % 2 = 0)
    (hform : formPacket 8 s.cur.pc.toNat 0 (openStep s) = .next (.packet [i] fin)) :
    runPacket false s = andThen (execAll [i] (opened fin s)) closePacket := by
  have hm : missingMarker (openStep s).cur.expect [i] = none := by rw [show (openStep s).cur.expect = .none from he]; rfl
  rw [runPacket_of_formed hpc hform, runFormed_of_ok hm (packetRefusal_quiet hu hq hp hx), arrange_singleton]
  simp only [scrambleLate_singleton, stickyLate_singleton]
  rfl

/-- A single step of a lone NOP runs it and halts behind it (R583). -/
theorem step_of_singleStep_nop (hw : s.cfg.wf = true) (hf : s.cur.fault = none) (hin : s.inputs = []) (hm : s.dbg.mode = .singleStep false)
    (hp : s.cur.pending = none) (he : s.cur.expect = .none) (hi : s.cur.idle = false) (hx : s.cur.xcCover = 0)
    (hpc : s.cur.pc.toNat % 2 = 0) (hl : staysInLink fin s)
    (hform : formPacket 8 s.cur.pc.toNat 0 (openStep s) = .next (.packet [.nop] fin)) :
    ∃ t, step s = .next t ∧ t.cur.pc = BitVec.ofNat 32 fin ∧ t.dbg.mode = .halt ∧ t.cur.fault = none := by
  obtain ⟨hfin, hlink⟩ := hl
  obtain ⟨k, hk⟩ := closePacket_of_linear (s := opened fin s) rfl hp hf (.inr ⟨by simpa using hfin, hlink⟩)
  have hrun : runOrIdle false s = closePacket (opened fin s) := by
    rw [runOrIdle, hi, if_neg Bool.false_ne_true, runPacket_of_quiet rfl rfl hp he hx hpc hform]
    rfl
  rw [step_of_singleStep hw hf hin hm, hrun, hk, andThen_next]
  refine ⟨_, congrArg Host.Outcome.next (afterStep_of_singleStep (d := false) ?_ ?_ ?_ ?_), rfl, rfl, hf⟩
  · exact hm
  · exact hf
  · exact hp
  · rfl

/-! ### The software breakpoint -/

/-- Where EMUSTOP0 is armed its packet ends in debug halt with the state of before it (R296). -/
theorem runPacket_of_emustop0 (hb : breakArmed s = true) (hp : s.cur.pending = none) (he : s.cur.expect = .none) (hx : s.cur.xcCover = 0)
    (hpc : s.cur.pc.toNat % 2 = 0) (hform : formPacket 8 s.cur.pc.toNat 0 (openStep s) = .next (.packet [.emustop0] fin)) :
    ∃ t, runPacket false s = .next t ∧ t.dbg.mode = .halt ∧ t.cur = (openStep s).cur := by
  obtain ⟨-, -, hf⟩ := (breakArmed_iff s).1 hb
  obtain ⟨t, ht, hc, hh, hm⟩ : ∃ t, exec .emustop0 (opened fin s) = .next t ∧
      t.cur = (opened fin s).pre ∧ t.pkt.halted = true ∧ t.dbg.mode = .halt :=
    ⟨_, if_pos hb, rfl, rfl, rfl⟩
  have hx' : execAll [.emustop0] (opened fin s) = .next t := by
    rw [execAll, if_neg (by simp [PacketCtx.empty]), ht]
    rfl
  have hft : t.cur.fault = none := by rw [hc]; exact hf
  refine ⟨commit t, ?_, by rw [commit_dbg, hm], ?_⟩
  · rw [runPacket_of_quiet rfl rfl hp he hx hpc hform, hx', andThen_next, closePacket, if_pos hh]
  · rw [commit_of_no_fault t hft]
    exact hc

/-- A software breakpoint of a running CPU goes before an interrupt (R584). -/
theorem step_of_emustop0 (hw : s.cfg.wf = true) (hf : s.cur.fault = none) (hin : s.inputs = []) (hm : s.dbg.mode = .run)
    (hc : s.dbg.connected = true) (hn : s.dbg.haltPending = false) (hp : s.cur.pending = none) (he : s.cur.expect = .none)
    (hi : s.cur.idle = false) (hx : s.cur.xcCover = 0) (hpc : s.cur.pc.toNat % 2 = 0)
    (hform : formPacket 8 s.cur.pc.toNat 0 (openStep s) = .next (.packet [.emustop0] fin)) :
    ∃ t, step s = .next t ∧ t.dbg.mode = .halt ∧ t.cur = (openStep s).cur := by
  have hb : breakArmed s = true := (breakArmed_iff s).2 ⟨hc, by simp [hm], hf⟩
  have hs : stopsAtBreak s = true := by simp [stopsAtBreak, hb, hi, hpc, hform]
  have hh : ¬ held s := by simp [held, hm]
  obtain ⟨t, ht, htm, htc⟩ := runPacket_of_emustop0 hb hp he hx hpc hform
  have ha : afterStep t = t := by simp [afterStep, htm]
  refine ⟨t, ?_, htm, htc⟩
  rw [step_of_no_inputs hw hf hin, runStep_eq_boundary hh (haltNow_of_not_pending hn), boundary, if_pos (by simp [hs]), runOrIdle, hi,
    if_neg Bool.false_ne_true, ht, andThen_next, ha]

/-- Settles O52: the commands and accesses between packets, then the step in each debug state. -/
theorem debugStates : Obligations.DebugStates := by
  unfold Obligations.DebugStates
  intro s hw hf
  refine ⟨fun hin hc hp hm hpe he => ?halt, fun h => ?held, fun h => ?noReset, fun hc hm hb => ?sync, fun hin hm t => step_of_freeRun hw hf hin hm,
    fun hin hm t => step_of_singleStep_ends hw hf hin hm,
    fun fin hin hm hp he hi hx hpc hl => step_of_singleStep_nop hw hf hin hm hp he hi hx hpc hl,
    fun fin hin hm hc hn hp he hi hx hpc => step_of_emustop0 hw hf hin hm hc hn hp he hi hx hpc,
    fun r v hb => ⟨fun hc hm => ?reg, deliver_dbgWrite_of_not hf hb⟩,
    fun v hc hm => ⟨fun hb hv => ?pc, fun hb hv => ?oddPc, deliver_dbgWrite hf hc hm,
      deliver_dbgWrite hf hc hm, deliver_dbgWrite hf hc hm⟩,
    fun r v hb => deliver_dbgWrite_of_not hf hb, fun a v hb => ⟨fun hc => ?mem, deliver_dbgWriteMem_of_not hf hb⟩,
    fun hc => ⟨fun hb hm => ?request, fun hb hm => ?requestHalted, fun c m dint h => deliver_command hf hc h⟩,
    fun hc c h hb => ?disconnected⟩
  case halt =>
    cases ha : Config.dbgmAllows s.cur.dsts.dbgm
    · exact .inl rfl
    · exact .inr ⟨_, step_of_haltRequest hw hf hin hc hp hm hpe he ha, rfl, rfl⟩
  case held => exact ⟨_, step_of_held hw hf h, rfl, rfl, deliver_outputs s⟩
  case noReset => simp [resetHonoured, deliver_no_fault hf, h]
  case sync =>
    rw [deliver_eq_applyEvent hf hb, applyEvent, consumed_dbg, if_pos hm, dbgCommand_of_connected (s := consumed s) _ hc]
  case reg =>
    refine (deliver_dbgWrite hf hc hm hb).imp_left fun ⟨ha, e⟩ => ⟨ha, ?_, fun q hq => ?_⟩
    · exact (curReg_of_cur r e).trans (curReg_writeReg_same r v s)
    · exact (curReg_of_cur q e).trans (curReg_writeReg_of_ne v s fun e => hq (List.mem_singleton.2 e))
  case pc => exact ifAllowed_of_cur (deliver_dbgWrite hf hc hm hb) fun e => e.trans (congrArg State.cur (if_pos hv))
  case oddPc =>
    have hn : dbgWriteReg .pc v s = s := if_neg (by omega)
    obtain ⟨-, e⟩ | ⟨-, e⟩ := deliver_dbgWrite hf hc hm hb
    · rw [e, hn]
    · exact e
  case mem =>
    obtain ⟨hframe, hbut⟩ := busWrite_frame a v s
    refine ifAllowed_of_cur (deliver_dbgWriteMem hf hc hb) fun e => ⟨fun k hk hp => ?_, fun hr => ?_, fun b hb => ?_, ?_⟩
    · rw [e]; exact memByte_busWrite hk hp
    · rw [e]; exact busWrite_of_no_memory v s hr
    · rw [e]; exact hbut b hb
    · rw [e]; exact hframe
  case request =>
    rw [deliver_eq_applyEvent hf hb, applyEvent, requestHalt_of_running (s := consumed s) hc hm]
    rfl
  case requestHalted =>
    rw [deliver_eq_applyEvent hf hb, applyEvent, requestHalt_of_halted (s := consumed s) hm]
    rfl
  case disconnected =>
    rw [deliver_eq_applyEvent hf hb, applyEvent_of_disconnected (s := consumed s) h hc]
    rfl

end Sys2Proof.Proofs
end

section
/-! PROOFS. The step of an honoured reset: O10. Every field but memory is written anew, so that no case of the state before it matters. -/

namespace Sys2Proof.Proofs

open Sys2Proof.Machine Sys2Proof.Laws

/-- A reset that the debug state does not shut out goes before all else, FAULT included (R600). -/
theorem step_of_reset {s : State} (hw : s.cfg.wf = true) (he : Event.reset ∈ nextBatch s) (hr : resetHonoured (deliver s) = true) :
    step s = .next (takeReset (deliver s)) := by
  simp [step, stepAfter, hw, he, hr]

/-- Of the state before it a reset keeps memory and the configuration only (R110, R601). -/
theorem takeReset_cur_eq (s : State) : (takeReset s).cur = { Arch.reset s.cfg with mem := (takeReset s).cur.mem } := rfl

/-- The packet in flight at a reset has reached memory whole or not at all (R600, log entry 56). -/
theorem takeReset_mem_cases (s : State) :
    (takeReset s).cur.mem = s.cur.mem ∨ ∃ u, runPacket false s = .next u ∧ (takeReset s).cur.mem = u.cur.mem := by
  obtain h | ⟨u, hu, h, -⟩ := takeReset_cases s
  · exact .inl (by rw [h])
  · obtain ⟨-, -, hrun⟩ := inFlight_eq_some.1 hu
    exact .inr ⟨u, hrun, by rw [h]⟩

/-- Settles O10: the step is the reset, and its memory, hence each byte, is one of the two. -/
theorem resetFromAnyState : Obligations.ResetFromAnyState := by
  unfold Obligations.ResetFromAnyState
  intro s hw he hr
  refine ⟨takeReset (deliver s), step_of_reset hw he hr, ?regs, deliver_cfg s, fun a => ?byte⟩
  case regs =>
    rw [← deliver_cfg s]
    exact takeReset_cur_eq (deliver s)
  case byte =>
    obtain hm | ⟨u, hu, hm⟩ := takeReset_mem_cases (deliver s)
    · exact .inl (by rw [hm])
    · exact .inr ⟨u, hu, by rw [hm]⟩

end Sys2Proof.Proofs
end
